-- ==== Sys2Proof/Word.lean ====
section
/-! DEFINITION. Words of the WZ-418 model: bytes, station numbers, local time, labels, and the plain
number-to-byte conversions of the bus and the configuration record. -/

namespace Sys2Proof

/-- One byte of a payload or of the configuration record. -/
abbrev Byte := BitVec 8

/-- The 6-bit station field of a frame header and the six address pins (R154, R185). -/
abbrev Station := BitVec 6

/-- Local time in milliseconds since the last start completion (00 section 4, "Time"). -/
abbrev Time := Nat

/-- A count of archive minutes (R168), from 0 to `maxMinute`. -/
abbrev Minute := Nat

/-- A volume label: the character codes of its eight characters, in order (00 section 4, R160). -/
abbrev Label := List Byte

/-- The top of the 32-bit counts, 4,294,967,295 (Table 0-3, R168). -/
def maxMinute : Nat := 4294967295

/-- The broadcast destination (Table 0-3). -/
def broadcastStation : Station := 63#6

/-- The number whose bytes, most significant first, are `bs` (R160). -/
def numberOfBytes (bs : List Byte) : Nat :=
  bs.foldl (fun acc b => acc * 256 + b.toNat) 0

/-- The `n` low bytes of a number, most significant first (R160). -/
def bytesOfNumber : Nat → Nat → List Byte
  | 0, _ => []
  | n + 1, v => BitVec.ofNat 8 (v / 256 ^ n) :: bytesOfNumber n v

/-- The `n` low bits of a number, most significant first (R154). -/
def bitsOfNumber : Nat → Nat → List Bool
  | 0, _ => []
  | n + 1, v => v.testBit n :: bitsOfNumber n v

/-- A set of flags as a number, the first flag at bit 0. -/
def numberOfFlags : List Bool → Nat
  | [] => 0
  | f :: fs => (if f then 1 else 0) + 2 * numberOfFlags fs

end Sys2Proof
end

