-- ==== Sys2Proof/Syntax.lean ====
section
/-! DEFINITION. The commands of the WZ-418: one constructor of `Instr` for each row of
spec/opcode_table.json, and the types of their operands. -/

namespace Sys2Proof

/-- The four sensor groups (Table 1-1). -/
inductive Group where
  | g0 | g1 | g2 | g3
  deriving DecidableEq, Repr

/-- The place of a channel in its group: position A, position B or the spare S (Table 1-1). -/
inductive Place where
  | a | b | s
  deriving DecidableEq, Repr

/-- The two detector loops (04 section 4.1). -/
inductive LoopId where
  | a | b
  deriving DecidableEq, Repr

/-- The eight supervisory inputs IN0 to IN7 (Table 4-2). -/
inductive InputId where
  | in0 | in1 | in2 | in3 | in4 | in5 | in6 | in7
  deriving DecidableEq, Repr

/-- The two leaves of the hatch (R114). -/
inductive Leaf where
  | inner | outer
  deriving DecidableEq, Repr

/-- The sender role of a frame, coded 0 to 3 in this order (Table 9-1). -/
inductive Role where
  | zone | courierPost | console | service
  deriving DecidableEq, Repr

/-- The class of a frame, coded 0 to 3 in this order (Table 9-1). -/
inductive FrameClass where
  | fire | handover | custody | routine
  deriving DecidableEq, Repr

/-- The two outputs that can run a pattern: OUT3 and OUT4 (R170). -/
inductive Signal where
  | sounder | beacon
  deriving DecidableEq, Repr

/-- The report of the chamber tag reader: a list of labels, or OVERFULL (R117). -/
inductive TagReport where
  | labels (ls : List Label)
  | overfull
  deriving DecidableEq, Repr

/-- A frame as the line gave it (Table 9-1). `crc` is none when the line went idle before the CRC was
complete (R157). -/
structure RxFrame where
  cls : FrameClass
  source : Station
  dest : Station
  role : Role
  kind : Byte
  length : BitVec 6
  payload : List Byte
  crc : Option (BitVec 16)
  deriving DecidableEq, Repr

/-- The commands: the events of the part's timers and wiring, the requests of bus peers, and the
supply and reset events. A request carries the sender's station and role and the raw payload fields of
Table 9-4. -/
inductive Instr where
  /-- SCAN_START (R3). -/
  | scanStart
  /-- CHANNEL_ANSWER (R2): temperature in tenths of a degree, humidity in tenths of a percent, and
  whether the sensor's check value agrees. -/
  | channelAnswer (group : Group) (place : Place) (temperature : Int) (humidity : Nat) (checkAgrees : Bool)
  /-- ANSWER_WINDOW_EXPIRY (R2). -/
  | answerWindowExpiry (group : Group) (place : Place)
  /-- GROUP_STALENESS_EXPIRY (R14). -/
  | groupStalenessExpiry (group : Group)
  /-- REMAP_SOFT (R23). -/
  | remapSoft (src : Station) (role : Role) (group position : Byte)
  /-- REMAP_CLEAR (R25). -/
  | remapClear (src : Station) (role : Role) (group : Byte)
  /-- REMAP_HARD (R26). -/
  | remapHard (src : Station) (role : Role) (group position : Byte)
  /-- BURN_COMPLETION (R28). -/
  | burnCompletion
  /-- DAMPER_CONFIRMATION_EXPIRY (R47). -/
  | damperConfirmationExpiry
  /-- LOOP_READING (R51): a conversion from 0 to 1023. -/
  | loopReading (loop : LoopId) (reading : BitVec 10)
  /-- INPUT_LEVEL_CHANGE (R57): the new electrical level. -/
  | inputLevelChange (input : InputId) (high : Bool)
  /-- INPUT_HOLD_EXPIRY (R57). -/
  | inputHoldExpiry (input : InputId)
  /-- ACK_EVENTS (R62): bit n of the set names INn. -/
  | ackEvents (src : Station) (role : Role) (inputs : Byte)
  /-- LOCAL_SECOND_ADVANCE (R168). -/
  | localSecondAdvance
  /-- COUNTDOWN_EXPIRY (R75). -/
  | countdownExpiry
  /-- RELEASE_PULSE_END (R79). -/
  | releasePulseEnd
  /-- CONFIRMATION_END (R80). -/
  | confirmationEnd
  /-- HOLD_EXPIRY (R81). -/
  | holdExpiry
  /-- CANCEL_DISCHARGE (R76). -/
  | cancelDischarge (src : Station) (role : Role)
  /-- RESET_FIRE (R82). -/
  | resetFire (src : Station) (role : Role)
  /-- ARCHIVE_MINUTE_RISE (R168). -/
  | archiveMinuteRise
  /-- CHECKOUT (R96). -/
  | checkout (src : Station) (role : Role) (loan : BitVec 32) (labels : List Label)
  /-- CANCEL (R97). -/
  | cancel (src : Station) (role : Role) (label : Label) (revision : BitVec 16)
  /-- EXTEND (R98). -/
  | extendLoan (src : Station) (role : Role) (label : Label) (revision : BitVec 16) (added : BitVec 32)
  /-- SHELVED (R99). -/
  | shelved (src : Station) (role : Role) (label : Label) (revision : BitVec 16)
  /-- QUERY (R100). -/
  | query (src : Station) (role : Role) (label : Label)
  /-- LIST (R101). -/
  | list (src : Station) (role : Role) (start : Byte)
  /-- OPEN_INNER (R119). -/
  | openInner (src : Station) (role : Role)
  /-- PRESENT (R127, R130). -/
  | present (src : Station) (role : Role) (direction : Byte) (batch : BitVec 16) (count : Byte) (courier : BitVec 16)
  /-- ATTEST (R128, R133). -/
  | attest (src : Station) (role : Role) (batch : BitVec 16) (count : Byte)
  /-- ACCEPT (R128, R132). -/
  | accept (src : Station) (role : Role) (batch : BitVec 16)
  /-- WITHDRAW (R124). -/
  | withdraw (src : Station) (role : Role) (batch : BitVec 16)
  /-- STEP_TIMEOUT_EXPIRY (R124). -/
  | stepTimeoutExpiry
  /-- UNLOCK_WINDOW_EXPIRY (R115). -/
  | unlockWindowExpiry (leaf : Leaf)
  /-- TALLY_END (R117), with the tag reader's report. -/
  | tallyEnd (report : TagReport)
  /-- PURGE_COMPLETION (R135). -/
  | purgeCompletion
  /-- EXCEPTION_LIST (R150). -/
  | exceptionList (src : Station) (role : Role)
  /-- CLEAR_EXCEPTIONS (R151). -/
  | clearExceptions (src : Station) (role : Role)
  /-- FRAME_RECEIVED (R157). -/
  | frameReceived (frame : RxFrame)
  /-- FRAME_TRANSMIT_START (R155). -/
  | frameTransmitStart
  /-- CONTENTION_LOST (R156): the part reads dominant at this bit of its frame, counted from the start
  bit 0, where it sent recessive. -/
  | contentionLost (bit : Nat)
  /-- FRAME_SENT (R156). -/
  | frameSent
  /-- PEER_ENTRY_EXPIRY (R164). -/
  | peerEntryExpiry (station : Station)
  /-- NEIGHBOUR_WATCH_EXPIRY (R166). -/
  | neighbourWatchExpiry (station : Station)
  /-- PATTERN_PHASE_END (R172). -/
  | patternPhaseEnd (signal : Signal)
  /-- SET_OCCUPANCY (R175). -/
  | setOccupancy (src : Station) (role : Role) (value : Byte)
  /-- BACKUP_SUPPLY_FALL (R180). -/
  | backupSupplyFall
  /-- MAIN_POWER_LOSS (R181). -/
  | mainPowerLoss
  /-- POWER_START (R181): what the configuration memory answers (none: no answer) and what the address
  pins read. -/
  | powerStart (record : Option (List Byte)) (pins : Station)
  /-- RESET_PIN_ASSERT (R181). -/
  | resetPinAssert
  /-- RESET_PIN_RELEASE (R181). -/
  | resetPinRelease
  /-- RESTART (R182). -/
  | restart (src : Station) (role : Role)
  /-- RESTART_PENDING_EXPIRY (R182). -/
  | restartPendingExpiry
  deriving DecidableEq, Repr

end Sys2Proof
end

