-- ==== Sys2Proof/Decode.lean ====
section
/-! DEFINITION. The decoder of table words. No row of spec/opcode_table.json gives bits: the commands of
this block are events and requests, not words, so no word spells one. Frames and records are parsed in
Machine/Operands.lean. -/

namespace Sys2Proof

/-- The command a word spells by the opcode table's bits. The table gives no row any bits. -/
def decodeTableWord (_nbits _w : Nat) : Option Instr := none

end Sys2Proof
end

