-- ==== Sys2Proof/Config.lean ====
section
/-! DEFINITION. What an installation fixes (the configuration record of Table 11-1, as values in force)
and the values the spec leaves open, as constants without a body. -/

namespace Sys2Proof

/-- The configured qualifying edge of an input, coded 0, 1, 2 (R60, Table 11-1). -/
inductive QualifyingEdge where
  | rising | falling | both
  deriving DecidableEq, Repr

/-- The configuration values in force: the fields of Table 11-1. Bit n of `polarity` (set: active-low),
`reportEnable` and `fitted` is input or output n. `edges` holds two bits per input, IN0 lowest. -/
structure Settings where
  ductGroup : Nat
  neighbours : List Station
  setpoint : Nat
  deadband : Nat
  gain : Nat
  plantShare : Nat
  parkEnable : Bool
  parkOpening : Nat
  purgeDemand : Nat
  purgeTolerance : Nat
  purgeMax : Nat
  staffedDelay : Nat
  unstaffedDelay : Nat
  manualDelay : Nat
  hold : Nat
  stepTimeout : Nat
  dwellBase : Nat
  dwellCap : Nat
  detectors : Nat
  polarity : Byte
  edges : BitVec 16
  reportEnable : Byte
  fitted : Byte
  capture : Bool
  deriving DecidableEq, Repr

/-- FREE VALUE (log 16). The local second count after an advance from its top, which R168 does not give.
The argument counts the free values drawn. -/
opaque Config.secondCountPastTop : Nat → BitVec 32

/-- FREE VALUE (log 17). The byte position an OUT_OF_RANGE reply carries when the payload length does not
fit the kind, which Table 9-3 does not give. The argument counts the free values drawn. -/
opaque Config.lengthMisfitPosition : Nat → Byte

/-- FREE VALUE (log 3). Which of several timers that are due together is taken next. The argument counts
the free values drawn. -/
opaque Config.pickTogether : Nat → Nat

/-- How far a start has come at an interruption (R186): its first event alone; stage 1 done; within stage 2, a power
start having read the pins and the record, and then a cold start having written the backup items; stage 2 done, the
validity mark set; stage 3 done, with the safe outputs; stage 4 done, with the start values. -/
inductive StartStage where
  | begun | abandoned | read | written | marked | safe | valued
  deriving DecidableEq, Repr

/-- FREE VALUE (log 21). How far a start comes before a loss of main power or an assertion of the reset pin that is
already waiting when it begins; none where it completes first. R186 gives the stages of a start no durations. The
argument counts the free values drawn. -/
opaque Config.startReaches : Nat → Option StartStage

end Sys2Proof
end

