-- ==== Sys2Proof/Machine/Indexed.lean ====
section
/-! DEFINITION. Fixed numbers of like things, indexed by the names the spec uses: groups, places of a
group, loops, inputs, leaves. -/

namespace Sys2Proof.Machine

/-- One value for each sensor group. -/
structure PerGroup (α : Type) where
  g0 : α
  g1 : α
  g2 : α
  g3 : α
  deriving DecidableEq, Repr

/-- One value for each place of a group. -/
structure PerPlace (α : Type) where
  a : α
  b : α
  s : α
  deriving DecidableEq, Repr

/-- One value for each detector loop. -/
structure PerLoop (α : Type) where
  a : α
  b : α
  deriving DecidableEq, Repr

/-- One value for each supervisory input. -/
structure PerInput (α : Type) where
  in0 : α
  in1 : α
  in2 : α
  in3 : α
  in4 : α
  in5 : α
  in6 : α
  in7 : α
  deriving DecidableEq, Repr

/-- One value for each leaf. -/
structure PerLeaf (α : Type) where
  inner : α
  outer : α
  deriving DecidableEq, Repr

/-- The four groups in order. -/
def allGroups : List Group := [.g0, .g1, .g2, .g3]

/-- The three places in order. -/
def allPlaces : List Place := [.a, .b, .s]

/-- The twelve channels in the order of Table 1-1. -/
def allChannels : List (Group × Place) := allGroups.flatMap (fun g => allPlaces.map (fun p => (g, p)))

/-- The eight inputs in order. -/
def allInputs : List InputId := [.in0, .in1, .in2, .in3, .in4, .in5, .in6, .in7]

def PerGroup.get {α : Type} (v : PerGroup α) : Group → α
  | .g0 => v.g0
  | .g1 => v.g1
  | .g2 => v.g2
  | .g3 => v.g3

def PerGroup.set {α : Type} (v : PerGroup α) (g : Group) (x : α) : PerGroup α :=
  match g with
  | .g0 => { v with g0 := x }
  | .g1 => { v with g1 := x }
  | .g2 => { v with g2 := x }
  | .g3 => { v with g3 := x }

/-- The value given by a rule for each group. -/
def PerGroup.of {α : Type} (f : Group → α) : PerGroup α := ⟨f .g0, f .g1, f .g2, f .g3⟩

def PerPlace.get {α : Type} (v : PerPlace α) : Place → α
  | .a => v.a
  | .b => v.b
  | .s => v.s

def PerPlace.set {α : Type} (v : PerPlace α) (p : Place) (x : α) : PerPlace α :=
  match p with
  | .a => { v with a := x }
  | .b => { v with b := x }
  | .s => { v with s := x }

def PerPlace.of {α : Type} (f : Place → α) : PerPlace α := ⟨f .a, f .b, f .s⟩

def PerLoop.get {α : Type} (v : PerLoop α) : LoopId → α
  | .a => v.a
  | .b => v.b

def PerLoop.set {α : Type} (v : PerLoop α) (l : LoopId) (x : α) : PerLoop α :=
  match l with
  | .a => { v with a := x }
  | .b => { v with b := x }

/-- The other loop. -/
def otherLoop : LoopId → LoopId
  | .a => .b
  | .b => .a

def PerInput.get {α : Type} (v : PerInput α) : InputId → α
  | .in0 => v.in0
  | .in1 => v.in1
  | .in2 => v.in2
  | .in3 => v.in3
  | .in4 => v.in4
  | .in5 => v.in5
  | .in6 => v.in6
  | .in7 => v.in7

def PerInput.set {α : Type} (v : PerInput α) (i : InputId) (x : α) : PerInput α :=
  match i with
  | .in0 => { v with in0 := x }
  | .in1 => { v with in1 := x }
  | .in2 => { v with in2 := x }
  | .in3 => { v with in3 := x }
  | .in4 => { v with in4 := x }
  | .in5 => { v with in5 := x }
  | .in6 => { v with in6 := x }
  | .in7 => { v with in7 := x }

def PerInput.of {α : Type} (f : InputId → α) : PerInput α :=
  ⟨f .in0, f .in1, f .in2, f .in3, f .in4, f .in5, f .in6, f .in7⟩

/-- The number n of input INn. -/
def inputNumber : InputId → Nat
  | .in0 => 0
  | .in1 => 1
  | .in2 => 2
  | .in3 => 3
  | .in4 => 4
  | .in5 => 5
  | .in6 => 6
  | .in7 => 7

def PerLeaf.get {α : Type} (v : PerLeaf α) : Leaf → α
  | .inner => v.inner
  | .outer => v.outer

def PerLeaf.set {α : Type} (v : PerLeaf α) (l : Leaf) (x : α) : PerLeaf α :=
  match l with
  | .inner => { v with inner := x }
  | .outer => { v with outer := x }

/-- The other leaf. -/
def otherLeaf : Leaf → Leaf
  | .inner => .outer
  | .outer => .inner

end Sys2Proof.Machine
end

