-- ==== Sys2Proof/Machine/State.lean ====
section
/-! DEFINITION. Everything the spec gives the part to hold, as plain data: one structure for each block,
`Part` for the whole part, and `State` for the part with its queue of waiting commands. -/

namespace Sys2Proof.Machine

/-! ## Moisture unit (chapter 1) -/

/-- A channel's standing (Table 1-2). -/
inductive Health where
  | healthy | suspect | failed
  deriving DecidableEq, Repr

/-- The channel record (Table 1-2). -/
structure Channel where
  lastMoisture : Option Nat
  health : Health
  goodCount : Nat
  missCount : Nat
  readThisScan : Bool
  deriving DecidableEq, Repr

/-- The standing of a group value (Table 1-5). -/
inductive Freshness where
  | fresh | stale | lost
  deriving DecidableEq, Repr

/-- The group record (Table 1-5). -/
structure GroupRecord where
  moisture : Option Nat
  freshness : Freshness
  staleSince : Option Time
  deriving DecidableEq, Repr

/-- A scan in flight (R2): when its answer windows expire and which channels have an outcome. -/
structure Scan where
  windowEnd : Time
  decided : PerGroup (PerPlace Bool)
  deriving DecidableEq, Repr

/-- The moisture unit. `store` and `chamber` are none while unavailable (R16, R17). -/
structure MoistureUnit where
  channels : PerGroup (PerPlace Channel)
  groups : PerGroup GroupRecord
  scan : Option Scan
  lastScanStart : Time
  nextScan : Time
  store : Option Nat
  chamber : Option Nat
  deriving DecidableEq, Repr

/-! ## Substitution store (chapter 2) -/

/-- A position of a group: A or B (R1). -/
inductive Position where
  | a | b
  deriving DecidableEq, Repr

/-- The one-time spare cell (Table 2-1). -/
inductive SpareCell where
  | unused | hardA | hardB | lost
  deriving DecidableEq, Repr

/-- The burn record (Table 2-1). -/
structure Burn where
  group : Group
  position : Position
  start : Time
  deriving DecidableEq, Repr

/-- The substitution store (Table 2-1). -/
structure SubstitutionStore where
  soft : PerGroup (Option Position)
  cell : PerGroup SpareCell
  burn : Option Burn
  spareLost : PerGroup Bool
  deriving DecidableEq, Repr

/-! ## Climate governor (chapter 3) -/

/-- The air path state, coded 0 to 4 in this order (Table 10-3). -/
inductive AirPath where
  | shut | purge | drive | park | closed
  deriving DecidableEq, Repr

/-- The climate governor (Table 3-1). -/
structure ClimateGovernor where
  demand : Nat
  effective : Nat
  grant : Nat
  airPath : AirPath
  damper : Nat
  fan : Bool
  plant : Bool
  confirmation : Option Time
  damperFault : Bool
  plantFault : Bool
  deriving DecidableEq, Repr

/-! ## Loops and inputs (chapter 4) -/

/-- The class of a loop reading (Table 4-1); `det k` is detector k in alarm. -/
inductive LoopClass where
  | short
  | multi
  | det (k : Nat)
  | trouble
  | normal
  | openLoop
  deriving DecidableEq, Repr

/-- The loop monitor's state for one loop (04 section 4.1), with the time of its next conversion. -/
structure LoopState where
  accepted : LoopClass
  candidate : Option LoopClass
  count : Nat
  fault : Bool
  nextConversion : Time
  deriving DecidableEq, Repr

/-- The input latch unit's state for one input (04 section 4.2), with the level on its wire. `accepted` is
`some true` for active, `some false` for inactive, none for not yet accepted; levels are true for high. -/
structure InputState where
  electrical : Bool
  accepted : Option Bool
  pendingLevel : Option Bool
  holdExpiry : Option Time
  latch : Bool
  deriving DecidableEq, Repr

/-! ## Fire sequencer (chapter 5) -/

/-- The fire state, coded 0 to 5 in this order (Table 10-3). -/
inductive FireState where
  | quiet | alert | preDischarge | discharged | hold | spent
  deriving DecidableEq, Repr

/-- The first detector of an alarm record: 1 to 7, or MULTI (R67). -/
inductive Detector where
  | number (k : Nat)
  | multi
  deriving DecidableEq, Repr

/-- The alarm record (R67). -/
structure AlarmRecord where
  firstLoop : Option LoopId
  firstDetector : Option Detector
  minute : Minute
  deriving DecidableEq, Repr

/-- The fire sequencer (Table 5-1). -/
structure FireSequencer where
  state : FireState
  paused : Bool
  countdown : Option Nat
  pulseEnd : Option Time
  confirmationEnd : Option Time
  pressureFall : Bool
  holdEnd : Option Time
  alarm : Option AlarmRecord
  cylinderLow : Bool
  releaseUnconfirmed : Bool
  deriving DecidableEq, Repr

/-! ## Custody table (chapter 6) -/

/-- The stage of a custody record (Table 6-1). -/
inductive RecordState where
  | reserved | stagedOut | onLoan | stagedIn | acclimatising | ready
  deriving DecidableEq, Repr

/-- The custody record (Table 6-1). -/
structure CustodyRecord where
  label : Label
  state : RecordState
  revision : BitVec 8
  foreign : Bool
  overdue : Bool
  batch : Option Nat
  courier : Option Nat
  reserveMinute : Minute
  loanLength : Option Nat
  loanStart : Option Minute
  due : Option Minute
  returnMinute : Option Minute
  dwellEnd : Option Minute
  deriving DecidableEq, Repr

/-- The custody table (chapter 6): records in order of creation, held slots, batch counter, CUSTODY_LOST. -/
structure CustodyTable where
  records : List CustodyRecord
  held : Nat
  batchCounter : Nat
  lost : Bool
  deriving DecidableEq, Repr

/-! ## Hatch (chapter 7) -/

/-- The hatch state, coded 0 to 9 in this order (Table 7-2, Table 10-3). -/
inductive HatchState where
  | empty | innerAccess | tallying | staged | irregular | outerAccess | received | purging | innerRelease
  | retrieve
  deriving DecidableEq, Repr

/-- The direction of a batch, coded 0, 1 (Table 9-4). -/
inductive Direction where
  | out | inward
  deriving DecidableEq, Repr

/-- The handover stage (Table 7-1). -/
inductive Stage where
  | none | presented | attested | accepted | tallied
  deriving DecidableEq, Repr

/-- The kinds of HANDOVER requests (R121). -/
inductive StepKind where
  | present | attest | accept | withdraw
  deriving DecidableEq, Repr

/-- The last accepted step (Table 7-1). -/
structure AcceptedStep where
  kind : StepKind
  station : Station
  batch : Nat
  deriving DecidableEq, Repr

/-- The excess at return (Table 7-1, R131). -/
inductive Excess where
  | available (x : Nat)
  | unavailable
  deriving DecidableEq, Repr

/-- Whether the tally after a start is still to come (R141): no, yes with the hatch state the start
retained, or yes after a forcing since the start. -/
inductive StartTally where
  | no | retained | forced
  deriving DecidableEq, Repr

/-- The hatch context (Table 7-1). `backupState` is the backup copy of the hatch state. `handedStore` and
`handedChamber` are the moisture figures of the last scan hand-off (R18). -/
structure HatchContext where
  state : HatchState
  backupState : HatchState
  tallyLeaf : Option Leaf
  direction : Option Direction
  batch : Option Nat
  tallyList : Option TagReport
  stage : Stage
  handoverOpen : Bool
  courier : Option Nat
  courierPost : Option Station
  console : Option Station
  declared : Option Nat
  excess : Option Excess
  dose : Nat
  lastStep : Option AcceptedStep
  locks : PerLeaf Bool
  windows : PerLeaf (Option Time)
  tallyEnd : Option Time
  stepTimeout : Option Time
  returnState : Option HatchState
  purgeTime : Nat
  toleranceRun : Nat
  purgeRequest : Bool
  leafForced : Bool
  handedStore : Option Nat
  handedChamber : Option Nat
  startTally : StartTally
  deriving DecidableEq, Repr

/-! ## Exception list (chapter 8) -/

/-- The kinds of exception (Table 8-1). -/
inductive ExceptionKind where
  | readingClamped | purgeTimeout | doseSaturated | dwellCapped | noChamberReading
  deriving DecidableEq, Repr

/-- What an exception carries (Table 8-2): a group, or a batch number. -/
inductive ExceptionSubject where
  | group (g : Group)
  | batch (n : Nat)
  deriving DecidableEq, Repr

/-- An entry of the exception list (Table 8-2). -/
structure ExceptionEntry where
  kind : ExceptionKind
  minute : Minute
  subject : ExceptionSubject
  deriving DecidableEq, Repr

/-- The five sticky flags and LIST_FULL (08 section 8.5). -/
structure ExceptionFlags where
  readingClamped : Bool
  purgeTimeout : Bool
  doseSaturated : Bool
  dwellCapped : Bool
  noChamberReading : Bool
  listFull : Bool
  deriving DecidableEq, Repr

/-- The exception list and its flags (R148, R149). -/
structure ExceptionStore where
  entries : List ExceptionEntry
  flags : ExceptionFlags
  deriving DecidableEq, Repr

/-! ## Bus port (chapter 9): what a queued frame carries -/

/-- The occupancy, coded 0, 1 (R174, Table 10-3). -/
inductive Occupancy where
  | staffed | unstaffed
  deriving DecidableEq, Repr

/-- The content of a FIRE_STATE frame (R84). -/
structure FireContent where
  state : FireState
  paused : Bool
  countdown : Option Nat
  alarm : Option AlarmRecord
  cylinderLow : Bool
  releaseUnconfirmed : Bool
  loopAFault : Bool
  loopBFault : Bool
  damperFault : Bool
  deriving DecidableEq, Repr

/-- The content of a CLIMATE frame (R35). -/
structure ClimateContent where
  ductGroup : Nat
  effective : Nat
  airPath : AirPath
  deriving DecidableEq, Repr

/-- The content of a STATUS frame (Table 10-3). -/
structure StatusContent where
  minute : Minute
  fire : FireState
  occupancy : Occupancy
  store : Option Nat
  chamber : Option Nat
  effective : Nat
  airPath : AirPath
  hatch : HatchState
  batch : Option Nat
  inUse : Nat
  overdue : Nat
  acclimatising : Nat
  ready : Nat
  latches : BitVec 8
  faults : BitVec 24
  exceptions : ExceptionFlags
  deriving DecidableEq, Repr

/-- The type of a HANDOVER_NOTICE, coded 0 to 3 in this order (R122, Table 9-4). -/
inductive NoticeType where
  | outerUnlocked | innerUnlocked | complete | abandoned
  deriving DecidableEq, Repr

/-- The cause of an abandonment, coded 0 to 6 in this order (R122, Table 9-4). -/
inductive Cause where
  | sequence | timeout | withdrawn | fire | forcedLeaf | windowExpired | mismatch
  deriving DecidableEq, Repr

/-- The content of a HANDOVER_NOTICE (R122). -/
structure NoticeContent where
  noticeType : NoticeType
  direction : Direction
  batch : Nat
  hatch : HatchState
  cause : Option Cause
  deriving DecidableEq, Repr

/-- The reply statuses, numbered from 0 in this order (Table 9-3, R160). -/
inductive Status where
  | done | clamped | refusedState | staleRevision | busy | tableFull | notFound | duplicate | zoneHeld
  | defaulted | badRole | unknownKind | outOfRange | noSpare | softActive | spareUnfit | hatchOpen | unstaffed
  | refusedSequence
  deriving DecidableEq, Repr

/-- The substitution summary (Table 2-3). -/
structure SubstitutionSummary where
  group : Group
  soft : Option Position
  cell : SpareCell
  spareHealth : Health
  burn : Option (Group × Position)
  deriving DecidableEq, Repr

/-- The per-label result of a CHECKOUT (R96). -/
inductive LabelResult where
  | done (revision : BitVec 8)
  | duplicate (state : RecordState) (revision : BitVec 8)
  | tableFull
  deriving DecidableEq, Repr

/-- The summary of a record in a LIST reply (R101). -/
structure RecordSummary where
  label : Label
  state : RecordState
  revision : BitVec 8
  overdue : Bool
  foreign : Bool
  deriving DecidableEq, Repr

/-- The data a REPLY carries, as the status and the owner's rule call for (Table 9-3, log 18). -/
inductive ReplyData where
  | nothing
  | fireState (f : FireState)
  | hatchState (h : HatchState)
  | recordState (r : RecordState)
  | revisionAndState (revision : BitVec 8) (state : RecordState)
  | substitution (summary : SubstitutionSummary)
  | substitutionAndFire (summary : SubstitutionSummary) (fire : FireState)
  | role (r : Role)
  | kind (k : Byte)
  | bytePosition (p : Byte)
  | hatchAndStage (h : HatchState) (g : Stage)
  | latches (set : PerInput Bool)
  | occupancy (o : Occupancy)
  | labelResults (results : List LabelResult)
  | extended (revision : BitVec 8) (due : Minute) (overdue : Bool)
  | record (r : CustodyRecord)
  | listing (inUse start : Nat) (summaries : List RecordSummary)
  | exceptions (entries : List ExceptionEntry) (flags : ExceptionFlags) (capture : Bool)
  deriving DecidableEq, Repr

/-- The content of a REPLY (R159): the kind value of the request, the status and its data. -/
structure ReplyContent where
  kind : Byte
  status : Status
  data : ReplyData
  deriving DecidableEq, Repr

/-- What a frame of this part carries. -/
inductive Body where
  | fireState (c : FireContent)
  | climate (c : ClimateContent)
  | status (c : StatusContent)
  | notice (c : NoticeContent)
  | reply (c : ReplyContent)
  deriving DecidableEq, Repr

/-- A frame of the transmit queue (R161). `restartReply` marks the DONE reply whose leaving the queue
begins the pending restart (R182, log 36). -/
structure TxFrame where
  cls : FrameClass
  dest : Station
  body : Body
  onLine : Bool
  restartReply : Bool
  deriving DecidableEq, Repr

/-- The bus port: the transmit queue in queue order, and the station number (none: listen-only, R167). -/
structure BusPort where
  queue : List TxFrame
  station : Option Station
  deriving DecidableEq, Repr

/-! ## Peer view and archive clock (chapter 9) -/

/-- An entry of the peer view (R163). -/
structure PeerEntry where
  station : Station
  role : Role
  ductGroup : Option Nat
  fireState : Option FireState
  demand : Option (Nat × Time)
  lastFrame : Time
  silent : Bool
  deriving DecidableEq, Repr

/-- The watch of a configured neighbour (R166). -/
structure NeighbourWatch where
  station : Station
  heard : Time
  silent : Bool
  deriving DecidableEq, Repr

/-- The peer view (R163 to R166). -/
structure PeerView where
  entries : List PeerEntry
  tableFull : Bool
  watches : List NeighbourWatch
  deriving DecidableEq, Repr

/-- The archive clock (R168) with local time in milliseconds. `minuteRiseDue` says that the second-of-minute
count has reached 60 and the rise has not been taken (log 15). -/
structure ArchiveClock where
  localTime : Time
  second : Nat
  secondOfMinute : Nat
  minute : Minute
  nextSecond : Time
  minuteRiseDue : Bool
  deriving DecidableEq, Repr

/-! ## Outputs (chapter 10) -/

/-- The sounder and beacon patterns (R172). -/
inductive Pattern where
  | alert | preDischarge
  deriving DecidableEq, Repr

/-- What an owner can request of a digital output (Table 10-1). -/
inductive OutputRequest where
  | drivenOff
  | drivenOn
  | pattern (p : Pattern)
  deriving DecidableEq, Repr

/-- The state of a digital output (R170). A pattern holds its phase (true: on) and phase end (R172). -/
inductive OutputState where
  | released
  | drivenOff
  | drivenOn
  | pattern (p : Pattern) (onPhase : Bool) (phaseEnd : Time)
  deriving DecidableEq, Repr

/-- A digital output with the last request recorded for it (R170). -/
structure DigitalOutput where
  request : OutputRequest
  state : OutputState
  deriving DecidableEq, Repr

/-- OUT5 (R171): the recorded opening and the opening it is driven to, none while RELEASED. -/
structure DamperOutput where
  request : Nat
  opening : Option Nat
  deriving DecidableEq, Repr

/-- The output driver unit (R170). -/
structure OutputDriver where
  out0 : DigitalOutput
  out1 : DigitalOutput
  out2 : DigitalOutput
  out3 : DigitalOutput
  out4 : DigitalOutput
  out5 : DamperOutput
  out6 : DigitalOutput
  out7 : DigitalOutput
  deriving DecidableEq, Repr

/-! ## Start-up (chapter 11) -/

/-- What a power start reads: the answer of the configuration memory and the address pins. -/
structure PowerReading where
  record : Option (List Byte)
  pins : Station
  deriving DecidableEq, Repr

/-- A power start: cold or warm, decided at its first event and kept when it is begun again, and what it reads (R181). -/
structure PowerStart where
  cold : Bool
  reading : PowerReading
  deriving DecidableEq, Repr

/-- A start between its first event and its completion (R181, R186). -/
inductive StartInProgress where
  | power (x : PowerStart)
  | restart
  deriving DecidableEq, Repr

/-- Start-up: supplies, reset pin, validity mark, the power start held by the reset pin (R181, log 22), the start that is
in progress, the deadline of a pending restart, and the configuration in force. -/
structure StartUp where
  mainOn : Bool
  resetAsserted : Bool
  heldStart : Option PowerStart
  inProgress : Option StartInProgress
  backupValid : Bool
  restartDeadline : Option Time
  settings : Settings
  defaulted : Bool
  deriving DecidableEq, Repr

/-! ## The whole part -/

/-- The part: every block, and the model's own count of drawn free values. -/
structure Part where
  moisture : MoistureUnit
  substitution : SubstitutionStore
  climate : ClimateGovernor
  loops : PerLoop LoopState
  inputs : PerInput InputState
  fire : FireSequencer
  custody : CustodyTable
  hatch : HatchContext
  exceptions : ExceptionStore
  bus : BusPort
  peers : PeerView
  clock : ArchiveClock
  outputs : OutputDriver
  occupancy : Occupancy
  startUp : StartUp
  freeDraws : Nat
  deriving DecidableEq, Repr

/-- The machine: the part and the commands that wait, first in, first out. -/
structure State extends Part where
  pending : List Instr
  deriving DecidableEq, Repr

/-- The model's faults. There is none: the spec describes no event that stops the part, so the type has no
constructor and no step can fault. -/
inductive Fault where
  deriving DecidableEq, Repr

/-- The model's refusals. -/
inductive Refusal where
  /-- Raised only by an arm of `exec` whose command has no meaning yet; no arm is so. Safe: the machine
  stops where the part goes on. -/
  | notModelled (mnemonic : String)
  deriving DecidableEq, Repr

/-! ## Named updates, one for each block -/

def Part.withMoisture (p : Part) (x : MoistureUnit) : Part := { p with moisture := x }
def Part.withSubstitution (p : Part) (x : SubstitutionStore) : Part := { p with substitution := x }
def Part.withClimate (p : Part) (x : ClimateGovernor) : Part := { p with climate := x }
def Part.withLoops (p : Part) (x : PerLoop LoopState) : Part := { p with loops := x }
def Part.withInputs (p : Part) (x : PerInput InputState) : Part := { p with inputs := x }
def Part.withFire (p : Part) (x : FireSequencer) : Part := { p with fire := x }
def Part.withCustody (p : Part) (x : CustodyTable) : Part := { p with custody := x }
def Part.withHatch (p : Part) (x : HatchContext) : Part := { p with hatch := x }
def Part.withExceptions (p : Part) (x : ExceptionStore) : Part := { p with exceptions := x }
def Part.withBus (p : Part) (x : BusPort) : Part := { p with bus := x }
def Part.withPeers (p : Part) (x : PeerView) : Part := { p with peers := x }
def Part.withClock (p : Part) (x : ArchiveClock) : Part := { p with clock := x }
def Part.withOutputs (p : Part) (x : OutputDriver) : Part := { p with outputs := x }
def Part.withOccupancy (p : Part) (x : Occupancy) : Part := { p with occupancy := x }
def Part.withStartUp (p : Part) (x : StartUp) : Part := { p with startUp := x }
def Part.withFreeDraws (p : Part) (x : Nat) : Part := { p with freeDraws := x }

/-! ## Values every start gives (Table 11-2), and the reset state -/

/-- Every channel record after a start (R8). -/
def Channel.atStart : Channel :=
  { lastMoisture := none, health := .suspect, goodCount := 0, missCount := 0, readThisScan := false }

/-- Every group record after a start (R15): start completion is local time 0. -/
def GroupRecord.atStart : GroupRecord := { moisture := none, freshness := .stale, staleSince := some 0 }

/-- The moisture unit after a start, before its first scan begins (R8, R15, R16). -/
def MoistureUnit.atStart : MoistureUnit :=
  { channels := PerGroup.of (fun _ => PerPlace.of (fun _ => Channel.atStart))
    groups := PerGroup.of (fun _ => GroupRecord.atStart)
    scan := none, lastScanStart := 0, nextScan := 0, store := none, chamber := none }

/-- The climate governor after a start (R49), before the SHUT test of start completion. -/
def ClimateGovernor.atStart : ClimateGovernor :=
  { demand := 0, effective := 0, grant := 0, airPath := .closed, damper := 0, fan := false, plant := false
    confirmation := none, damperFault := false, plantFault := false }

/-- A loop after a start (R56); its first conversion is made at start completion (R51). -/
def LoopState.atStart : LoopState :=
  { accepted := .normal, candidate := none, count := 0, fault := false, nextConversion := 0 }

/-- The fire sequencer after a cold start (R86, R87). -/
def FireSequencer.cold : FireSequencer :=
  { state := .quiet, paused := false, countdown := none, pulseEnd := none, confirmationEnd := none
    pressureFall := false, holdEnd := none, alarm := none, cylinderLow := false, releaseUnconfirmed := false }

/-- The hatch context after a cold start (R139). No start tally is awaited: while the context stays as it is here, the
tally by R117 is the staging tally of R139. That a request taken before the leaves are first accepted unlocks its leaf,
and that the first tally then follows the context it made, is the model's choice (log 52). -/
def HatchContext.cold : HatchContext :=
  { state := .empty, backupState := .empty, tallyLeaf := none, direction := none, batch := none
    tallyList := none, stage := .none, handoverOpen := false, courier := none, courierPost := none
    console := none, declared := none, excess := none, dose := 0, lastStep := none
    locks := ⟨false, false⟩, windows := ⟨none, none⟩, tallyEnd := none, stepTimeout := none
    returnState := none, purgeTime := 0, toleranceRun := 0, purgeRequest := false, leafForced := false
    handedStore := none, handedChamber := none, startTally := .no }

/-- No flag set (R153). -/
def ExceptionFlags.clear : ExceptionFlags := ⟨false, false, false, false, false, false⟩

/-- The exception list and flags after a start (R153). -/
def ExceptionStore.empty : ExceptionStore := { entries := [], flags := ExceptionFlags.clear }

/-- The Default column of Table 11-1. -/
def Settings.default : Settings :=
  { ductGroup := 0, neighbours := [], setpoint := 600, deadband := 50, gain := 12, plantShare := 200
    parkEnable := false, parkOpening := 0, purgeDemand := 96, purgeTolerance := 80, purgeMax := 600
    staffedDelay := 30, unstaffedDelay := 10, manualDelay := 10, hold := 600, stepTimeout := 120
    dwellBase := 60, dwellCap := 2880, detectors := 7, polarity := 0#8, edges := 0xAAAA#16
    reportEnable := 255#8, fitted := 255#8, capture := true }

/-- Every output while the part is not driving: RELEASED, nothing recorded (R181, R186). -/
def OutputDriver.released : OutputDriver :=
  let o : DigitalOutput := { request := .drivenOff, state := .released }
  { out0 := o, out1 := o, out2 := o, out3 := o, out4 := o, out5 := { request := 0, opening := none }
    out6 := o, out7 := o }

/-- The part as made: never started, main supply off (log 1). Its validity mark reads invalid (R180), its
spare cells are UNUSED (Table 2-1), every output is RELEASED, and every other item holds the value a cold
start gives it. -/
def Part.new : Part :=
  { moisture := MoistureUnit.atStart
    substitution :=
      { soft := PerGroup.of (fun _ => none), cell := PerGroup.of (fun _ => .unused), burn := none
        spareLost := PerGroup.of (fun _ => false) }
    climate := ClimateGovernor.atStart
    loops := ⟨LoopState.atStart, LoopState.atStart⟩
    inputs := PerInput.of (fun _ =>
      { electrical := false, accepted := none, pendingLevel := none, holdExpiry := none, latch := false })
    fire := FireSequencer.cold
    custody := { records := [], held := 0, batchCounter := 0, lost := false }
    hatch := HatchContext.cold
    exceptions := ExceptionStore.empty
    bus := { queue := [], station := none }
    peers := { entries := [], tableFull := false, watches := [] }
    clock :=
      { localTime := 0, second := 0, secondOfMinute := 0, minute := 0, nextSecond := 0, minuteRiseDue := false }
    outputs := OutputDriver.released
    occupancy := .staffed
    startUp :=
      { mainOn := false, resetAsserted := false, heldStart := none, inProgress := none, backupValid := false
        restartDeadline := none, settings := Settings.default, defaulted := false }
    freeDraws := 0 }

/-- The machine before anything has happened to it: a new part, with no command waiting (log 1). -/
def State.reset : State := { toPart := Part.new, pending := [] }

end Sys2Proof.Machine
end

