-- ==== Sys2Proof/WellFormed.lean ====
section
/-! DEFINITION. Which command terms a sender can physically give. The part's own range tests (R158) are
not here: a request with a field out of its range is well formed and is answered OUT_OF_RANGE. -/

namespace Sys2Proof

/-- A character of a label: A to Z or 0 to 9 (00 section 4, R160). -/
def labelChar (c : Byte) : Bool :=
  (48 ≤ c.toNat && c.toNat ≤ 57) || (65 ≤ c.toNat && c.toNat ≤ 90)

/-- A cartridge label: eight characters from A to Z and 0 to 9. -/
def validLabel (l : Label) : Bool := l.length == 8 && l.all labelChar

/-- A station number a frame can name as its sender: 1 to 62 (Table 9-1). -/
def validStation (n : Station) : Bool := n != 0#6 && n != 63#6

/-- The number of bits of a frame of the greatest length (R154). -/
def longestFrameBits : Nat := 367

/-- What a sender can physically give: requests come from stations 1 to 62 and carry whole labels of
eight bytes, the reader reports at most eight distinct cartridge labels (R117), a whole frame carries as
many payload bytes as its length field says (R154), the configuration memory holds 39 bytes (Table
11-1), and a frame has at most 367 bits. -/
def wellFormed : Instr → Bool
  | .scanStart => true
  | .channelAnswer _ _ _ _ _ => true
  | .answerWindowExpiry _ _ => true
  | .groupStalenessExpiry _ => true
  | .remapSoft src _ _ _ => validStation src
  | .remapClear src _ _ => validStation src
  | .remapHard src _ _ _ => validStation src
  | .burnCompletion => true
  | .damperConfirmationExpiry => true
  | .loopReading _ _ => true
  | .inputLevelChange _ _ => true
  | .inputHoldExpiry _ => true
  | .ackEvents src _ _ => validStation src
  | .localSecondAdvance => true
  | .countdownExpiry => true
  | .releasePulseEnd => true
  | .confirmationEnd => true
  | .holdExpiry => true
  | .cancelDischarge src _ => validStation src
  | .resetFire src _ => validStation src
  | .archiveMinuteRise => true
  | .checkout src _ _ labels => validStation src && labels.all (fun l => l.length == 8)
  | .cancel src _ label _ => validStation src && label.length == 8
  | .extendLoan src _ label _ _ => validStation src && label.length == 8
  | .shelved src _ label _ => validStation src && label.length == 8
  | .query src _ label => validStation src && label.length == 8
  | .list src _ _ => validStation src
  | .openInner src _ => validStation src
  | .present src _ _ _ _ _ => validStation src
  | .attest src _ _ _ => validStation src
  | .accept src _ _ => validStation src
  | .withdraw src _ _ => validStation src
  | .stepTimeoutExpiry => true
  | .unlockWindowExpiry _ => true
  | .tallyEnd (.labels ls) => decide (ls.length ≤ 8) && ls.all validLabel && decide ls.Nodup
  | .tallyEnd .overfull => true
  | .purgeCompletion => true
  | .exceptionList src _ => validStation src
  | .clearExceptions src _ => validStation src
  | .frameReceived f => f.crc.isNone || f.payload.length == f.length.toNat
  | .frameTransmitStart => true
  | .contentionLost bit => decide (bit < longestFrameBits)
  | .frameSent => true
  | .peerEntryExpiry station => validStation station
  | .neighbourWatchExpiry station => validStation station
  | .patternPhaseEnd _ => true
  | .setOccupancy src _ _ => validStation src
  | .backupSupplyFall => true
  | .mainPowerLoss => true
  | .powerStart record _ => record.all (fun bytes => bytes.length == 39)
  | .resetPinAssert => true
  | .resetPinRelease => true
  | .restart src _ => validStation src
  | .restartPendingExpiry => true

end Sys2Proof
end

