-- ==== Sys2Proof/Machine/Operands.lean ====
section
/-! DEFINITION. Operand forms: the requests and their payloads (R158, R160), the frame check and the bits of
a frame (R154), the codes of the broadcast payloads (R160, R178), and the configuration record (R183). -/

namespace Sys2Proof.Machine

/-! ## Frame check and frame bits -/

/-- One step of the CRC-16 with generator x^16 + x^12 + x^5 + 1 (R154). -/
def crcStep (crc : BitVec 16) (bit : Bool) : BitVec 16 :=
  if crc.msb != bit then (crc <<< 1) ^^^ 0x1021#16 else crc <<< 1

/-- The CRC-16 over a run of bits, preset to all ones, without inversion (R154, Table 11-1). -/
def crc16 (bits : List Bool) : BitVec 16 := bits.foldl crcStep 0xFFFF#16

/-- The bits of a run of bytes, each most significant bit first (R154). -/
def bitsOfBytes (bs : List Byte) : List Bool := bs.flatMap (fun b => bitsOfNumber 8 b.toNat)

/-- The code of a class (Table 9-1). -/
def classCode : FrameClass → Nat
  | .fire => 0
  | .handover => 1
  | .custody => 2
  | .routine => 3

/-- The code of a role (Table 9-1). -/
def roleCode : Role → Nat
  | .zone => 0
  | .courierPost => 1
  | .console => 2
  | .service => 3

/-- The bits of a frame from class through payload, over which its CRC is computed (R154). -/
def checkedBits (cls : FrameClass) (source dest : Station) (role : Role) (kind : Byte) (length : Nat)
    (payload : List Byte) : List Bool :=
  bitsOfNumber 2 (classCode cls) ++ bitsOfNumber 6 source.toNat ++ bitsOfNumber 6 dest.toNat
    ++ bitsOfNumber 2 (roleCode role) ++ bitsOfNumber 8 kind.toNat ++ bitsOfNumber 6 length
    ++ bitsOfBytes payload

/-- The CRC the part computes over a received frame (R157). -/
def computedCrc (f : RxFrame) : BitVec 16 :=
  crc16 (checkedBits f.cls f.source f.dest f.role f.kind f.length.toNat f.payload)

/-- The greatest payload length (Table 9-1). -/
def maxPayload : Nat := 40

/-- Whether a received frame is valid at a part with this station number (R157). A part without a number
makes no own-number test (R167). -/
def frameValid (f : RxFrame) (own : Option Station) : Bool :=
  f.crc == some (computedCrc f) && decide (f.length.toNat ≤ maxPayload) && f.source != 0#6 && f.source != 63#6
    && some f.source != own

/-! ## Codes of the broadcast payloads -/

/-- Fire state code (Table 10-3). -/
def fireStateCode : FireState → Nat
  | .quiet => 0
  | .alert => 1
  | .preDischarge => 2
  | .discharged => 3
  | .hold => 4
  | .spent => 5

/-- The fire state a byte codes, if it is in range (Table 10-3). -/
def fireStateOfCode (b : Byte) : Option FireState :=
  match b.toNat with
  | 0 => some .quiet
  | 1 => some .alert
  | 2 => some .preDischarge
  | 3 => some .discharged
  | 4 => some .hold
  | 5 => some .spent
  | _ => none

/-- Occupancy code (Table 10-3). -/
def occupancyCode : Occupancy → Nat
  | .staffed => 0
  | .unstaffed => 1

/-- Air path code (Table 10-3). -/
def airPathCode : AirPath → Nat
  | .shut => 0
  | .purge => 1
  | .drive => 2
  | .park => 3
  | .closed => 4

/-- Hatch state code (Table 10-3). -/
def hatchStateCode : HatchState → Nat
  | .empty => 0
  | .innerAccess => 1
  | .tallying => 2
  | .staged => 3
  | .irregular => 4
  | .outerAccess => 5
  | .received => 6
  | .purging => 7
  | .innerRelease => 8
  | .retrieve => 9

/-- Direction code (Table 9-4). -/
def directionCode : Direction → Nat
  | .out => 0
  | .inward => 1

/-- Notice type code (Table 9-4). -/
def noticeTypeCode : NoticeType → Nat
  | .outerUnlocked => 0
  | .innerUnlocked => 1
  | .complete => 2
  | .abandoned => 3

/-- Cause code (Table 9-4). -/
def causeCode : Cause → Nat
  | .sequence => 0
  | .timeout => 1
  | .withdrawn => 2
  | .fire => 3
  | .forcedLeaf => 4
  | .windowExpired => 5
  | .mismatch => 6

/-- Reply status number (R160). -/
def statusCode : Status → Nat
  | .done => 0
  | .clamped => 1
  | .refusedState => 2
  | .staleRevision => 3
  | .busy => 4
  | .tableFull => 5
  | .notFound => 6
  | .duplicate => 7
  | .zoneHeld => 8
  | .defaulted => 9
  | .badRole => 10
  | .unknownKind => 11
  | .outOfRange => 12
  | .noSpare => 13
  | .softActive => 14
  | .spareUnfit => 15
  | .hatchOpen => 16
  | .unstaffed => 17
  | .refusedSequence => 18

/-- First loop code of an alarm record (Table 9-4). -/
def loopCode : Option LoopId → Nat
  | none => 0
  | some .a => 1
  | some .b => 2

/-- First detector code of an alarm record (Table 9-4). -/
def detectorCode : Option Detector → Nat
  | none => 0
  | some (.number k) => k
  | some .multi => 8

/-- A moisture figure of STATUS: 65535 when unavailable (Table 10-3). -/
def figureCode : Option Nat → Nat
  | none => 65535
  | some m => m

/-- The exception flags byte of STATUS (Table 10-3). -/
def ExceptionFlags.byte (f : ExceptionFlags) : Byte :=
  BitVec.ofNat 8 (numberOfFlags
    [f.readingClamped, f.purgeTimeout, f.doseSaturated, f.dwellCapped, f.noChamberReading, f.listFull])

/-- The 10 bytes of FIRE_STATE (Table 9-4). -/
def FireContent.bytes (c : FireContent) : List Byte :=
  [BitVec.ofNat 8 (fireStateCode c.state), if c.paused then 1#8 else 0#8,
    BitVec.ofNat 8 (c.countdown.getD 255),
    BitVec.ofNat 8 (loopCode (c.alarm.bind (·.firstLoop))),
    BitVec.ofNat 8 (detectorCode (c.alarm.bind (·.firstDetector)))]
  ++ bytesOfNumber 4 ((c.alarm.map (·.minute)).getD 0)
  ++ [BitVec.ofNat 8 (numberOfFlags
      [c.cylinderLow, c.releaseUnconfirmed, c.loopAFault, c.loopBFault, c.damperFault])]

/-- The 3 bytes of CLIMATE (Table 9-4). -/
def ClimateContent.bytes (c : ClimateContent) : List Byte :=
  [BitVec.ofNat 8 c.ductGroup, BitVec.ofNat 8 c.effective, BitVec.ofNat 8 (airPathCode c.airPath)]

/-- The 24 bytes of STATUS (Table 10-3). -/
def StatusContent.bytes (c : StatusContent) : List Byte :=
  bytesOfNumber 4 c.minute
  ++ [BitVec.ofNat 8 (fireStateCode c.fire), BitVec.ofNat 8 (occupancyCode c.occupancy)]
  ++ bytesOfNumber 2 (figureCode c.store) ++ bytesOfNumber 2 (figureCode c.chamber)
  ++ [BitVec.ofNat 8 c.effective, BitVec.ofNat 8 (airPathCode c.airPath),
      BitVec.ofNat 8 (hatchStateCode c.hatch)]
  ++ bytesOfNumber 2 (c.batch.getD 0)
  ++ [BitVec.ofNat 8 c.inUse, BitVec.ofNat 8 c.overdue, BitVec.ofNat 8 c.acclimatising,
      BitVec.ofNat 8 c.ready, c.latches]
  ++ bytesOfNumber 3 c.faults.toNat ++ [c.exceptions.byte]

/-- The 6 bytes of HANDOVER_NOTICE (Table 9-4). -/
def NoticeContent.bytes (c : NoticeContent) : List Byte :=
  [BitVec.ofNat 8 (noticeTypeCode c.noticeType), BitVec.ofNat 8 (directionCode c.direction)]
  ++ bytesOfNumber 2 c.batch
  ++ [BitVec.ofNat 8 (hatchStateCode c.hatch), BitVec.ofNat 8 ((c.cause.map causeCode).getD 255)]

/-- The bytes of the data of a REPLY where the codes of Tables 9-1, 9-4 and 10-3 leave one way to write them: none for no
data, one byte for one coded value. Of records, summaries and lists the spec gives the order alone (log 18). -/
def ReplyData.bytes : ReplyData → Option (List Byte)
  | .nothing => some []
  | .fireState f => some [BitVec.ofNat 8 (fireStateCode f)]
  | .hatchState h => some [BitVec.ofNat 8 (hatchStateCode h)]
  | .role r => some [BitVec.ofNat 8 (roleCode r)]
  | .kind k => some [k]
  | .bytePosition n => some [n]
  | .occupancy o => some [BitVec.ofNat 8 (occupancyCode o)]
  | .latches set => some [BitVec.ofNat 8 (numberOfFlags (allInputs.map set.get))]
  | .recordState _ | .revisionAndState _ _ | .substitution _ | .substitutionAndFire _ _ | .hatchAndStage _ _
  | .labelResults _ | .extended _ _ _ | .record _ | .listing _ _ _ | .exceptions _ _ _ => none

/-- The payload of a REPLY: kind, status, then its data (Table 9-4, R159, R160). -/
def ReplyContent.bytes (c : ReplyContent) : Option (List Byte) :=
  c.data.bytes.map ([c.kind, BitVec.ofNat 8 (statusCode c.status)] ++ ·)

/-- The kind value of a frame of this part (Table 9-2). -/
def Body.kind : Body → Byte
  | .fireState _ => 1#8
  | .climate _ => 2#8
  | .status _ => 1#8
  | .notice _ => 5#8
  | .reply _ => 255#8

/-- The payload bytes of a frame of this part where the spec gives their coding (R160, log 18). -/
def Body.payload : Body → Option (List Byte)
  | .fireState c => some c.bytes
  | .climate c => some c.bytes
  | .status c => some c.bytes
  | .notice c => some c.bytes
  | .reply c => c.bytes

/-- A frame of this part as its receivers get it, when its payload coding is given: sender role ZONE, its own
station as source (R154, R159, R177). -/
def TxFrame.asReceived (f : TxFrame) (own : Station) : Option RxFrame :=
  f.body.payload.map (fun payload =>
    { cls := f.cls, source := own, dest := f.dest, role := .zone, kind := f.body.kind
      length := BitVec.ofNat 6 payload.length, payload := payload
      crc := some (crc16 (checkedBits f.cls own f.dest .zone f.body.kind payload.length payload)) })

/-- The first nine bits the part sends: start bit (dominant, 0), class, source (R154). -/
def TxFrame.contentionBits (f : TxFrame) (own : Station) : List Bool :=
  false :: (bitsOfNumber 2 (classCode f.cls) ++ bitsOfNumber 6 own.toNat)

/-! ## Requests -/

/-- The kinds of request the part takes (Table 9-2). -/
inductive RequestKind where
  | cancelDischarge | resetFire
  | present | attest | accept | withdraw
  | checkout | cancel | extendLoan | shelved | query | list | openInner
  | ackEvents | setOccupancy | remapSoft | remapClear | remapHard | exceptionList | clearExceptions | restart
  deriving DecidableEq, Repr

/-- The class of a request kind (Table 9-2). -/
def RequestKind.cls : RequestKind → FrameClass
  | .cancelDischarge | .resetFire => .fire
  | .present | .attest | .accept | .withdraw => .handover
  | .checkout | .cancel | .extendLoan | .shelved | .query | .list | .openInner => .custody
  | .ackEvents | .setOccupancy | .remapSoft | .remapClear | .remapHard | .exceptionList | .clearExceptions
  | .restart => .routine

/-- The kind value of a request kind (Table 9-2). -/
def RequestKind.code : RequestKind → Byte
  | .cancelDischarge => 2#8
  | .resetFire => 3#8
  | .present => 1#8
  | .attest => 2#8
  | .accept => 3#8
  | .withdraw => 4#8
  | .checkout => 1#8
  | .cancel => 2#8
  | .extendLoan => 3#8
  | .shelved => 4#8
  | .query => 5#8
  | .list => 6#8
  | .openInner => 7#8
  | .ackEvents => 3#8
  | .setOccupancy => 4#8
  | .remapSoft => 5#8
  | .remapClear => 6#8
  | .remapHard => 7#8
  | .exceptionList => 8#8
  | .clearExceptions => 9#8
  | .restart => 10#8

/-- The roles from which a request is taken (Table 9-2). -/
def RequestKind.takenFrom (k : RequestKind) (r : Role) : Bool :=
  match k with
  | .cancelDischarge | .resetFire | .attest | .checkout | .cancel | .extendLoan | .shelved | .query | .list
  | .openInner | .setOccupancy => r == .console
  | .present | .accept => r == .courierPost
  | .withdraw => r == .courierPost || r == .console
  | .ackEvents | .remapSoft | .remapClear | .remapHard | .exceptionList | .clearExceptions | .restart =>
      r == .console || r == .service

/-- A request with the raw fields of its payload (Table 9-4). -/
inductive Request where
  | cancelDischarge
  | resetFire
  | present (direction : Byte) (batch : BitVec 16) (count : Byte) (courier : BitVec 16)
  | attest (batch : BitVec 16) (count : Byte)
  | accept (batch : BitVec 16)
  | withdraw (batch : BitVec 16)
  | checkout (loan : BitVec 32) (labels : List Label)
  | cancel (label : Label) (revision : BitVec 16)
  | extendLoan (label : Label) (revision : BitVec 16) (added : BitVec 32)
  | shelved (label : Label) (revision : BitVec 16)
  | query (label : Label)
  | list (start : Byte)
  | openInner
  | ackEvents (inputs : Byte)
  | setOccupancy (value : Byte)
  | remapSoft (group position : Byte)
  | remapClear (group : Byte)
  | remapHard (group position : Byte)
  | exceptionList
  | clearExceptions
  | restart
  deriving DecidableEq, Repr

/-- The kind of a request. -/
def Request.kind : Request → RequestKind
  | .cancelDischarge => .cancelDischarge
  | .resetFire => .resetFire
  | .present _ _ _ _ => .present
  | .attest _ _ => .attest
  | .accept _ => .accept
  | .withdraw _ => .withdraw
  | .checkout _ _ => .checkout
  | .cancel _ _ => .cancel
  | .extendLoan _ _ _ => .extendLoan
  | .shelved _ _ => .shelved
  | .query _ => .query
  | .list _ => .list
  | .openInner => .openInner
  | .ackEvents _ => .ackEvents
  | .setOccupancy _ => .setOccupancy
  | .remapSoft _ _ => .remapSoft
  | .remapClear _ => .remapClear
  | .remapHard _ _ => .remapHard
  | .exceptionList => .exceptionList
  | .clearExceptions => .clearExceptions
  | .restart => .restart

/-- A big-endian field of a payload: `n` bytes from offset `at`. -/
def payloadField (payload : List Byte) (offset n : Nat) : Nat :=
  numberOfBytes ((payload.drop offset).take n)

/-- The labels of a payload from offset 0, eight bytes each. -/
def payloadLabels : Nat → List Byte → List Label
  | 0, _ => []
  | n + 1, bytes => bytes.take 8 :: payloadLabels n (bytes.drop 8)

/-- The request a payload of this kind spells, if its length fits the kind (Table 9-4). -/
def parseRequest (k : RequestKind) (p : List Byte) : Option Request :=
  let n := p.length
  let word (offset : Nat) : BitVec 16 := BitVec.ofNat 16 (payloadField p offset 2)
  let long (offset : Nat) : BitVec 32 := BitVec.ofNat 32 (payloadField p offset 4)
  let byte (offset : Nat) : Byte := p.getD offset 0#8
  match k with
  | .cancelDischarge => if n = 0 then some .cancelDischarge else none
  | .resetFire => if n = 0 then some .resetFire else none
  | .present => if n = 6 then some (.present (byte 0) (word 1) (byte 3) (word 4)) else none
  | .attest => if n = 3 then some (.attest (word 0) (byte 2)) else none
  | .accept => if n = 2 then some (.accept (word 0)) else none
  | .withdraw => if n = 2 then some (.withdraw (word 0)) else none
  | .checkout =>
      if n = 12 ∨ n = 20 ∨ n = 28 ∨ n = 36 then
        some (.checkout (long 0) (payloadLabels ((n - 4) / 8) (p.drop 4)))
      else none
  | .cancel => if n = 10 then some (.cancel (p.take 8) (word 8)) else none
  | .extendLoan => if n = 14 then some (.extendLoan (p.take 8) (word 8) (long 10)) else none
  | .shelved => if n = 10 then some (.shelved (p.take 8) (word 8)) else none
  | .query => if n = 8 then some (.query (p.take 8)) else none
  | .list => if n = 1 then some (.list (byte 0)) else none
  | .openInner => if n = 0 then some .openInner else none
  | .ackEvents => if n = 1 then some (.ackEvents (byte 0)) else none
  | .setOccupancy => if n = 1 then some (.setOccupancy (byte 0)) else none
  | .remapSoft => if n = 2 then some (.remapSoft (byte 0) (byte 1)) else none
  | .remapClear => if n = 1 then some (.remapClear (byte 0)) else none
  | .remapHard => if n = 2 then some (.remapHard (byte 0) (byte 1)) else none
  | .exceptionList => if n = 0 then some .exceptionList else none
  | .clearExceptions => if n = 0 then some .clearExceptions else none
  | .restart => if n = 0 then some .restart else none

/-- What a kind value means in a class (Table 9-2): a request; a broadcast the peer view takes; a kind taken
without reply (REPLY, HANDOVER_NOTICE); or no kind of the class. -/
inductive KindMeaning where
  | request (k : RequestKind)
  | fireState
  | status
  | climate
  | silentlyTaken
  | unknown
  deriving DecidableEq, Repr

/-- Table 9-2. REPLY is kind 255 of every class. -/
def kindMeaning (cls : FrameClass) (kind : Byte) : KindMeaning :=
  match cls, kind.toNat with
  | _, 255 => .silentlyTaken
  | .fire, 1 => .fireState
  | .fire, 2 => .request .cancelDischarge
  | .fire, 3 => .request .resetFire
  | .handover, 1 => .request .present
  | .handover, 2 => .request .attest
  | .handover, 3 => .request .accept
  | .handover, 4 => .request .withdraw
  | .handover, 5 => .silentlyTaken
  | .custody, 1 => .request .checkout
  | .custody, 2 => .request .cancel
  | .custody, 3 => .request .extendLoan
  | .custody, 4 => .request .shelved
  | .custody, 5 => .request .query
  | .custody, 6 => .request .list
  | .custody, 7 => .request .openInner
  | .routine, 1 => .status
  | .routine, 2 => .climate
  | .routine, 3 => .request .ackEvents
  | .routine, 4 => .request .setOccupancy
  | .routine, 5 => .request .remapSoft
  | .routine, 6 => .request .remapClear
  | .routine, 7 => .request .remapHard
  | .routine, 8 => .request .exceptionList
  | .routine, 9 => .request .clearExceptions
  | .routine, 10 => .request .restart
  | _, _ => .unknown

/-! ## Ranges of request fields (R158 step 4) -/

/-- The byte position, from `offset`, of the first character of a label outside A to Z and 0 to 9. -/
def labelOffence (offset : Nat) (l : Label) : Option Nat :=
  (l.findIdx? (fun c => !labelChar c)).map (offset + ·)

/-- The first offence of the labels of a CHECKOUT, eight bytes each from `offset`. -/
def labelsOffence : Nat → List Label → Option Nat
  | _, [] => none
  | offset, l :: ls => (labelOffence offset l).orElse (fun _ => labelsOffence (offset + 8) ls)

/-- The position of a field if its value is out of range. -/
def offenceUnless (inRange : Bool) (position : Nat) : Option Nat := if inRange then none else some position

/-- A batch or courier number: 1 to 65535 (R121). -/
def numberOffence (n : BitVec 16) (position : Nat) : Option Nat := offenceUnless (n != 0#16) position

/-- A count: 1 to 8 (R121). -/
def countOffence (n : Byte) (position : Nat) : Option Nat :=
  offenceUnless (decide (1 ≤ n.toNat) && decide (n.toNat ≤ 8)) position

/-- An expected revision: 0 to 255 (R95). -/
def revisionOffence (r : BitVec 16) (position : Nat) : Option Nat :=
  offenceUnless (decide (r.toNat ≤ 255)) position

/-- Whether the fields of a request make a payload of a length that fits its kind (Table 9-4): one to four
labels in a CHECKOUT, eight bytes in every label. -/
def Request.fits : Request → Bool
  | .checkout _ labels =>
      decide (1 ≤ labels.length) && decide (labels.length ≤ 4) && labels.all (fun l => l.length == 8)
  | .cancel label _ => label.length == 8
  | .extendLoan label _ _ => label.length == 8
  | .shelved label _ => label.length == 8
  | .query label => label.length == 8
  | _ => true

/-- The payload position of the first byte of the first field out of its range, if there is one (R158 step
4, Table 9-3, Table 9-4). A label's offence is at the character. -/
def Request.offence : Request → Option Nat
  | .cancelDischarge => none
  | .resetFire => none
  | .present direction batch count courier =>
      (offenceUnless (decide (direction.toNat ≤ 1)) 0).orElse fun _ =>
        (numberOffence batch 1).orElse fun _ =>
          (countOffence count 3).orElse fun _ => numberOffence courier 4
  | .attest batch count => (numberOffence batch 0).orElse fun _ => countOffence count 2
  | .accept batch => numberOffence batch 0
  | .withdraw batch => numberOffence batch 0
  | .checkout _ labels => labelsOffence 4 labels
  | .cancel label revision => (labelOffence 0 label).orElse fun _ => revisionOffence revision 8
  | .extendLoan label revision _ => (labelOffence 0 label).orElse fun _ => revisionOffence revision 8
  | .shelved label revision => (labelOffence 0 label).orElse fun _ => revisionOffence revision 8
  | .query label => labelOffence 0 label
  | .list start => offenceUnless (decide (start.toNat ≤ 95)) 0
  | .openInner => none
  | .ackEvents _ => none
  | .setOccupancy value => offenceUnless (decide (value.toNat ≤ 1)) 0
  | .remapSoft group position =>
      (offenceUnless (decide (group.toNat ≤ 3)) 0).orElse fun _ =>
        offenceUnless (decide (position.toNat ≤ 1)) 1
  | .remapClear group => offenceUnless (decide (group.toNat ≤ 3)) 0
  | .remapHard group position =>
      (offenceUnless (decide (group.toNat ≤ 3)) 0).orElse fun _ =>
        offenceUnless (decide (position.toNat ≤ 1)) 1
  | .exceptionList => none
  | .clearExceptions => none
  | .restart => none

/-- The group a byte names (Table 9-4; a byte in range). -/
def groupOfByte (b : Byte) : Group :=
  match b.toNat with
  | 0 => .g0
  | 1 => .g1
  | 2 => .g2
  | _ => .g3

/-- The position a byte names (Table 9-4; a byte in range). -/
def positionOfByte (b : Byte) : Position := if b.toNat = 0 then .a else .b

/-- The direction a byte names (Table 9-4; a byte in range). -/
def directionOfByte (b : Byte) : Direction := if b.toNat = 0 then .out else .inward

/-- The occupancy a byte names (Table 9-4; a byte in range). -/
def occupancyOfByte (b : Byte) : Occupancy := if b.toNat = 0 then .staffed else .unstaffed

/-! ## The configuration record (Table 11-1) -/

/-- Whether a number lies in a range. -/
def inRange (lo hi v : Nat) : Bool := decide (lo ≤ v) && decide (v ≤ hi)

/-- The qualifying edge of input n in the two-bit codes of bytes 32 and 33; 3 is no edge. -/
def edgeCode (edges : BitVec 16) (n : Nat) : Nat := edges.toNat / 4 ^ n % 4

/-- The qualifying edge of an input in the configuration in force (R60). -/
def configuredEdge (s : Settings) (i : InputId) : QualifyingEdge :=
  match edgeCode s.edges (inputNumber i) with
  | 0 => .rising
  | 1 => .falling
  | _ => .both

/-- The neighbours a record names: bytes 1 to 4, 0 for none, one named twice counted once (R183). -/
def recordNeighbours (r : List Byte) : List Station :=
  (((r.drop 1).take 4).filterMap
    (fun b => if b.toNat = 0 then none else some (BitVec.ofNat 6 b.toNat))).dedup

/-- The values a record gives (Table 11-1). -/
def recordSettings (r : List Byte) : Settings :=
  let byte (i : Nat) : Nat := (r.getD i 0#8).toNat
  let word (i : Nat) : Nat := payloadField r i 2
  { ductGroup := byte 0
    neighbours := recordNeighbours r
    setpoint := word 5
    deadband := word 7
    gain := byte 9
    plantShare := word 10
    parkEnable := byte 12 == 1
    parkOpening := byte 13
    purgeDemand := byte 14
    purgeTolerance := word 15
    purgeMax := word 17
    staffedDelay := byte 19
    unstaffedDelay := byte 20
    manualDelay := byte 21
    hold := word 22
    stepTimeout := word 24
    dwellBase := word 26
    dwellCap := word 28
    detectors := byte 30
    polarity := r.getD 31 0#8
    edges := BitVec.ofNat 16 (word 32)
    reportEnable := r.getD 34 0#8
    fitted := r.getD 35 0#8
    capture := (byte 36) % 2 == 1 }

/-- Whether a neighbour byte is allowed: 0, or a station 1 to 62 other than the part's own (R183). -/
def neighbourByteGood (own : Option Station) (b : Byte) : Bool :=
  decide (b.toNat ≤ 62) && (b.toNat == 0 || own != some (BitVec.ofNat 6 b.toNat))

/-- Whether the fields of a record lie in their ranges (Table 11-1, R147, R183). -/
def recordInRange (own : Option Station) (r : List Byte) : Bool :=
  let byte (i : Nat) : Nat := (r.getD i 0#8).toNat
  let word (i : Nat) : Nat := payloadField r i 2
  inRange 0 15 (byte 0) && ((r.drop 1).take 4).all (neighbourByteGood own)
  && inRange 300 1500 (word 5) && inRange 0 300 (word 7) && inRange 1 64 (byte 9)
  && inRange 1 8160 (word 10) && inRange 0 1 (byte 12) && inRange 0 30 (byte 13)
  && inRange 20 500 (word 15) && inRange 60 1800 (word 17) && inRange 10 120 (byte 19)
  && inRange 0 60 (byte 20) && inRange 0 30 (byte 21) && inRange 60 3600 (word 22)
  && inRange 30 600 (word 24) && inRange 0 600 (word 26) && inRange 60 10080 (word 28)
  && inRange 1 7 (byte 30)
  && [0, 1, 2, 3, 4, 5, 6, 7].all (fun n => edgeCode (BitVec.ofNat 16 (word 32)) n != 3)
  && decide (byte 36 ≤ 1) && decide (word 26 ≤ word 28)

/-- Whether a record's CRC agrees with bytes 0 to 36 (Table 11-1). -/
def recordCrcAgrees (r : List Byte) : Bool :=
  payloadField r 37 2 == (crc16 (bitsOfBytes (r.take 37))).toNat

/-- The values of a good record; none when the record is bad (R183). -/
def goodRecord (own : Option Station) (answer : Option (List Byte)) : Option Settings :=
  match answer with
  | none => none
  | some r =>
      if r.length == 39 && recordCrcAgrees r && recordInRange own r then some (recordSettings r) else none

/-- The station number of the address pins: none for 0 and 63, listen-only (R185). -/
def stationOfPins (pins : Station) : Option Station := if validStation pins then some pins else none

end Sys2Proof.Machine
end

