-- ==== Sys2Proof/Machine/Ops.lean ====
section
/-! DEFINITION. The named operations the blocks share: reading time and inputs, driving outputs, handing
frames to the transmit queue, answering requests, raising exceptions, drawing free values. -/

namespace Sys2Proof.Machine

/-! ## Reading the part -/

/-- Local time now, in milliseconds. -/
def Part.now (p : Part) : Time := p.clock.localTime

/-- The archive minute now. -/
def Part.minute (p : Part) : Minute := p.clock.minute

/-- The configuration in force. -/
def Part.settings (p : Part) : Settings := p.startUp.settings

/-- The part has supply and is not held by the reset pin (R181). -/
def Part.powered (p : Part) : Bool := p.startUp.mainOn && !p.startUp.resetAsserted

/-- The part acts: it has supply, is not held, and no start is in progress (R181, R186). -/
def Part.running (p : Part) : Bool := p.powered && p.startUp.inProgress.isNone

/-- A start is in progress: begun, and not completed (R186). -/
def Part.starting (p : Part) : Bool := p.powered && p.startUp.inProgress.isSome

/-- The part has no station number (R167). -/
def Part.listenOnly (p : Part) : Bool := p.bus.station.isNone

/-- Input n is accepted at its active level (R58). -/
def Part.active (p : Part) (i : InputId) : Bool := (p.inputs.get i).accepted == some true

/-- Input n is accepted at its inactive level (R58). -/
def Part.inactive (p : Part) (i : InputId) : Bool := (p.inputs.get i).accepted == some false

/-- The closed switch of a leaf (R114). -/
def leafInput : Leaf → InputId
  | .inner => .in0
  | .outer => .in1

/-- The leaf is closed (R114). -/
def Part.leafClosed (p : Part) (l : Leaf) : Bool := p.active (leafInput l)

/-- The leaf is open (R114). -/
def Part.leafOpen (p : Part) (l : Leaf) : Bool := p.inactive (leafInput l)

/-- A timer with this expiry has run its full length (00 section 4, "Time"). -/
def expired (now : Time) (expiry : Option Time) : Bool :=
  match expiry with
  | some t => decide (t ≤ now)
  | none => false

/-- Milliseconds of a duration in seconds. -/
def seconds (n : Nat) : Time := n * 1000

/-- PRE_DISCHARGE, DISCHARGED, HOLD or SPENT: the states that shut the zone's own air path and keep the
hatch locked (R42, R114). -/
def FireState.sealed : FireState → Bool
  | .quiet | .alert => false
  | .preDischarge | .discharged | .hold | .spent => true

/-- DISCHARGED, HOLD or SPENT: the peer states that shut the duct (R42). -/
def FireState.gasReleased : FireState → Bool
  | .quiet | .alert | .preDischarge => false
  | .discharged | .hold | .spent => true

/-- ALERT, PRE_DISCHARGE, DISCHARGED or HOLD: the neighbour states that confirm an alert (R71). -/
def FireState.confirming : FireState → Bool
  | .quiet | .spent => false
  | .alert | .preDischarge | .discharged | .hold => true

/-! ## Lists -/

/-- The list with its first element that meets `q` changed by `f`. -/
def changeFirst {α : Type} (q : α → Bool) (f : α → α) : List α → List α
  | [] => []
  | x :: xs => if q x then f x :: xs else x :: changeFirst q f xs

/-! ## Outputs (R170 to R173) -/

/-- The digital outputs of the output driver unit (R170). -/
inductive OutputId where
  | out0 | out1 | out2 | out3 | out4 | out6 | out7
  deriving DecidableEq, Repr

/-- The number n of OUTn. -/
def outputNumber : OutputId → Nat
  | .out0 => 0
  | .out1 => 1
  | .out2 => 2
  | .out3 => 3
  | .out4 => 4
  | .out6 => 6
  | .out7 => 7

/-- The output of a signal: OUT3 sounder, OUT4 beacon. -/
def signalOutput : Signal → OutputId
  | .sounder => .out3
  | .beacon => .out4

def OutputDriver.get (d : OutputDriver) : OutputId → DigitalOutput
  | .out0 => d.out0
  | .out1 => d.out1
  | .out2 => d.out2
  | .out3 => d.out3
  | .out4 => d.out4
  | .out6 => d.out6
  | .out7 => d.out7

def OutputDriver.set (d : OutputDriver) (o : OutputId) (x : DigitalOutput) : OutputDriver :=
  match o with
  | .out0 => { d with out0 := x }
  | .out1 => { d with out1 := x }
  | .out2 => { d with out2 := x }
  | .out3 => { d with out3 := x }
  | .out4 => { d with out4 := x }
  | .out6 => { d with out6 := x }
  | .out7 => { d with out7 := x }

/-- The fitted flag of OUTn (R170). -/
def outputFitted (s : Settings) (n : Nat) : Bool := s.fitted.getLsbD n

/-- The on time of a pattern in milliseconds (R172). -/
def Pattern.onTime : Pattern → Time
  | .alert => 1000
  | .preDischarge => 500

/-- The off time of a pattern in milliseconds (R172). -/
def Pattern.offTime : Pattern → Time
  | .alert => 3000
  | .preDischarge => 500

/-- The state a fitted output takes at a request (R170, R172): the pattern already running is kept, another
pattern begins with its on phase. -/
def OutputState.take (now : Time) (st : OutputState) : OutputRequest → OutputState
  | .drivenOff => .drivenOff
  | .drivenOn => .drivenOn
  | .pattern p =>
      match st with
      | .pattern q onPhase phaseEnd =>
          if q = p then .pattern q onPhase phaseEnd else .pattern p true (now + p.onTime)
      | _ => .pattern p true (now + p.onTime)

/-- A request to a digital output: recorded, and carried out when the output is fitted (R170). -/
def DigitalOutput.take (fitted : Bool) (now : Time) (o : DigitalOutput) (r : OutputRequest) : DigitalOutput :=
  { request := r, state := if fitted then o.state.take now r else .released }

/-- The owner of OUTn requests a state (R170). -/
def Part.requestOutput (p : Part) (o : OutputId) (r : OutputRequest) : Part :=
  p.withOutputs
    (p.outputs.set o ((p.outputs.get o).take (outputFitted p.settings (outputNumber o)) p.now r))

/-- A request of on or off (Table 10-1). -/
def onOff (on : Bool) : OutputRequest := if on then .drivenOn else .drivenOff

/-- The climate governor hands over an opening for OUT5 (R171). -/
def Part.requestOpening (p : Part) (percent : Nat) : Part :=
  p.withOutputs { p.outputs with
    out5 :=
      { request := percent, opening := if outputFitted p.settings 5 then some percent else none } }

/-- A digital output in the safe condition of a start (R173). -/
def safeOutput (s : Settings) (o : OutputId) : DigitalOutput :=
  { request := .drivenOff
    state := if outputFitted s (outputNumber o) then .drivenOff else .released }

/-- Every output in the safe condition of a start (R173). -/
def OutputDriver.safe (s : Settings) : OutputDriver :=
  { out0 := safeOutput s .out0, out1 := safeOutput s .out1, out2 := safeOutput s .out2
    out3 := safeOutput s .out3, out4 := safeOutput s .out4
    out5 := { request := 0, opening := if outputFitted s 5 then some 0 else none }
    out6 := safeOutput s .out6, out7 := safeOutput s .out7 }

/-! ## The transmit queue (R161, R162) -/

/-- The kinds of which at most one frame is pending (R161). -/
inductive CoalescedKind where
  | fireState | climate | status
  deriving DecidableEq, Repr

/-- The coalesced kind of a frame's content, if it is of one (R161). -/
def Body.coalescedKind : Body → Option CoalescedKind
  | .fireState _ => some .fireState
  | .climate _ => some .climate
  | .status _ => some .status
  | .notice _ => none
  | .reply _ => none

/-- The frame is pending: it waits and is not on the line (R161). -/
def TxFrame.pendingOf (k : CoalescedKind) (f : TxFrame) : Bool :=
  !f.onLine && f.body.coalescedKind == some k

/-- The frame is a pending ROUTINE frame (R162). -/
def TxFrame.pendingRoutine (f : TxFrame) : Bool := !f.onLine && f.cls == .routine

/-- The most frames the queue holds (R161). -/
def queueCapacity : Nat := 8

/-- A frame placed after every frame of its class and before every frame of a later class (R161). -/
def insertByClass (f : TxFrame) : List TxFrame → List TxFrame
  | [] => [f]
  | x :: xs => if classCode f.cls < classCode x.cls then f :: x :: xs else x :: insertByClass f xs

/-- A frame that no pending frame absorbs enters the queue, displaces a frame, or is dropped (R161, R162). -/
def enterQueue (f : TxFrame) (q : List TxFrame) : List TxFrame :=
  if q.length < queueCapacity then insertByClass f q
  else if f.cls = .fire then
    if q.any TxFrame.pendingRoutine then insertByClass f (q.eraseP TxFrame.pendingRoutine)
    else if q.any (TxFrame.pendingOf .fireState) then changeFirst (TxFrame.pendingOf .fireState) (fun _ => f) q
    else q
  else q

/-- A frame handed to the queue: content of a coalesced kind replaces the content of the pending frame of its
kind in place (R161); any other frame enters. -/
def placeFrame (f : TxFrame) (q : List TxFrame) : List TxFrame :=
  match f.body.coalescedKind with
  | some k =>
      if q.any (TxFrame.pendingOf k) then changeFirst (TxFrame.pendingOf k) (fun x => { x with body := f.body }) q
      else enterQueue f q
  | none => enterQueue f q

/-- A block hands a frame to the bus port. A listen-only part hands none (R167). -/
def Part.handFrame (p : Part) (f : TxFrame) : Part :=
  if p.listenOnly then p else p.withBus { p.bus with queue := placeFrame f p.bus.queue }

/-- A new frame with this content. -/
def newFrame (cls : FrameClass) (dest : Station) (body : Body) : TxFrame :=
  { cls := cls, dest := dest, body := body, onLine := false, restartReply := false }

/-- A request with its sender, as its owner sees it. -/
structure Asker where
  station : Station
  cls : FrameClass
  kind : Byte
  deriving DecidableEq, Repr

/-- The one REPLY to a request (R159): in the class of the request, to the requester. -/
def Part.reply (p : Part) (asker : Asker) (status : Status) (data : ReplyData) : Part :=
  p.handFrame (newFrame asker.cls asker.station (.reply { kind := asker.kind, status := status, data := data }))

/-! ## Exceptions (R148, R149) -/

/-- The flags with the flag of a kind set (R148). -/
def ExceptionFlags.raise (f : ExceptionFlags) : ExceptionKind → ExceptionFlags
  | .readingClamped => { f with readingClamped := true }
  | .purgeTimeout => { f with purgeTimeout := true }
  | .doseSaturated => { f with doseSaturated := true }
  | .dwellCapped => { f with dwellCapped := true }
  | .noChamberReading => { f with noChamberReading := true }

/-- The most entries of the exception list (R149). -/
def exceptionCapacity : Nat := 4

/-- An exception is raised: its flag is set, and with capture set an entry is appended or LIST_FULL is set
(R148, R149). -/
def ExceptionStore.raise (s : ExceptionStore) (capture : Bool) (e : ExceptionEntry) : ExceptionStore :=
  let flags := s.flags.raise e.kind
  if capture then
    if s.entries.length < exceptionCapacity then { entries := s.entries ++ [e], flags := flags }
    else { s with flags := { flags with listFull := true } }
  else { s with flags := flags }

/-- A block raises an exception at the archive minute now. -/
def Part.raise (p : Part) (kind : ExceptionKind) (subject : ExceptionSubject) : Part :=
  p.withExceptions
    (p.exceptions.raise p.settings.capture { kind := kind, minute := p.minute, subject := subject })

/-! ## Free values -/

/-- The part after drawing one free value. -/
def Part.draw (p : Part) : Part := p.withFreeDraws (p.freeDraws + 1)

/-- Element `i` of a list moved to its front. -/
def moveToFront {α : Type} (i : Nat) (xs : List α) : List α :=
  match xs[i]? with
  | some x => x :: xs.eraseIdx i
  | none => xs

/-- A list in an order the free values pick: no order is fixed among timers that are due together (log 3).
`fuel` is the length of the list. -/
def freeOrder {α : Type} : Nat → Nat → List α → List α
  | 0, _, xs => xs
  | fuel + 1, n, xs =>
      match xs with
      | [] => []
      | [x] => [x]
      | x :: y :: rest =>
          let ys := x :: y :: rest
          match moveToFront (Config.pickTogether n % ys.length) ys with
          | [] => []
          | z :: zs => z :: freeOrder fuel (n + 1) zs

end Sys2Proof.Machine
end

