-- ==== Sys2Proof/Machine/Flags.lean ====
section
/-! DEFINITION. The part's flags and the reports formed from them: alarm and fault of a loop class, the fault
set, the reported event latches, and the content of FIRE_STATE and STATUS. -/

namespace Sys2Proof.Machine

/-! ## Loop classes (Table 4-1) -/

/-- The class counts as an alarm (R54). -/
def LoopClass.alarm : LoopClass → Bool
  | .multi => true
  | .det _ => true
  | .short | .trouble | .normal | .openLoop => false

/-- The class is a loop fault (R55). -/
def LoopClass.isFault : LoopClass → Bool
  | .short | .trouble | .openLoop => true
  | .multi | .det _ | .normal => false

/-- A loop is in alarm while its accepted class is an alarm (R54). -/
def Part.loopInAlarm (p : Part) (l : LoopId) : Bool := (p.loops.get l).accepted.alarm

/-! ## Faults that follow other state -/

/-- GROUP_LOST of a group follows its freshness (R14, R20). -/
def Part.groupLost (p : Part) (g : Group) : Bool := (p.moisture.groups.get g).freshness == .lost

/-- STORE_LOST: all three store groups are LOST (R16, R20). -/
def Part.storeLost (p : Part) : Bool := p.groupLost .g0 && p.groupLost .g1 && p.groupLost .g2

/-- NEIGHBOUR_SILENT: at least one configured neighbour is silent (R166). -/
def Part.neighbourSilent (p : Part) : Bool := p.peers.watches.any (·.silent)

/-- The fault set in the bit order of Table 10-4. -/
def Part.faultFlags (p : Part) : List Bool :=
  [p.startUp.defaulted, p.custody.lost, p.loops.a.fault, p.loops.b.fault, p.fire.cylinderLow,
    p.fire.releaseUnconfirmed, p.climate.damperFault,
    p.groupLost .g0, p.groupLost .g1, p.groupLost .g2, p.groupLost .g3, p.storeLost,
    p.substitution.spareLost.g0, p.substitution.spareLost.g1, p.substitution.spareLost.g2,
    p.substitution.spareLost.g3, p.hatch.leafForced, p.neighbourSilent, p.peers.tableFull,
    p.climate.plantFault]

/-- The fault set of STATUS (R179). -/
def Part.faultSet (p : Part) : BitVec 24 := BitVec.ofNat 24 (numberOfFlags p.faultFlags)

/-- The reported event latches: latch set and report enabled (R61). -/
def Part.reportedLatches (p : Part) : BitVec 8 :=
  BitVec.ofNat 8 (numberOfFlags
    (allInputs.map (fun i => (p.inputs.get i).latch && p.settings.reportEnable.getLsbD (inputNumber i))))

/-! ## FIRE_STATE (R84) -/

/-- The content of FIRE_STATE as it stands. Paused and countdown show in PRE_DISCHARGE only, the alarm record
outside QUIET only. -/
def Part.fireContent (p : Part) : FireContent :=
  let f := p.fire
  { state := f.state
    paused := f.paused && f.state == .preDischarge
    countdown := if f.state = .preDischarge then f.countdown else none
    alarm := if f.state = .quiet then none else f.alarm
    cylinderLow := f.cylinderLow
    releaseUnconfirmed := f.releaseUnconfirmed
    loopAFault := p.loops.a.fault
    loopBFault := p.loops.b.fault
    damperFault := p.climate.damperFault }

/-- The fire sequencer hands FIRE_STATE content to the bus port (R84). -/
def Part.handFireState (p : Part) : Part :=
  p.handFrame (newFrame .fire broadcastStation (.fireState p.fireContent))

/-! ## STATUS (R177, R178) -/

/-- A moisture figure at the resolution of the occupancy (R19). -/
def figureAt (o : Occupancy) (m : Option Nat) : Option Nat :=
  match o with
  | .staffed => m
  | .unstaffed => m.map (fun x => x / 50 * 50)

/-- The number of records that meet a condition (R109). -/
def countRecords (q : CustodyRecord → Bool) (rs : List CustodyRecord) : Nat := (rs.filter q).length

/-- The content of STATUS as it stands (R178). -/
def Part.statusContent (p : Part) : StatusContent :=
  { minute := p.minute
    fire := p.fire.state
    occupancy := p.occupancy
    store := figureAt p.occupancy p.moisture.store
    chamber := figureAt p.occupancy p.moisture.chamber
    effective := p.climate.effective
    airPath := p.climate.airPath
    hatch := p.hatch.state
    batch := p.hatch.batch
    inUse := p.custody.records.length
    overdue := countRecords (fun r => r.state == .onLoan && r.overdue) p.custody.records
    acclimatising := countRecords (fun r => r.state == .acclimatising) p.custody.records
    ready := countRecords (fun r => r.state == .ready) p.custody.records
    latches := p.reportedLatches
    faults := p.faultSet
    exceptions := p.exceptions.flags }

/-- The status function hands STATUS content to the bus port (R177). -/
def Part.handStatus (p : Part) : Part :=
  p.handFrame (newFrame .routine broadcastStation (.status p.statusContent))

end Sys2Proof.Machine
end

