-- ==== Sys2Proof/Machine/Climate.lean ====
section
/-! DEFINITION. The climate governor: demand, grant, the air path resolver and damper supervision (chapter 3). -/

namespace Sys2Proof.Machine

/-! ## Demand and grant -/

/-- The greatest demand (R33). -/
def maxDemand : Nat := 255

/-- Own demand from store moisture (R33). -/
def demandLaw (s : Settings) : Option Nat → Nat
  | none => 0
  | some m =>
      if m ≤ s.setpoint + s.deadband then 0
      else min maxDemand (((m - s.setpoint - s.deadband) * s.gain + 8) / 16)

/-- How long a heard demand, entry or neighbour counts: 95 s (R36, R164, R166). -/
def hearingTime : Time := 95000

/-- The entry is a duct-group peer (R36). -/
def Part.ductPeer (p : Part) (e : PeerEntry) : Bool :=
  e.role == .zone && e.ductGroup == some p.settings.ductGroup

/-- The demand a peer entry counts with in the grant (R36). -/
def Part.countedDemand (p : Part) (e : PeerEntry) : Nat :=
  if p.ductPeer e then
    match e.demand with
    | some (d, heard) => if p.now < heard + hearingTime then d else 0
    | none => 0
  else 0

/-- The counted demands of the duct-group peers (R37). -/
def Part.peerDemands (p : Part) : Nat := (p.peers.entries.map p.countedDemand).sum

/-- The grant (R37). -/
def grantLaw (plantFault : Bool) (effective peerDemands capacity : Nat) : Nat :=
  let total := effective + peerDemands
  if plantFault then 0
  else if total = 0 then 0
  else if total ≤ capacity then effective
  else effective * capacity / total

/-- A duct-group peer entry records a released gas (R42). -/
def Part.peerShut (p : Part) : Bool :=
  p.peers.entries.any (fun e => p.ductPeer e && e.fireState.any FireState.gasReleased)

/-- The SHUT condition (R42). -/
def Part.shutCondition (p : Part) : Bool := p.fire.state.sealed || p.peerShut

/-- The effective demand (R34). -/
def Part.effectiveDemand (p : Part) : Nat :=
  if p.shutCondition then 0
  else if p.hatch.purgeRequest then max p.climate.demand p.settings.purgeDemand
  else p.climate.demand

/-- The grant as an evaluation computes it (R37, R38). -/
def Part.computedGrant (p : Part) : Nat :=
  grantLaw p.climate.plantFault p.effectiveDemand p.peerDemands p.settings.plantShare

/-! ## The resolver -/

/-- What the resolver sets: the air path and the three output requests. -/
structure AirPathChoice where
  airPath : AirPath
  damper : Nat
  fan : Bool
  plant : Bool
  deriving DecidableEq, Repr

/-- The damper command of DRIVE (R44). -/
def driveOpening (grant : Nat) : Nat := (grant * 100 + 127) / 255

/-- Table 3-3 (R40): the first condition that holds. -/
def resolve (shut purge : Bool) (grant : Nat) (parkEnable : Bool) (parkOpening : Nat) : AirPathChoice :=
  if shut then { airPath := .shut, damper := 0, fan := false, plant := false }
  else if purge then { airPath := .purge, damper := 100, fan := true, plant := true }
  else if 0 < grant then { airPath := .drive, damper := driveOpening grant, fan := false, plant := true }
  else if parkEnable then { airPath := .park, damper := parkOpening, fan := false, plant := false }
  else { airPath := .closed, damper := 0, fan := false, plant := false }

/-- The choice an evaluation makes (R40). -/
def Part.airPathChoice (p : Part) : AirPathChoice :=
  resolve p.shutCondition p.hatch.purgeRequest p.computedGrant p.settings.parkEnable p.settings.parkOpening

/-! ## Damper supervision (R47, R48) -/

/-- The damper confirmation time: 20 s (R47). -/
def confirmationTime : Time := seconds 20

/-- A change of DAMPER_FAULT hands FIRE_STATE content (R48). -/
def Part.setDamperFault (p : Part) (fault : Bool) : Part :=
  if p.climate.damperFault = fault then p
  else (p.withClimate { p.climate with damperFault := fault }).handFireState

/-- A confirmation starts unless one runs; none runs while OUT5 is not fitted (R47). -/
def Part.startConfirmation (p : Part) : Part :=
  if outputFitted p.settings 5 && p.climate.confirmation.isNone then
    p.withClimate { p.climate with confirmation := some (p.now + confirmationTime) }
  else p

/-- A running confirmation is removed with no fault (R47). -/
def Part.endConfirmation (p : Part) : Part := p.withClimate { p.climate with confirmation := none }

/-- Damper supervision hears that the damper command changed from `old` to the present one (R47, R48). -/
def Part.superviseCommand (p : Part) (old : Nat) : Part :=
  if old = p.climate.damper then p
  else if p.climate.damper = 0 then
    if p.active .in5 then p.endConfirmation.setDamperFault false else p.startConfirmation
  else if old = 0 then p.endConfirmation
  else p

/-- Damper supervision hears a level of IN5: active is closed (R47, R48). -/
def Part.superviseSwitch (p : Part) (closed : Bool) : Part :=
  if p.climate.damper = 0 then
    if closed then p.endConfirmation.setDamperFault false else p.startConfirmation
  else p

/-! ## Evaluation (R40, R41) -/

/-- The content of CLIMATE as it stands (R35). -/
def Part.climateContent (p : Part) : ClimateContent :=
  { ductGroup := p.settings.ductGroup, effective := p.climate.effective, airPath := p.climate.airPath }

/-- The governor hands a CLIMATE frame to the bus port at a scan hand-off (R35). -/
def Part.handClimate (p : Part) : Part :=
  p.handFrame (newFrame .routine broadcastStation (.climate p.climateContent))

/-- Between scans the governor's new content replaces the content of a pending CLIMATE frame; without one
nothing is queued (R35). -/
def Part.offerClimate (p : Part) : Part :=
  if p.bus.queue.any (TxFrame.pendingOf .climate) then p.handClimate else p

/-- The governor takes the figures and requests of an evaluation (R40). -/
def Part.takeChoice (p : Part) (effective grant : Nat) (c : AirPathChoice) : Part :=
  ((((p.withClimate { p.climate with
        effective := effective, grant := grant, airPath := c.airPath, damper := c.damper, fan := c.fan
        plant := c.plant }).requestOpening c.damper).requestOutput .out6 (onOff c.fan)).requestOutput .out7
    (onOff c.plant)).superviseCommand p.climate.damper

/-- The resolver is evaluated (R40): SHUT test, effective demand, grant, Table 3-3, outputs, supervision. -/
def Part.resolveAirPath (p : Part) : Part := p.takeChoice p.effectiveDemand p.computedGrant p.airPathChoice

/-- An evaluation between scan hand-offs (R35, R41): changed content is offered to the bus port. -/
def Part.evaluate (p : Part) : Part :=
  let q := p.resolveAirPath
  if q.climate.effective = p.climate.effective ∧ q.climate.airPath = p.climate.airPath then q
  else q.offerClimate

/-- The governor takes a scan's store moisture (R33), evaluates, and hands CLIMATE (R35). -/
def Part.climateHandOff (p : Part) (store : Option Nat) : Part :=
  (p.withClimate { p.climate with demand := demandLaw p.settings store }).resolveAirPath.handClimate

/-- IN6 is accepted: PLANT_FAULT follows it and the resolver is evaluated at once (R39). -/
def Part.takePlantInput (p : Part) (faulted : Bool) : Part :=
  (p.withClimate { p.climate with plantFault := faulted }).evaluate

/-- A running damper confirmation has expired (R47, R48). -/
def Part.confirmationExpires (p : Part) : Part :=
  if expired p.now p.climate.confirmation then p.endConfirmation.setDamperFault true else p

end Sys2Proof.Machine
end

