-- ==== Sys2Proof/Machine/Dwell.lean ====
section
/-! DEFINITION. The acclimatisation dwell (chapter 8): hours out, excess and dose to a dwell end minute. -/

namespace Sys2Proof.Machine

/-- The cap of the hours out: thirty days (R144). -/
def maxHoursOut : Nat := 720

/-- The hours out of a record (R144): a record with no loan start counts the cap. -/
def hoursOut (r : CustodyRecord) : Nat :=
  match r.loanStart with
  | some start => min maxHoursOut ((r.returnMinute.getD 0 - start) / 60)
  | none => maxHoursOut

/-- The uncapped sum of the dwell (R146). -/
def dwellSum (base hours excess dose : Nat) : Nat := base + hours * excess / 256 + dose / 64

/-- The dwell of a record in minutes (R145, R146): the cap when the excess is unavailable. -/
def dwellOf (s : Settings) (excess : Option Excess) (dose : Nat) (r : CustodyRecord) : Nat :=
  match excess with
  | some (.available x) => min s.dwellCap (dwellSum s.dwellBase (hoursOut r) x dose)
  | _ => s.dwellCap

/-- The record's sum exceeds the cap (R146); a tally with the excess unavailable computes no sum. -/
def dwellCapped (s : Settings) (excess : Option Excess) (dose : Nat) (r : CustodyRecord) : Bool :=
  match excess with
  | some (.available x) => decide (s.dwellCap < dwellSum s.dwellBase (hoursOut r) x dose)
  | _ => false

/-- A minute some minutes after another, held at the top of the count (R98, R106, R146). -/
def minuteAfter (m added : Nat) : Minute := min maxMinute (m + added)

end Sys2Proof.Machine
end

