-- ==== Sys2Proof/Machine/Custody.lean ====
section
/-! DEFINITION. The custody table (chapter 6): records, capacity, console requests, minute checks and the changes
the hatch makes. -/

namespace Sys2Proof.Machine

/-! ## Records, capacity, counters -/

/-- The most records, held slots included (R90, R93). -/
def custodyCapacity : Nat := 96

/-- The record of a label (R91). -/
def CustodyTable.find (t : CustodyTable) (l : Label) : Option CustodyRecord :=
  t.records.find? (fun r => r.label == l)

/-- Every record changed by a rule. -/
def CustodyTable.mapRecords (t : CustodyTable) (f : CustodyRecord → CustodyRecord) : CustodyTable :=
  { t with records := t.records.map f }

/-- The record of a label changed by a rule. -/
def CustodyTable.change (t : CustodyTable) (l : Label) (f : CustodyRecord → CustodyRecord) : CustodyTable :=
  t.mapRecords (fun r => if r.label = l then f r else r)

/-- The record of a label removed; later records move forward (R91). -/
def CustodyTable.remove (t : CustodyTable) (l : Label) : CustodyTable :=
  { t with records := t.records.eraseP (fun r => r.label == l) }

/-- A record placed after every record in the table (R91). -/
def CustodyTable.append (t : CustodyTable) (r : CustodyRecord) : CustodyTable :=
  { t with records := t.records ++ [r] }

/-- A change of a record raises its revision by one, 255 being followed by 0 (R92). -/
def CustodyRecord.revised (r : CustodyRecord) : CustodyRecord := { r with revision := r.revision + 1#8 }

/-- A new record can be created (R91). -/
def CustodyTable.hasRoom (t : CustodyTable) : Bool := decide (t.records.length + t.held < custodyCapacity)

/-- A hold of `n` slots is granted (R93). -/
def CustodyTable.canHold (t : CustodyTable) (n : Nat) : Bool :=
  t.held == 0 && decide (t.records.length + n ≤ custodyCapacity)

/-- The held-slot count set: hold, release or consume (R93). -/
def CustodyTable.withHeld (t : CustodyTable) (n : Nat) : CustodyTable := { t with held := n }

/-- The batch counter's next number (R94). -/
def nextBatch (n : Nat) : Nat := if n = 65535 then 1 else n + 1

/-! ## Console requests (R95 to R101) -/

/-- A RESERVED record as CHECKOUT creates it (R96). -/
def reservedRecord (l : Label) (loan : Nat) (now : Minute) : CustodyRecord :=
  { label := l, state := .reserved, revision := 0#8, foreign := false, overdue := false, batch := none
    courier := none, reserveMinute := now, loanLength := some loan, loanStart := none, due := none
    returnMinute := none, dwellEnd := none }

/-- A loan length or added minutes clamped to 60 to 43200 (R96, R98). -/
def clampMinutes (n : Nat) : Nat := max 60 (min 43200 n)

/-- The labels of a CHECKOUT, one after another, each against the table as the earlier ones left it (R96). -/
def checkoutLabels (loan : Nat) (now : Minute) :
    CustodyTable → List Label → CustodyTable × List LabelResult
  | t, [] => (t, [])
  | t, l :: ls =>
      match t.find l with
      | some r =>
          let rest := checkoutLabels loan now t ls
          (rest.1, .duplicate r.state r.revision :: rest.2)
      | none =>
          if t.hasRoom then
            let rest := checkoutLabels loan now (t.append (reservedRecord l loan now)) ls
            (rest.1, .done 0#8 :: rest.2)
          else
            let rest := checkoutLabels loan now t ls
            (rest.1, .tableFull :: rest.2)

/-- DONE, or CLAMPED when a value was clamped (Table 9-3). -/
def doneOrClamped (given used : Nat) : Status := if given = used then .done else .clamped

/-- CHECKOUT at the custody table (R95, R96). -/
def Part.takeCheckout (p : Part) (asker : Asker) (loan : Nat) (labels : List Label) : Part :=
  if p.startUp.defaulted then p.reply asker .defaulted .nothing
  else
    let result := checkoutLabels (clampMinutes loan) p.minute p.custody labels
    (p.withCustody result.1).reply asker (doneOrClamped loan (clampMinutes loan)) (.labelResults result.2)

/-- The tests that CANCEL, EXTEND and SHELVED share, in the order of R95; `act` takes the request for the
record it names. -/
def Part.conditional (p : Part) (asker : Asker) (label : Label) (expected : Nat) (needed : RecordState)
    (act : CustodyRecord → Part) : Part :=
  if p.startUp.defaulted then p.reply asker .defaulted .nothing
  else
    match p.custody.find label with
    | none => p.reply asker .notFound .nothing
    | some r =>
        if r.revision.toNat ≠ expected then p.reply asker .staleRevision (.revisionAndState r.revision r.state)
        else if r.state ≠ needed then p.reply asker .refusedState (.recordState r.state)
        else act r

/-- CANCEL at the custody table (R97). -/
def Part.takeCancel (p : Part) (asker : Asker) (label : Label) (expected : Nat) : Part :=
  p.conditional asker label expected .reserved
    (fun _ => (p.withCustody (p.custody.remove label)).reply asker .done .nothing)

/-- A record after an EXTEND by added minutes (R98). -/
def CustodyRecord.extended (r : CustodyRecord) (added : Nat) (now : Minute) : CustodyRecord :=
  let due := minuteAfter (r.due.getD 0) added
  { r.revised with due := some due, overdue := if now < due then false else r.overdue }

/-- EXTEND at the custody table (R98). -/
def Part.takeExtend (p : Part) (asker : Asker) (label : Label) (expected added : Nat) : Part :=
  p.conditional asker label expected .onLoan
    (fun r =>
      let x := r.extended (clampMinutes added) p.minute
      (p.withCustody (p.custody.change label (fun y => y.extended (clampMinutes added) p.minute))).reply asker
        (doneOrClamped added (clampMinutes added)) (.extended x.revision (x.due.getD 0) x.overdue))

/-- SHELVED at the custody table (R99). -/
def Part.takeShelved (p : Part) (asker : Asker) (label : Label) (expected : Nat) : Part :=
  p.conditional asker label expected .ready
    (fun _ => (p.withCustody (p.custody.remove label)).reply asker .done .nothing)

/-- QUERY at the custody table (R100). -/
def Part.takeQuery (p : Part) (asker : Asker) (label : Label) : Part :=
  match p.custody.find label with
  | none => p.reply asker .notFound .nothing
  | some r => p.reply asker .done (.record r)

/-- The summary of a record (R101). -/
def CustodyRecord.summary (r : CustodyRecord) : RecordSummary :=
  { label := r.label, state := r.state, revision := r.revision, overdue := r.overdue, foreign := r.foreign }

/-- LIST at the custody table (R101). -/
def Part.takeList (p : Part) (asker : Asker) (start : Nat) : Part :=
  p.reply asker .done
    (.listing p.custody.records.length start
      (((p.custody.records.drop start).take 4).map CustodyRecord.summary))

/-! ## The minute check (R102, R103) -/

/-- A record at a minute check. -/
def CustodyRecord.checked (r : CustodyRecord) (now : Minute) : CustodyRecord :=
  match r.state with
  | .onLoan => if !r.overdue && r.due.any (· ≤ now) then { r.revised with overdue := true } else r
  | .acclimatising => if r.dwellEnd.any (· ≤ now) then { r.revised with state := .ready } else r
  | .reserved | .stagedOut | .stagedIn | .ready => r

/-- The minute check of every record, at the minute now (R102, R103). -/
def Part.minuteCheck (p : Part) : Part :=
  p.withCustody (p.custody.mapRecords (fun r => r.checked p.minute))

/-! ## Changes made by the hatch (R105 to R108) -/

/-- A tally lists this label. -/
def tallyLists (t : TagReport) (l : Label) : Bool :=
  match t with
  | .labels ls => ls.contains l
  | .overfull => false

/-- A tally finds this label gone from the chamber. An OVERFULL report finds no label gone (log 24). -/
def tallyFindsGone (t : TagReport) (l : Label) : Bool :=
  match t with
  | .labels ls => !ls.contains l
  | .overfull => false

/-- The report shows the chamber empty (R120). -/
def tallyShowsEmpty (t : TagReport) : Bool :=
  match t with
  | .labels ls => ls.isEmpty
  | .overfull => false

/-- The labels a report lists. -/
def tallyLabels : TagReport → List Label
  | .labels ls => ls
  | .overfull => []

/-- A report as the reader gives it: a label seen twice is listed once, more than eight read OVERFULL (R117). -/
def normalTally : TagReport → TagReport
  | .labels ls => if ls.dedup.length ≤ 8 then .labels ls.dedup else .overfull
  | .overfull => .overfull

/-- The record is in this state in the batch. -/
def CustodyRecord.inBatch (r : CustodyRecord) (state : RecordState) (batch : Option Nat) : Bool :=
  r.state == state && batch.isSome && r.batch == batch

/-- The table holds a record in this state in the batch. -/
def CustodyTable.holdsBatch (t : CustodyTable) (state : RecordState) (batch : Option Nat) : Bool :=
  t.records.any (fun r => r.inBatch state batch)

/-- The number of STAGED_OUT records of the batch (R120). -/
def CustodyTable.stagedCount (t : CustodyTable) (batch : Option Nat) : Nat :=
  countRecords (fun r => r.inBatch .stagedOut batch) t.records

/-- STAGED_OUT to RESERVED (R105). -/
def CustodyRecord.unstaged (r : CustodyRecord) : CustodyRecord :=
  { r.revised with state := .reserved, batch := none }

/-- STAGED_OUT records of the batch that the tally finds gone return to RESERVED (R105). -/
def CustodyTable.unstageGone (t : CustodyTable) (tally : TagReport) (batch : Option Nat) : CustodyTable :=
  t.mapRecords (fun r => if r.inBatch .stagedOut batch && tallyFindsGone tally r.label then r.unstaged else r)

/-- A present label can be staged: its record is RESERVED, or STAGED_OUT in this batch (R120). -/
def CustodyTable.stageable (t : CustodyTable) (batch : Option Nat) (l : Label) : Bool :=
  match t.find l with
  | some r => r.state == .reserved || r.inBatch .stagedOut batch
  | none => false

/-- The tally is a valid outbound tally (R120). -/
def CustodyTable.validOutbound (t : CustodyTable) (tally : TagReport) (batch : Option Nat) : Bool :=
  match tally with
  | .labels ls => !ls.isEmpty && ls.all (t.stageable batch)
  | .overfull => false

/-- RESERVED to STAGED_OUT (R105). -/
def CustodyRecord.staged (r : CustodyRecord) (batch : Nat) : CustodyRecord :=
  { r.revised with state := .stagedOut, batch := some batch }

/-- Each present RESERVED record becomes STAGED_OUT with the batch number (R105). -/
def CustodyTable.stagePresent (t : CustodyTable) (tally : TagReport) (batch : Nat) : CustodyTable :=
  t.mapRecords (fun r => if r.state == .reserved && tallyLists tally r.label then r.staged batch else r)

/-- STAGED_OUT to ON_LOAN (R106). -/
def CustodyRecord.departed (r : CustodyRecord) (courier : Nat) (now : Minute) : CustodyRecord :=
  let due := minuteAfter now (r.loanLength.getD 0)
  { r.revised with
    state := .onLoan, courier := some courier, loanStart := some now, due := some due, batch := none
    overdue := decide (due ≤ now) }

/-- STAGED_OUT records of the batch that the tally finds gone become ON_LOAN (R106). -/
def CustodyTable.departGone (t : CustodyTable) (tally : TagReport) (batch : Option Nat) (courier : Nat)
    (now : Minute) : CustodyTable :=
  t.mapRecords (fun r =>
    if r.inBatch .stagedOut batch && tallyFindsGone tally r.label then r.departed courier now else r)

/-- Every present label is STAGED_OUT in the batch (R129). -/
def CustodyTable.allStaged (t : CustodyTable) (tally : TagReport) (batch : Option Nat) : Bool :=
  match tally with
  | .labels ls => ls.all (fun l => (t.find l).any (fun r => r.inBatch .stagedOut batch))
  | .overfull => false

/-- The tally matches an inbound declaration (R131). -/
def CustodyTable.matchesDeclared (t : CustodyTable) (tally : TagReport) (declared : Option Nat) : Bool :=
  match tally with
  | .labels ls =>
      declared == some ls.length
        && ls.all (fun l => (t.find l).all (fun r => r.state == .onLoan))
  | .overfull => false

/-- ON_LOAN to STAGED_IN (R107). -/
def CustodyRecord.returned (r : CustodyRecord) (batch courier : Option Nat) (now : Minute) : CustodyRecord :=
  { r.revised with
    state := .stagedIn, returnMinute := some now, batch := batch, courier := courier, overdue := false }

/-- A foreign STAGED_IN record (R107). -/
def foreignRecord (l : Label) (batch courier : Option Nat) (now : Minute) : CustodyRecord :=
  { label := l, state := .stagedIn, revision := 0#8, foreign := true, overdue := false, batch := batch
    courier := courier, reserveMinute := now, loanLength := none, loanStart := none, due := none
    returnMinute := some now, dwellEnd := none }

/-- A matching inbound tally: loans return, unknown labels become foreign records at the end of the table, the
hold is consumed (R107, R93). The foreign records of one tally, and so their indexes (R91), come in the order of the tag
reader's list: the model's choice (log 42). -/
def CustodyTable.receive (t : CustodyTable) (ls : List Label) (batch courier : Option Nat) (now : Minute) :
    CustodyTable :=
  let foreign := ls.filter (fun l => (t.find l).isNone)
  { t with
    records := t.records.map (fun r =>
        if r.state == .onLoan && ls.contains r.label then r.returned batch courier now else r)
      ++ foreign.map (fun l => foreignRecord l batch courier now)
    held := 0 }

/-- STAGED_IN to ACCLIMATISING (R108). -/
def CustodyRecord.released (r : CustodyRecord) (dwellEnd : Minute) : CustodyRecord :=
  { r.revised with state := .acclimatising, dwellEnd := some dwellEnd, batch := none }

/-- The record leaves at a release tally: STAGED_IN in the batch, and gone from the chamber (R136). -/
def CustodyRecord.leaves (r : CustodyRecord) (tally : TagReport) (batch : Option Nat) : Bool :=
  r.inBatch .stagedIn batch && tallyFindsGone tally r.label

/-- STAGED_IN records of the batch that the tally finds gone become ACCLIMATISING, each with its dwell (R108,
R143). -/
def CustodyTable.releaseGone (t : CustodyTable) (tally : TagReport) (batch : Option Nat)
    (dwell : CustodyRecord → Nat) (now : Minute) : CustodyTable :=
  t.mapRecords (fun r => if r.leaves tally batch then r.released (minuteAfter now (dwell r)) else r)

end Sys2Proof.Machine
end

