-- ==== Sys2Proof/Machine/Hatch.lean ====
section
/-! DEFINITION. The hatch controller's leaves, locks, notices, abandonment, tallies and purge (chapter 7). Its
requests are in Machine/Handover.lean. -/

namespace Sys2Proof.Machine

/-! ## Hatch context -/

/-- The lock release output of a leaf (R114). -/
def lockOutput : Leaf → OutputId
  | .inner => .out0
  | .outer => .out1

/-- The access state of a leaf (R116). -/
def accessState : Leaf → HatchState
  | .inner => .innerAccess
  | .outer => .outerAccess

/-- The hatch context without its batch: direction, batch number and the items of the batch's PRESENT and ATTEST
(R132, R136, log 25). -/
def HatchContext.withoutBatch (h : HatchContext) : HatchContext :=
  { h with
    direction := none, batch := none, declared := none, courier := none, courierPost := none, console := none }

/-- The participants of the handover: courier-post station first, then the console when recorded (R122). -/
def HatchContext.participants (h : HatchContext) : List Station := h.courierPost.toList ++ h.console.toList

/-- An inbound batch has been tallied in and not yet all released (R137). -/
def HatchContext.holdsInbound (h : HatchContext) : Bool :=
  h.direction == some .inward && (h.stage == .tallied || h.stage == .attested)

/-- The hatch state set; the backup copy follows it except into TALLYING (Table 7-1). -/
def Part.setHatchState (p : Part) (st : HatchState) : Part :=
  p.withHatch { p.hatch with
    state := st, backupState := if st = .tallying then p.hatch.backupState else st }

/-- A lock request set, and handed to the output driver unit (R114). -/
def Part.setLock (p : Part) (l : Leaf) (on : Bool) : Part :=
  (p.withHatch { p.hatch with locks := p.hatch.locks.set l on }).requestOutput (lockOutput l) (onOff on)

/-- The unlock window of a leaf removed (R115). -/
def Part.clearWindow (p : Part) (l : Leaf) : Part :=
  p.withHatch { p.hatch with windows := p.hatch.windows.set l none }

/-- Both lock requests off and both unlock windows removed (R125, R126). -/
def Part.lockBoth (p : Part) : Part :=
  (((p.setLock .inner false).setLock .outer false).clearWindow .inner).clearWindow .outer

/-- The unlock window: 30 s (R115). -/
def windowTime : Time := seconds 30

/-- The tally: 2 s (R117). -/
def tallyTime : Time := seconds 2

/-- A leaf may be unlocked: the other leaf's lock request is off, the fire state is QUIET or ALERT (R114), and no
start tally is to come (R141). -/
def Part.canUnlock (p : Part) (l : Leaf) : Bool :=
  !p.hatch.locks.get (otherLeaf l) && !p.fire.state.sealed && p.hatch.startTally == .no

/-- A leaf is unlocked and its window opens (R115), where R114 and R141 allow it. -/
def Part.unlock (p : Part) (l : Leaf) : Part :=
  if p.canUnlock l then
    (p.setLock l true).withHatch { (p.setLock l true).hatch with
      windows := (p.setLock l true).hatch.windows.set l (some (p.now + windowTime)) }
  else p

/-! ## Notices (R122) -/

/-- HANDOVER_NOTICE frames to stations, one each in order, with the hatch state as it now stands (R122, log 40). -/
def Part.handNotices (p : Part) (stations : List Station) (t : NoticeType) (direction : Option Direction)
    (batch : Option Nat) (cause : Option Cause) : Part :=
  stations.foldl
    (fun q st => q.handFrame (newFrame .handover st (.notice
      { noticeType := t, direction := direction.getD .out, batch := batch.getD 0, hatch := p.hatch.state
        cause := cause }))) p

/-- A leaf is unlocked with a notice of unlocking to stations; neither where the unlock is withheld (R114). -/
def Part.unlockWithNotice (p : Part) (l : Leaf) (t : NoticeType) (stations : List Station) : Part :=
  if p.canUnlock l then (p.unlock l).handNotices stations t p.hatch.direction p.hatch.batch none else p

/-! ## Purge request and abandonment -/

/-- A standing purge request ends and the climate governor evaluates (R41). -/
def Part.endPurge (p : Part) : Part :=
  if p.hatch.purgeRequest then (p.withHatch { p.hatch with purgeRequest := false }).evaluate else p

/-- The stage of an abandoned handover (R125 step 4). -/
def Part.abandonStage (p : Part) : Part :=
  match p.hatch.direction, p.hatch.stage with
  | some .inward, .presented =>
      (p.withHatch { p.hatch with stage := .none }).withCustody (p.custody.withHeld 0)
  | some .inward, .tallied => (p.withHatch { p.hatch with stage := .tallied }).endPurge
  | some .inward, .attested => (p.withHatch { p.hatch with stage := .tallied }).endPurge
  | _, _ => p.withHatch { p.hatch with stage := .none }

/-- An inner access ends without its leaf opened: the state it returns to, RECEIVED for INNER_RELEASE when the
handover was abandoned (R119, R125). -/
def Part.returnAccess (p : Part) (abandoned : Bool) : Part :=
  match p.hatch.returnState with
  | some r =>
      (p.withHatch { p.hatch with returnState := none }).setHatchState
        (if abandoned && r == .innerRelease then .received else r)
  | none => p

/-- The hatch state after an abandonment (R125 step 5, log 26), from the state and stage before it. -/
def Part.abandonHatchState (p : Part) (before : HatchContext) : Part :=
  match before.state with
  | .outerAccess =>
      if p.leafOpen .outer then p
      else
        match before.direction, before.stage with
        | some .inward, .presented => (p.withHatch p.hatch.withoutBatch).setHatchState .empty
        | some .inward, _ => p
        | _, _ => p.setHatchState .staged
  | .received => p.setHatchState .received
  | .purging => p.setHatchState .received
  | .innerRelease => if p.leafOpen .inner then p else p.setHatchState .received
  | .innerAccess => if p.leafOpen .inner then p else p.returnAccess true
  | .empty | .tallying | .staged | .irregular | .retrieve => p

/-- Abandonment without its notice (R125 steps 2 to 5). -/
def Part.abandonCore (p : Part) : Part :=
  let q := p.lockBoth
  let r := q.withHatch { q.hatch with stepTimeout := none, handoverOpen := false, lastStep := none }
  r.abandonStage.abandonHatchState p.hatch

/-- An open handover is abandoned (R125), `finish` setting what the abandoning event sets besides; the notice carries
the hatch state after the event (R122). That the notices are handed after the frames of the air path's evaluation at the
purge request's end is the model's choice (log 47). -/
def Part.abandonWith (p : Part) (cause : Cause) (finish : Part → Part) : Part :=
  (finish p.abandonCore).handNotices p.hatch.participants .abandoned p.hatch.direction p.hatch.batch (some cause)

/-- An open handover is abandoned (R125). -/
def Part.abandon (p : Part) (cause : Cause) : Part := p.abandonWith cause id

/-! ## Leaves (R115 to R117) -/

/-- What a forcing does besides abandoning a handover (R116). That the tally leaf becomes absent is the model's choice
(log 29). -/
def Part.forceLeaf (p : Part) (l : Leaf) : Part :=
  let q := p.withHatch { p.hatch with
    leafForced := true, tallyEnd := none, tallyLeaf := none, returnState := none
    windows := p.hatch.windows.set (otherLeaf l) none
    startTally := if p.hatch.startTally = .no then .no else .forced }
  (q.setLock (otherLeaf l) false).setHatchState (accessState l)

/-- A leaf is forced (R116, log 37). -/
def Part.forced (p : Part) (l : Leaf) : Part :=
  if p.hatch.handoverOpen then p.abandonWith .forcedLeaf (fun q => q.forceLeaf l) else p.forceLeaf l

/-- A tally in flight is discarded by a leaf opening (R117, log 30), and its tally leaf becomes absent (log 29). -/
def Part.discardTally (p : Part) (l : Leaf) : Part :=
  if p.hatch.tallyEnd.isSome then
    (p.withHatch { p.hatch with tallyEnd := none, tallyLeaf := none }).setHatchState (accessState l)
  else p

/-- A leaf is accepted open: a normal access while its lock request is on, otherwise forced (R115, R116, R119). That this
holds of a first accepted level too, where a request has put the lock request on before it, is the model's choice (R116,
R141, log 52). -/
def Part.leafOpens (p : Part) (l : Leaf) : Part :=
  if p.hatch.locks.get l then
    (p.withHatch { p.hatch with
      windows := p.hatch.windows.set l none
      returnState := if l = .inner then none else p.hatch.returnState }).discardTally l
  else p.forced l

/-- A tally starts (R117). The tally leaf a start retained is kept until the start tally completes (R140), and the start
tally's outcome does not read it (log 51). -/
def Part.startTallyAt (p : Part) (l : Leaf) : Part :=
  (p.withHatch { p.hatch with
    tallyLeaf := if p.hatch.startTally = .retained then p.hatch.tallyLeaf else some l
    tallyEnd := some (p.now + tallyTime) }).setHatchState .tallying

/-- A leaf is accepted closed: its lock request goes off (R115), and a tally starts if the other leaf is closed
(R117). -/
def Part.leafCloses (p : Part) (l : Leaf) : Part :=
  let q := (p.clearWindow l).setLock l false
  if q.leafClosed (otherLeaf l) then q.startTallyAt l else q

/-- The hatch controller takes a level of a leaf's switch (R114). -/
def Part.takeLeaf (p : Part) (l : Leaf) (closed : Bool) : Part :=
  if closed then p.leafCloses l else p.leafOpens l

/-! ## Tally outcomes -/

/-- The outbound staging tally (R105, R120). -/
def Part.stagingTally (p : Part) (t : TagReport) : Part :=
  let batch := p.hatch.batch
  let table := p.custody.unstageGone t batch
  if tallyShowsEmpty t then
    ((p.withCustody table).withHatch p.hatch.withoutBatch).setHatchState .empty
  else if p.custody.validOutbound t batch then
    let number := batch.getD (nextBatch p.custody.batchCounter)
    let counter := if batch.isSome then p.custody.batchCounter else number
    ((p.withCustody { table.stagePresent t number with batchCounter := counter }).withHatch
      { p.hatch with batch := some number, direction := some .out }).setHatchState .staged
  else if table.holdsBatch .stagedOut batch then
    ((p.withCustody table).withHatch { p.hatch with direction := some .out }).setHatchState .irregular
  else ((p.withCustody table).withHatch p.hatch.withoutBatch).setHatchState .irregular

/-- The departure tally (R106, R129). That a completion removes the last accepted step, which R129 does not list, is the
model's choice (log 43). -/
def Part.departureTally (p : Part) (t : TagReport) : Part :=
  let h := p.hatch
  let table := p.custody.departGone t h.batch (h.courier.getD 0) p.minute
  let q := p.withCustody table
  let r :=
    if table.holdsBatch .stagedOut h.batch then
      q.setHatchState (if table.allStaged t h.batch then .staged else .irregular)
    else (q.withHatch h.withoutBatch).setHatchState (if tallyShowsEmpty t then .empty else .irregular)
  if h.handoverOpen && h.stage == .accepted then
    (r.withHatch { r.hatch with
      handoverOpen := false, stage := .none, lastStep := none, courier := none, courierPost := none
      console := none, declared := none }).handNotices h.participants .complete h.direction h.batch none
  else r

/-- The excess at return from the figures of the last scan hand-off (R131, log 33). -/
def capturedExcess (store chamber : Option Nat) : Excess :=
  match chamber, store with
  | some c, some s => .available (c - s)
  | _, _ => .unavailable

/-- The comparison tally (R107, R131, R132). -/
def Part.comparisonTally (p : Part) (t : TagReport) : Part :=
  let h := p.hatch
  if p.custody.matchesDeclared t h.declared then
    ((p.withCustody (p.custody.receive (tallyLabels t) h.batch h.courier p.minute)).withHatch
      { h with
        excess := some (capturedExcess h.handedStore h.handedChamber), dose := 0, purgeTime := 0
        toleranceRun := 0, stage := .tallied
        stepTimeout := some (p.now + seconds p.settings.stepTimeout) }).setHatchState .received
  else
    (p.abandonWith .mismatch (fun q => q.setHatchState .retrieve)).unlockWithNotice .outer .outerUnlocked
      h.courierPost.toList

/-- The retrieve tally (R132). -/
def Part.retrieveTally (p : Part) (t : TagReport) : Part :=
  if tallyShowsEmpty t then (p.withHatch p.hatch.withoutBatch).setHatchState .empty
  else
    (p.setHatchState .retrieve).unlockWithNotice .outer .outerUnlocked p.hatch.courierPost.toList

/-- The exceptions of a release tally, after all its records (R146). That a tally at which no record leaves raises no
NO_CHAMBER_READING, though the excess is unavailable, is the model's choice (log 49). -/
def Part.releaseExceptions (p : Part) (t : TagReport) (before : List CustodyRecord) : Part :=
  let h := p.hatch
  let leaving := before.filter (fun r => r.leaves t h.batch)
  let subject := ExceptionSubject.batch (h.batch.getD 0)
  let q :=
    if leaving.any (dwellCapped p.settings h.excess h.dose) then p.raise .dwellCapped subject else p
  match h.excess with
  | some (.available _) => q
  | _ => if leaving.isEmpty then q else q.raise .noChamberReading subject

/-- The hatch context once the batch of a release tally is done (R136). -/
def HatchContext.released (h : HatchContext) : HatchContext :=
  { h.withoutBatch with stage := .none, handoverOpen := false, excess := none, lastStep := none, dose := 0 }

/-- The release tally (R108, R136, R143). -/
def Part.releaseTally (p : Part) (t : TagReport) : Part :=
  let h := p.hatch
  let table := p.custody.releaseGone t h.batch (dwellOf p.settings h.excess h.dose) p.minute
  let q := (p.withCustody table).releaseExceptions t p.custody.records
  if table.holdsBatch .stagedIn h.batch then
    if h.handoverOpen then
      (q.setHatchState .innerRelease).unlockWithNotice .inner .innerUnlocked h.participants
    else q.setHatchState .received
  else
    let c := q.withHatch h.released
    let r := if tallyShowsEmpty t then c.setHatchState .empty else c.stagingTally t
    if h.handoverOpen then r.handNotices h.participants .complete h.direction h.batch none else r

/-- The outcomes of a tally (Table 7-3). -/
inductive TallyOutcome where
  | staging | departure | comparison | retrieve | release | heldBatch
  deriving DecidableEq, Repr

/-- The outcome of a completed tally (R118). An inner close with direction IN and stage PRESENTED, which Table 7-3 does
not list, takes the comparison tally; stage ACCEPTED with direction IN takes the row of stage none (log 29). -/
def outcomeOf (l : Leaf) (direction : Option Direction) (stage : Stage) : TallyOutcome :=
  match l, direction, stage with
  | .inner, some .inward, .tallied => .release
  | .inner, some .inward, .attested => .release
  | .inner, some .inward, .presented => .comparison
  | .inner, some .inward, _ => .retrieve
  | .inner, _, _ => .staging
  | .outer, some .out, _ => .departure
  | .outer, none, _ => .staging
  | .outer, some .inward, .presented => .comparison
  | .outer, some .inward, .tallied => .heldBatch
  | .outer, some .inward, .attested => .heldBatch
  | .outer, some .inward, _ => .retrieve

/-- The outcome of the start tally from the backup copy of the hatch state and the context (R141). R141 names the
retained tally leaf beside them, and its table gives no row by it. That the leaf is not read, so that the row of the
access state stands also where the leaf is the other one (both had been open), is the model's choice (log 51). -/
def startOutcomeOf (state : HatchState) (direction : Option Direction) (stage : Stage) : TallyOutcome :=
  match state, direction with
  | .retrieve, _ => .retrieve
  | .received, _ => .heldBatch
  | .purging, _ => .heldBatch
  | .innerRelease, _ => .release
  | .innerAccess, some .inward => .release
  | .outerAccess, some .out => .departure
  | .outerAccess, some .inward => if stage = .tallied then .heldBatch else .retrieve
  | _, _ => .staging

/-- A tally outcome is applied (R118). The held-batch tally changes no record and gives RECEIVED (R138). -/
def Part.applyTally (p : Part) (o : TallyOutcome) (t : TagReport) : Part :=
  match o with
  | .staging => p.stagingTally t
  | .departure => p.departureTally t
  | .comparison => p.comparisonTally t
  | .retrieve => p.retrieveTally t
  | .release => p.releaseTally t
  | .heldBatch => p.setHatchState .received

/-- The outcome of the tally in flight, as the context stands (R118, R141, log 28). By the tally leaf where no start
tally is awaited, as after a cold start, whose first tally follows the context that a request has made before it (the
model's choice, log 52); a start tally does not read the leaf, which is the model's choice (log 51). -/
def HatchContext.outcome (h : HatchContext) : TallyOutcome :=
  if h.startTally = .no then outcomeOf (h.tallyLeaf.getD .inner) h.direction h.stage
  else startOutcomeOf h.backupState h.direction h.stage

/-- The tally in flight completes with the reader's report (R117), and its tally leaf becomes absent (log 29). -/
def Part.tallyCompletes (p : Part) (report : TagReport) : Part :=
  if expired p.now p.hatch.tallyEnd then
    let t := normalTally report
    let q := (p.withHatch { p.hatch with tallyList := some t, tallyEnd := none }).applyTally p.hatch.outcome t
    q.withHatch { q.hatch with tallyLeaf := none, startTally := .no }
  else p

/-! ## Expiries, fire, purge, dose -/

/-- An unlock window expires with its leaf closed (R115, R119, R128, R130, R132, R135). -/
def Part.windowExpires (p : Part) (l : Leaf) : Part :=
  if expired p.now (p.hatch.windows.get l) then
    let q := (p.setLock l false).clearWindow l
    match l, q.hatch.state with
    | .inner, .innerAccess => q.returnAccess false
    | .outer, .outerAccess => if q.hatch.handoverOpen then q.abandon .windowExpired else q
    | _, _ => q
  else p

/-- The step timeout expires (R124). -/
def Part.stepTimeoutExpires (p : Part) : Part :=
  if expired p.now p.hatch.stepTimeout then
    if p.hatch.handoverOpen then p.abandon .timeout
    else p.withHatch { p.hatch with stepTimeout := none }
  else p

/-- The hatch controller is handed the new fire state; `old` is the one before (R126, log 27). -/
def Part.hatchTakesFire (p : Part) (old : FireState) : Part :=
  if !old.sealed && p.fire.state.sealed then
    if p.hatch.handoverOpen then p.lockBoth.abandon .fire
    else
      let q := p.lockBoth
      match q.hatch.state with
      | .innerAccess => if q.leafClosed .inner then q.returnAccess false else q
      | .outerAccess =>
          if q.leafClosed .outer then
            match q.hatch.direction with
            | some .out => q.setHatchState .staged
            | some .inward => q.setHatchState .retrieve
            | none => q.stagingTally (q.hatch.tallyList.getD (.labels []))
          else q
      | _ => q
  else p

/-- The tolerance run that completes a purge (R134). -/
def toleranceRunNeeded : Nat := 3

/-- The purge completes (R135), raising PURGE_TIMEOUT when it completes on purge max (R134). -/
def Part.completePurge (p : Part) (timedOut : Bool) : Part :=
  let q := if timedOut then p.raise .purgeTimeout (.batch (p.hatch.batch.getD 0)) else p
  (q.endPurge.setHatchState .innerRelease).unlockWithNotice .inner .innerUnlocked p.hatch.participants

/-- The purge has reached a tolerance run of 3 or purge max (R134, log 34). -/
def Part.purgeReached (p : Part) : Bool :=
  p.hatch.state == .purging
    && (decide (toleranceRunNeeded ≤ p.hatch.toleranceRun) || decide (p.settings.purgeMax ≤ p.hatch.purgeTime))

/-- An advance of the local second count at the purge (R134). -/
def Part.purgeSecond (p : Part) : Part :=
  if p.hatch.state = .purging ∧ p.climate.airPath = .purge then
    let time := min p.settings.purgeMax (p.hatch.purgeTime + 1)
    let q := p.withHatch { p.hatch with purgeTime := time }
    if p.settings.purgeMax ≤ time then q.completePurge true else q
  else p

/-- The top of the dose (R137). -/
def maxDose : Nat := 65535

/-- A scan hand-off at the dose (R137). -/
def Part.accumulateDose (p : Part) (store chamber : Option Nat) : Part :=
  if p.hatch.holdsInbound then
    match chamber, store with
    | some c, some s =>
        let dose := min maxDose (p.hatch.dose + (c - s))
        let q := p.withHatch { p.hatch with dose := dose }
        if p.hatch.dose < maxDose ∧ dose = maxDose then
          q.raise .doseSaturated (.batch (p.hatch.batch.getD 0))
        else q
    | _, _ => p
  else p

/-- Chamber and store moisture lie within the purge tolerance (R134). -/
def withinTolerance (tolerance : Nat) (store chamber : Option Nat) : Bool :=
  match chamber, store with
  | some c, some s => decide (c - s ≤ tolerance) && decide (s - c ≤ tolerance)
  | _, _ => false

/-- A scan hand-off at the tolerance run (R134). -/
def Part.toleranceHandOff (p : Part) (store chamber : Option Nat) : Part :=
  if p.hatch.state = .purging then
    if p.climate.airPath = .purge ∧ withinTolerance p.settings.purgeTolerance store chamber then
      let run := min toleranceRunNeeded (p.hatch.toleranceRun + 1)
      let q := p.withHatch { p.hatch with toleranceRun := run }
      if toleranceRunNeeded ≤ run then q.completePurge false else q
    else p.withHatch { p.hatch with toleranceRun := 0 }
  else p

/-- The hatch controller takes a scan hand-off (R4, R18). -/
def Part.hatchHandOff (p : Part) (store chamber : Option Nat) : Part :=
  ((p.withHatch { p.hatch with handedStore := store, handedChamber := chamber }).accumulateDose store
    chamber).toleranceHandOff store chamber

end Sys2Proof.Machine
end

