-- ==== Sys2Proof/Machine/Handover.lean ====
section
/-! DEFINITION. The requests of the hatch controller: OPEN_INNER and the four handover requests (R119, R121 to R133). -/

namespace Sys2Proof.Machine

/-- The states in which OPEN_INNER is taken (R119). -/
def HatchState.opensInner : HatchState → Bool
  | .empty | .staged | .irregular | .innerRelease => true
  | .innerAccess | .tallying | .outerAccess | .received | .purging | .retrieve => false

/-- OPEN_INNER at the hatch controller (R119). That no INNER_UNLOCKED follows where it is taken in INNER_RELEASE is the
model's choice (R122, log 46); so is that it is taken, and unlocks, while a start has not yet accepted the leaves (R139,
R141, log 52). -/
def Part.takeOpenInner (p : Part) (asker : Asker) : Part :=
  let h := p.hatch
  if p.startUp.defaulted then p.reply asker .defaulted .nothing
  else if !h.state.opensInner || (h.handoverOpen && h.direction == some .out) || p.leafOpen .inner
      || p.leafOpen .outer then
    p.reply asker .hatchOpen (.hatchState h.state)
  else if p.fire.state.sealed then p.reply asker .zoneHeld (.fireState p.fire.state)
  else if p.occupancy = .unstaffed then p.reply asker .unstaffed .nothing
  else
    (((p.withHatch { h with returnState := some h.state, startTally := .no }).unlock .inner).setHatchState
      .innerAccess).reply asker .done .nothing

/-- A HANDOVER request with its fields in range (R121). -/
inductive HandoverRequest where
  | present (direction : Direction) (batch count courier : Nat)
  | attest (batch count : Nat)
  | accept (batch : Nat)
  | withdraw (batch : Nat)
  deriving DecidableEq, Repr

/-- The kind of a handover request. -/
def HandoverRequest.step : HandoverRequest → StepKind
  | .present _ _ _ _ => .present
  | .attest _ _ => .attest
  | .accept _ => .accept
  | .withdraw _ => .withdraw

/-- The batch number of a handover request. -/
def HandoverRequest.batch : HandoverRequest → Nat
  | .present _ b _ _ => b
  | .attest b _ => b
  | .accept b => b
  | .withdraw b => b

/-- The step a request makes when it is accepted (Table 7-1). -/
def HandoverRequest.accepted (r : HandoverRequest) (asker : Asker) : AcceptedStep :=
  { kind := r.step, station := asker.station, batch := r.batch }

/-- REFUSED_SEQUENCE with the hatch state and stage (Table 9-3). -/
def Part.refuseSequence (p : Part) (asker : Asker) (h : HatchContext) : Part :=
  p.reply asker .refusedSequence (.hatchAndStage h.state h.stage)

/-- The request is the expected next step of the open handover (R123, R128, R133). -/
def HatchContext.expects (h : HatchContext) (asker : Asker) (r : HandoverRequest) : Bool :=
  match h.direction, h.stage, r with
  | some .out, .presented, .attest b n => h.batch == some b && h.declared == some n
  | some .out, .attested, .accept b => h.batch == some b && h.courierPost == some asker.station
  | some .inward, .tallied, .attest b n => h.batch == some b && h.declared == some n
  | _, _, _ => false

/-- The request is a WITHDRAW for the batch from a participant (R123, R124). -/
def HatchContext.withdraws (h : HatchContext) (asker : Asker) (r : HandoverRequest) : Bool :=
  match r with
  | .withdraw b => h.batch == some b && h.participants.contains asker.station
  | _ => false

/-- An outbound ATTEST is taken (R128). -/
def Part.takeOutboundAttest (p : Part) (asker : Asker) (r : HandoverRequest) : Part :=
  (p.withHatch { p.hatch with
    console := some asker.station, stage := .attested, lastStep := some (r.accepted asker)
    stepTimeout := some (p.now + seconds p.settings.stepTimeout) }).reply asker .done .nothing

/-- An outbound ACCEPT is taken (R128). -/
def Part.takeOutboundAccept (p : Part) (asker : Asker) (r : HandoverRequest) : Part :=
  (((p.withHatch { p.hatch with
      stage := .accepted, lastStep := some (r.accepted asker), stepTimeout := none }).setHatchState
    .outerAccess).unlockWithNotice .outer .outerUnlocked p.hatch.participants).reply asker .done .nothing

/-- An inbound ATTEST is taken, as the next step or as a resumption (R133). -/
def Part.takeInboundAttest (p : Part) (asker : Asker) (r : HandoverRequest) : Part :=
  ((p.withHatch { p.hatch with
      console := some asker.station, stage := .attested, handoverOpen := true
      lastStep := some (r.accepted asker), stepTimeout := none, purgeRequest := true }).setHatchState
    .purging).evaluate.reply asker .done .nothing

/-- The expected step of an open handover is taken by its own rule (R123). -/
def Part.takeStep (p : Part) (asker : Asker) (r : HandoverRequest) : Part :=
  match p.hatch.direction, r with
  | some .inward, _ => p.takeInboundAttest asker r
  | _, .accept _ => p.takeOutboundAccept asker r
  | _, _ => p.takeOutboundAttest asker r

/-- A HANDOVER request while a handover is open (R123, R124, log 31). -/
def Part.takeWhileOpen (p : Part) (asker : Asker) (r : HandoverRequest) : Part :=
  if p.hatch.lastStep = some (r.accepted asker) then p.reply asker .done .nothing
  else if p.hatch.expects asker r then p.takeStep asker r
  else if p.hatch.withdraws asker r then (p.reply asker .done .nothing).abandon .withdrawn
  else (p.refuseSequence asker p.abandonCore.hatch).abandon .sequence

/-- PRESENT with direction OUT while no handover is open (R127, log 35). -/
def Part.takePresentOut (p : Part) (asker : Asker) (batch count courier : Nat) : Part :=
  let h := p.hatch
  if h.state ≠ .staged then p.reply asker .refusedState (.hatchState h.state)
  else if p.fire.state ≠ .quiet then p.reply asker .zoneHeld (.fireState p.fire.state)
  else if p.occupancy = .unstaffed then p.reply asker .unstaffed .nothing
  else if h.batch ≠ some batch ∨ p.custody.stagedCount h.batch ≠ count then p.refuseSequence asker h
  else
    (p.withHatch { h with
      direction := some .out, courierPost := some asker.station, courier := some courier
      declared := some count, stage := .presented, handoverOpen := true
      lastStep := some { kind := .present, station := asker.station, batch := batch }
      stepTimeout := some (p.now + seconds p.settings.stepTimeout), startTally := .no }).reply asker .done
        .nothing

/-- PRESENT with direction IN while no handover is open (R130). That it is taken, and unlocks, while a start has not yet
accepted the leaves is the model's choice (R139, R141, log 52). -/
def Part.takePresentIn (p : Part) (asker : Asker) (batch count courier : Nat) : Part :=
  let h := p.hatch
  if h.state ≠ .empty then p.reply asker .refusedState (.hatchState h.state)
  else if p.fire.state ≠ .quiet then p.reply asker .zoneHeld (.fireState p.fire.state)
  else if p.occupancy = .unstaffed then p.reply asker .unstaffed .nothing
  else if !p.custody.canHold count then p.reply asker .tableFull .nothing
  else
    ((((p.withCustody (p.custody.withHeld count)).withHatch { h with
        direction := some .inward, batch := some batch, declared := some count, courier := some courier
        courierPost := some asker.station, stage := .presented, handoverOpen := true
        lastStep := some { kind := .present, station := asker.station, batch := batch }
        startTally := .no }).setHatchState .outerAccess).unlockWithNotice .outer .outerUnlocked
      [asker.station]).reply asker .done .nothing

/-- ATTEST while no handover is open: a resumption, or refused (R123, R133). -/
def Part.takeResumption (p : Part) (asker : Asker) (r : HandoverRequest) : Part :=
  let h := p.hatch
  if h.state = .received ∧ h.stage = .tallied ∧ h.batch = some r.batch then
    if p.fire.state.sealed then p.reply asker .zoneHeld (.fireState p.fire.state)
    else if p.occupancy = .unstaffed then p.reply asker .unstaffed .nothing
    else p.takeInboundAttest asker r
  else p.refuseSequence asker h

/-- ACCEPT while no handover is open: the outer leaf of RETRIEVE is unlocked again, with OUTER_UNLOCKED to the
courier-post station and a recorded console (R122), or it is refused (R132). A taken
ACCEPT ends the wait for a start tally, as OPEN_INNER and PRESENT do (log 28). That an outer leaf which stands open with
its lock request off counts as not locked, so that the ACCEPT is refused, is the model's choice (log 45). -/
def Part.takeRetrieveAccept (p : Part) (asker : Asker) (batch : Nat) : Part :=
  let h := p.hatch
  if h.state = .retrieve ∧ h.batch = some batch ∧ h.courierPost = some asker.station
      ∧ h.locks.outer = false ∧ p.leafOpen .outer = false then
    if p.fire.state.sealed then p.reply asker .zoneHeld (.fireState p.fire.state)
    else
      ((p.withHatch { h with startTally := .no }).unlockWithNotice .outer .outerUnlocked h.participants).reply asker .done
        .nothing
  else p.refuseSequence asker h

/-- A HANDOVER request while no handover is open (R123). -/
def Part.takeWhileClosed (p : Part) (asker : Asker) (r : HandoverRequest) : Part :=
  match r with
  | .present .out b n c => p.takePresentOut asker b n c
  | .present .inward b n c => p.takePresentIn asker b n c
  | .attest _ _ => p.takeResumption asker r
  | .accept b => p.takeRetrieveAccept asker b
  | .withdraw _ => p.refuseSequence asker p.hatch

/-- A HANDOVER request at the hatch controller (R121, R123). -/
def Part.takeHandover (p : Part) (asker : Asker) (r : HandoverRequest) : Part :=
  if p.startUp.defaulted then p.reply asker .defaulted .nothing
  else if p.hatch.handoverOpen then p.takeWhileOpen asker r
  else p.takeWhileClosed asker r

end Sys2Proof.Machine
end

