-- ==== Sys2Proof/Machine/Fire.lean ====
section
/-! DEFINITION. The fire sequencer (chapter 5): loop changes, confirmation, countdown, release, hold, supervision of
the cylinder, and its two requests. -/

namespace Sys2Proof.Machine

/-! ## A change of the fire state (R66) -/

/-- What OUT3 and OUT4 are requested in a fire state (R85). -/
def signalRequest : FireState → OutputRequest
  | .quiet => .drivenOff
  | .alert => .pattern .alert
  | .preDischarge => .pattern .preDischarge
  | .discharged | .hold | .spent => .drivenOn

/-- The sounder and the beacon requested for the fire state as it stands (R85). -/
def Part.requestSignals (p : Part) : Part :=
  (p.requestOutput .out3 (signalRequest p.fire.state)).requestOutput .out4 (signalRequest p.fire.state)

/-- An entry into QUIET or ALERT while IN4 is accepted inactive sets CYLINDER_LOW (R83). -/
def FireSequencer.entered (f : FireSequencer) (pressureLow : Bool) : FireSequencer :=
  if pressureLow && !f.state.sealed then { f with cylinderLow := true } else f

/-- The fire state changes to that of `f` (R66): outputs and FIRE_STATE, then the climate governor, then the hatch
controller (log 10). -/
def Part.changeFire (p : Part) (f : FireSequencer) : Part :=
  ((p.withFire (f.entered (p.inactive .in4))).requestSignals.handFireState.evaluate).hatchTakesFire p.fire.state

/-- The fire sequencer's faults or flags change without a change of the fire state (R84). -/
def Part.updateFire (p : Part) (f : FireSequencer) : Part := (p.withFire f).handFireState

/-! ## PRE_DISCHARGE and release (R72 to R81) -/

/-- The countdown has expired: it stands at 0 and is not paused (R72, R75). -/
def Part.countdownOver (p : Part) : Bool :=
  p.fire.state == .preDischarge && p.fire.countdown == some 0 && !p.fire.paused

/-- The release pulse: 2 s (R77). -/
def pulseTime : Time := seconds 2

/-- The release confirmation: 10 s (R77). -/
def releaseConfirmationTime : Time := seconds 10

/-- The countdown expires: DISCHARGED, and the release begins (R75, R77). -/
def Part.discharge (p : Part) : Part :=
  (p.changeFire { p.fire with
    state := .discharged, paused := false, countdown := none, pulseEnd := some (p.now + pulseTime)
    confirmationEnd := some (p.now + releaseConfirmationTime), pressureFall := false }).requestOutput .out2 .drivenOn

/-- An expired countdown is taken at once, in the event that brings it to 0 (R72, R73, log 14). -/
def Part.expireAtZero (p : Part) : Part := if p.countdownOver then p.discharge else p

/-- The delay of an occupancy (R72). -/
def occupancyDelay (s : Settings) : Occupancy → Nat
  | .staffed => s.staffedDelay
  | .unstaffed => s.unstaffedDelay

/-- An entry into PRE_DISCHARGE with a countdown and an alarm record (R72). -/
def Part.enterPreDischarge (p : Part) (countdown : Nat) (alarm : Option AlarmRecord) : Part :=
  (p.changeFire { p.fire with
    state := .preDischarge, paused := p.active .in3, countdown := some countdown, pulseEnd := none
    confirmationEnd := none, pressureFall := false, holdEnd := none, alarm := alarm }).expireAtZero

/-- A confirmation moves ALERT to PRE_DISCHARGE with the delay of the occupancy; the alarm record is kept (R70, R71,
R72). -/
def Part.confirmFire (p : Part) : Part :=
  p.enterPreDischarge (occupancyDelay p.settings p.occupancy) p.fire.alarm

/-- The zone enters HOLD, with OUT2 off and the full hold to run (R78, R79, R80, log 35). -/
def Part.enterHold (p : Part) (unconfirmed : Bool) : Part :=
  (p.requestOutput .out2 .drivenOff).changeFire { p.fire with
    state := .hold, pulseEnd := none, confirmationEnd := none
    holdEnd := some (p.now + seconds p.settings.hold)
    releaseUnconfirmed := p.fire.releaseUnconfirmed || unconfirmed }

/-- The release pulse is over (R79). -/
def Part.pulseDue (p : Part) : Bool := p.fire.state == .discharged && expired p.now p.fire.pulseEnd

/-- At the release pulse end (R79). -/
def Part.pulseEnds (p : Part) : Part :=
  if p.fire.pressureFall then p.enterHold false
  else (p.requestOutput .out2 .drivenOff).withFire { p.fire with pulseEnd := none }

/-- The release confirmation is over (R80). -/
def Part.confirmationDue (p : Part) : Bool := p.fire.state == .discharged && expired p.now p.fire.confirmationEnd

/-- At the confirmation end (R80). -/
def Part.confirmationEnds (p : Part) : Part := p.enterHold (!p.fire.pressureFall)

/-- The hold is over (R81). -/
def Part.holdDue (p : Part) : Bool := p.fire.state == .hold && expired p.now p.fire.holdEnd

/-- At the hold end (R81). -/
def Part.holdEnds (p : Part) : Part := p.changeFire { p.fire with state := .spent, holdEnd := none }

/-- An advance of the local second count at the countdown (R73). -/
def Part.countdownSecond (p : Part) : Part :=
  if p.fire.state = .preDischarge ∧ p.fire.paused = false then
    (p.withFire { p.fire with countdown := p.fire.countdown.map (· - 1) }).expireAtZero
  else p

/-! ## What confirms (R68 to R71) -/

/-- An entry is live: heard less than 95 s ago and not SILENT (R164). -/
def Part.liveEntry (p : Part) (e : PeerEntry) : Bool := !e.silent && decide (p.now < e.lastFrame + hearingTime)

/-- A configured neighbour shows fire (R71). -/
def Part.neighbourShowsFire (p : Part) : Bool :=
  p.settings.neighbours.any (fun n =>
    p.peers.entries.any (fun e => e.station == n && p.liveEntry e && e.fireState.any FireState.confirming))

/-- An entry into ALERT from QUIET, with its neighbour test (R68, R71). -/
def Part.enterAlert (p : Part) (alarm : AlarmRecord) : Part :=
  let q := p.changeFire { p.fire with state := .alert, alarm := some alarm }
  if q.neighbourShowsFire then q.confirmFire else q

/-- The first detector an alarm record takes from a class (R67). -/
def detectorOf : LoopClass → Option Detector
  | .det k => some (.number k)
  | .multi => some .multi
  | .short | .trouble | .normal | .openLoop => none

/-- The alarm record of an entry into alarm (R67). -/
def Part.alarmOf (p : Part) (l : LoopId) (c : LoopClass) : AlarmRecord :=
  { firstLoop := some l, firstDetector := detectorOf c, minute := p.minute }

/-- An accepted class change of a loop, at the fire sequencer (R54, R68, R70). -/
def Part.takeLoopChange (p : Part) (l : LoopId) (old new : LoopClass) : Part :=
  let entersAlarm := !old.alarm && new.alarm
  let entersMulti := old != .multi && new == .multi
  match p.fire.state with
  | .quiet =>
      if entersAlarm then
        if entersMulti || p.loopInAlarm (otherLoop l) then
          p.enterPreDischarge (occupancyDelay p.settings p.occupancy) (some (p.alarmOf l new))
        else p.enterAlert (p.alarmOf l new)
      else p
  | .alert =>
      if entersMulti then p.confirmFire
      else if entersAlarm then
        if p.fire.alarm.bind (·.firstLoop) == some l && !p.loopInAlarm (otherLoop l) then p else p.confirmFire
      else p
  | .preDischarge | .discharged | .hold | .spent => p

/-- The peer view records another fire state for a configured neighbour (R71). -/
def Part.takeNeighbourChange (p : Part) (st : FireState) : Part :=
  if p.fire.state = .alert ∧ st.confirming = true then p.confirmFire else p

/-! ## Inputs (R69, R74, R78, R83) -/

/-- IN2 is accepted active: manual release (R69). -/
def Part.manualRelease (p : Part) : Part :=
  match p.fire.state with
  | .quiet =>
      p.enterPreDischarge p.settings.manualDelay
        (some { firstLoop := none, firstDetector := none, minute := p.minute })
  | .alert => p.enterPreDischarge p.settings.manualDelay p.fire.alarm
  | .preDischarge =>
      let c := p.fire.countdown.map (min p.settings.manualDelay)
      if c = p.fire.countdown then p else (p.updateFire { p.fire with countdown := c }).expireAtZero
  | .discharged | .hold | .spent => p

/-- The least countdown after a pause (R74). -/
def countdownAfterPause : Nat := 10

/-- IN3 is accepted: discharge abort (R74). -/
def Part.takeAbort (p : Part) (active : Bool) : Part :=
  if p.fire.state = .preDischarge then
    if active then
      if p.fire.paused then p else p.updateFire { p.fire with paused := true }
    else if p.fire.paused then
      p.updateFire { p.fire with
        paused := false, countdown := p.fire.countdown.map (max countdownAfterPause) }
    else p
  else p

/-- CYLINDER_LOW set or cleared; a change hands FIRE_STATE (R83, R84). -/
def Part.setCylinderLow (p : Part) (low : Bool) : Part :=
  if p.fire.cylinderLow = low then p else p.updateFire { p.fire with cylinderLow := low }

/-- IN4 is accepted: cylinder pressure, active is normal (R78, R83). -/
def Part.takePressure (p : Part) (normal : Bool) : Part :=
  if normal then p.setCylinderLow false
  else
    match p.fire.state with
    | .quiet | .alert => p.setCylinderLow true
    | .discharged =>
        let q := p.withFire { p.fire with pressureFall := true }
        if p.fire.pulseEnd.isNone then q.enterHold false else q
    | .preDischarge | .hold | .spent => p

/-! ## Requests (R76, R82) -/

/-- CANCEL_DISCHARGE at the fire sequencer (R76). -/
def Part.takeCancelDischarge (p : Part) (asker : Asker) : Part :=
  if p.fire.state ≠ .preDischarge then p.reply asker .refusedState (.fireState p.fire.state)
  else if p.occupancy = .unstaffed then p.reply asker .unstaffed .nothing
  else
    (p.changeFire { p.fire with state := .alert, paused := false, countdown := none }).reply asker .done
      (.fireState .alert)

/-- The states RESET_FIRE leaves (R82). -/
def FireState.resettable : FireState → Bool
  | .alert | .spent => true
  | .quiet | .preDischarge | .discharged | .hold => false

/-- RESET_FIRE at the fire sequencer (R82). -/
def Part.takeResetFire (p : Part) (asker : Asker) : Part :=
  if !p.fire.state.resettable || p.loopInAlarm .a || p.loopInAlarm .b then
    p.reply asker .refusedState (.fireState p.fire.state)
  else
    (p.changeFire { p.fire with state := .quiet, alarm := none, releaseUnconfirmed := false }).reply asker .done
      .nothing

end Sys2Proof.Machine
end

