-- ==== Sys2Proof/Machine/Substitution.lean ====
section
/-! DEFINITION. The substitution store (chapter 2): serving channels, remap requests, the burn. -/

namespace Sys2Proof.Machine

/-- The place of a position's own channel (Table 1-1). -/
def ownPlace : Position → Place
  | .a => .a
  | .b => .b

/-- The spare serves this position (Table 2-2). -/
def spareServes (cell : SpareCell) (soft : Option Position) (pos : Position) : Bool :=
  match cell with
  | .unused => soft == some pos
  | .hardA => pos == .a
  | .hardB => pos == .b
  | .lost => false

/-- The channel that serves a position of a group (R1, R21). -/
def SubstitutionStore.servingPlace (s : SubstitutionStore) (g : Group) (pos : Position) : Place :=
  if spareServes (s.cell.get g) (s.soft.get g) pos then .s else ownPlace pos

/-- A burn is in flight for the group (R13, R27). -/
def SubstitutionStore.holdsGroup (s : SubstitutionStore) (g : Group) : Bool := s.burn.any (fun b => b.group == g)

/-- The health of a group's spare channel. -/
def Part.spareHealth (p : Part) (g : Group) : Health := ((p.moisture.channels.get g).get .s).health

/-- The substitution summary of a group as it stands (Table 2-3). -/
def Part.substitutionSummary (p : Part) (g : Group) : SubstitutionSummary :=
  { group := g, soft := p.substitution.soft.get g, cell := p.substitution.cell.get g
    spareHealth := p.spareHealth g, burn := p.substitution.burn.map (fun b => (b.group, b.position)) }

/-- The reply to a remap request, with the summary as it stands after the request (R22). -/
def Part.replyRemap (p : Part) (asker : Asker) (status : Status) (g : Group) : Part :=
  p.reply asker status (.substitution (p.substitutionSummary g))

/-- The soft remap of a group set or removed. -/
def Part.setSoft (p : Part) (g : Group) (soft : Option Position) : Part :=
  p.withSubstitution { p.substitution with soft := p.substitution.soft.set g soft }

/-- REMAP_SOFT at the substitution store (R22, R23). -/
def Part.takeRemapSoft (p : Part) (asker : Asker) (g : Group) (pos : Position) : Part :=
  if p.substitution.burn.isSome then p.replyRemap asker .busy g
  else if p.substitution.cell.get g ≠ .unused then p.replyRemap asker .noSpare g
  else if p.substitution.soft.get g = some pos then p.replyRemap asker .done g
  else if p.spareHealth g = .failed then p.replyRemap asker .spareUnfit g
  else (p.setSoft g (some pos)).replyRemap asker .done g

/-- REMAP_CLEAR at the substitution store (R22, R25). -/
def Part.takeRemapClear (p : Part) (asker : Asker) (g : Group) : Part :=
  if p.substitution.burn.isSome then p.replyRemap asker .busy g
  else (p.setSoft g none).replyRemap asker .done g

/-- A burn begins (R26 step 5). -/
def Part.beginBurn (p : Part) (g : Group) (pos : Position) : Part :=
  p.withSubstitution { p.substitution with burn := some { group := g, position := pos, start := p.now } }

/-- REMAP_HARD at the substitution store (R22, R26). Its ZONE_HELD carries the summary, which R22 puts into every remap
reply, and the fire state, which Table 9-3 gives ZONE_HELD (R159); that it carries both is the model's choice (log 41). -/
def Part.takeRemapHard (p : Part) (asker : Asker) (g : Group) (pos : Position) : Part :=
  if p.substitution.burn.isSome then p.replyRemap asker .busy g
  else if p.substitution.soft.get g ≠ none then p.replyRemap asker .softActive g
  else if p.substitution.cell.get g ≠ .unused then p.replyRemap asker .noSpare g
  else if p.spareHealth g = .failed then p.replyRemap asker .spareUnfit g
  else if p.fire.state ≠ .quiet then
    p.reply asker .zoneHeld (.substitutionAndFire (p.substitutionSummary g) p.fire.state)
  else (p.beginBurn g pos).replyRemap asker .done g

/-- The burn: 2 s (R28). -/
def burnTime : Time := seconds 2

/-- The burn in flight has run its 2 s (R28). -/
def Part.burnDue (p : Part) : Bool := p.substitution.burn.any (fun b => decide (b.start + burnTime ≤ p.now))

/-- The cell a burn of this position writes (R28). -/
def hardCell : Position → SpareCell
  | .a => .hardA
  | .b => .hardB

/-- Burn completion (R28). -/
def Part.burnCompletes (p : Part) : Part :=
  match p.substitution.burn with
  | some b =>
      p.withSubstitution { p.substitution with
        cell := p.substitution.cell.set b.group (hardCell b.position), burn := none }
  | none => p

/-- ACK_EVENTS clears SPARE_LOST for all four groups (R31, R63). -/
def SubstitutionStore.acknowledged (s : SubstitutionStore) : SubstitutionStore :=
  { s with spareLost := PerGroup.of (fun _ => false) }

/-- A group's cell at a start: an interrupted burn leaves it LOST (R29, R30). -/
def SubstitutionStore.cellAtStart (s : SubstitutionStore) (g : Group) : SpareCell :=
  if s.holdsGroup g then .lost else s.cell.get g

/-- A start ends the burn in flight (R29, R30). -/
def SubstitutionStore.endBurn (s : SubstitutionStore) : SubstitutionStore :=
  { s with cell := PerGroup.of s.cellAtStart, burn := none }

/-- A start sets the soft remap of every group to none (R30). -/
def SubstitutionStore.clearSoft (s : SubstitutionStore) : SubstitutionStore :=
  { s with soft := PerGroup.of (fun _ => none) }

/-- Start completion sets SPARE_LOST for each LOST cell (R31, R186 stage 5). -/
def SubstitutionStore.markLost (s : SubstitutionStore) : SubstitutionStore :=
  { s with spareLost := PerGroup.of (fun g => s.cell.get g == .lost) }

end Sys2Proof.Machine
end

