-- ==== Sys2Proof/Machine/Inputs.lean ====
section
/-! DEFINITION. The loop monitor and the input latch unit (chapter 4): classification, debounce, acceptance of input
levels, event latches, ACK_EVENTS. -/

namespace Sys2Proof.Machine

/-! ## Detector loops (R51 to R55) -/

/-- The class of a reading before the detector-count test: the bands of Table 4-1. -/
def bandOf (reading : Nat) : LoopClass :=
  if reading ≤ 47 then .short
  else if reading ≤ 143 then .multi
  else if reading ≤ 207 then .det 7
  else if reading ≤ 271 then .det 6
  else if reading ≤ 335 then .det 5
  else if reading ≤ 399 then .det 4
  else if reading ≤ 463 then .det 3
  else if reading ≤ 527 then .det 2
  else if reading ≤ 591 then .det 1
  else if reading ≤ 687 then .trouble
  else if reading ≤ 815 then .normal
  else .openLoop

/-- The class of a reading (R52): a detector above the configured count is read as TROUBLE. -/
def classify (detectors reading : Nat) : LoopClass :=
  match bandOf reading with
  | .det k => if detectors < k then .trouble else .det k
  | c => c

/-- The readings that accept a class (R53). -/
def readingsToAccept : Nat := 3

/-- A classified reading at the debounce state of its loop (R53, R55). -/
def LoopState.take (s : LoopState) (c : LoopClass) : LoopState :=
  if c = s.accepted then { s with candidate := none, count := 0 }
  else if s.candidate = some c then
    if readingsToAccept ≤ s.count + 1 then
      { s with accepted := c, candidate := none, count := 0, fault := c.isFault }
    else { s with count := s.count + 1 }
  else { s with candidate := some c, count := 1 }

/-- The conversion interval of a loop: 250 ms (R51). -/
def conversionTime : Time := 250

/-- The next conversion of a loop is due (R51). -/
def Part.conversionDue (p : Part) (l : LoopId) : Bool := decide ((p.loops.get l).nextConversion ≤ p.now)

/-- A conversion of a loop is classified and applied (R51, R53). A change of the accepted class is handed to the fire
sequencer (R54), and a change of the loop fault hands FIRE_STATE (R84). -/
def Part.takeLoopReading (p : Part) (l : LoopId) (reading : Nat) : Part :=
  let old := p.loops.get l
  let new := old.take (classify p.settings.detectors reading)
  let q := p.withLoops (p.loops.set l { new with nextConversion := p.now + conversionTime })
  let r := if old.fault = new.fault then q else q.handFireState
  if old.accepted = new.accepted then r else r.takeLoopChange l old.accepted new.accepted

/-! ## Supervisory inputs (R57 to R60) -/

/-- Input n is configured active-low (R58). -/
def activeLow (s : Settings) (i : InputId) : Bool := s.polarity.getLsbD (inputNumber i)

/-- The logical level of an electrical level (R58). -/
def logicalLevel (s : Settings) (i : InputId) (high : Bool) : Bool := high != activeLow s i

/-- The electrical level an accepted level corresponds to (R58). -/
def acceptedElectrical (s : Settings) (i : InputId) (accepted : Option Bool) : Option Bool :=
  accepted.map (fun level => level != activeLow s i)

/-- The hold of an input level: 100 ms (R57). -/
def holdTime : Time := 100

/-- The electrical level of an input changes (R57, first case). -/
def InputState.levelChanges (st : InputState) (acceptedHigh : Option Bool) (high : Bool) (now : Time) : InputState :=
  if st.electrical = high then st
  else if st.pendingLevel = some high then { st with electrical := high }
  else if acceptedHigh = some high then { st with electrical := high, pendingLevel := none, holdExpiry := none }
  else { st with electrical := high, pendingLevel := some high, holdExpiry := some (now + holdTime) }

/-- The input latch unit hears a level change (R57). -/
def Part.takeLevelChange (p : Part) (i : InputId) (high : Bool) : Part :=
  let st := p.inputs.get i
  p.withInputs (p.inputs.set i (st.levelChanges (acceptedElectrical p.settings i st.accepted) high p.now))

/-- The level on an input's wire while the part does not act: only the wire changes (R64, R181). -/
def Part.wireChanges (p : Part) (i : InputId) (high : Bool) : Part :=
  p.withInputs (p.inputs.set i { p.inputs.get i with electrical := high })

/-- An acceptance is a qualifying edge (R59, R60). The first acceptance is no edge. -/
def qualifies (e : QualifyingEdge) (old : Option Bool) (new : Bool) : Bool :=
  match e, old with
  | _, none => false
  | .rising, some o => !o && new
  | .falling, some o => o && !new
  | .both, some o => o != new

/-- A changed logical level is handed to the block that reads the input (Table 4-2, R58). -/
def Part.handInput (p : Part) (i : InputId) (active : Bool) : Part :=
  match i with
  | .in0 => p.takeLeaf .inner active
  | .in1 => p.takeLeaf .outer active
  | .in2 => if active then p.manualRelease else p
  | .in3 => p.takeAbort active
  | .in4 => p.takePressure active
  | .in5 => p.superviseSwitch active
  | .in6 => p.takePlantInput active
  | .in7 => p

/-- The hold of an input has run its 100 ms (R57). -/
def Part.inputHoldDue (p : Part) (i : InputId) : Bool :=
  (p.inputs.get i).pendingLevel.isSome && expired p.now (p.inputs.get i).holdExpiry

/-- An input after its pending level is accepted (R57, R60). -/
def InputState.accepts (st : InputState) (active : Bool) (edge : QualifyingEdge) : InputState :=
  { st with
    accepted := some active, pendingLevel := none, holdExpiry := none
    latch := st.latch || qualifies edge st.accepted active }

/-- The pending level of an input is accepted (R57 to R60). -/
def Part.acceptInput (p : Part) (i : InputId) : Part :=
  let st := p.inputs.get i
  match st.pendingLevel with
  | none => p
  | some high =>
      let active := logicalLevel p.settings i high
      let q := p.withInputs (p.inputs.set i (st.accepts active (configuredEdge p.settings i)))
      if st.accepted = some active then q else q.handInput i active

/-! ## ACK_EVENTS (R62, R63) -/

/-- The states of the eight event latches (R62). -/
def Part.latchStates (p : Part) : PerInput Bool := PerInput.of (fun i => (p.inputs.get i).latch)

/-- The latches of the named inputs cleared (R62). -/
def Part.clearLatches (p : Part) (named : Byte) : Part :=
  p.withInputs (PerInput.of (fun i =>
    { p.inputs.get i with latch := (p.inputs.get i).latch && !named.getLsbD (inputNumber i) }))

/-- The faults that clear at ACK_EVENTS (R63). -/
def Part.acknowledgeFaults (p : Part) : Part :=
  ((p.withSubstitution p.substitution.acknowledged).withHatch { p.hatch with leafForced := false }).withCustody
    { p.custody with lost := false }

/-- ACK_EVENTS at the input latch unit (R62, R63). -/
def Part.takeAckEvents (p : Part) (asker : Asker) (named : Byte) : Part :=
  ((p.clearLatches named).acknowledgeFaults).reply asker .done (.latches p.latchStates)

end Sys2Proof.Machine
end

