-- ==== Sys2Proof/Machine/Moisture.lean ====
section
/-! DEFINITION. The moisture unit (chapter 1): the moisture of a reading, channel health, group evaluation, store and
chamber moisture, scans and their hand-off. -/

namespace Sys2Proof.Machine

/-! ## Moisture of one reading (R5, R9, R10) -/

/-- The saturation table in cg/m³, one point every 5 °C from -20 °C (Table 1-4). -/
def saturationTable : List Nat :=
  [88, 139, 214, 324, 485, 680, 940, 1283, 1730, 2305, 3038, 3963, 5119, 6550, 8306]

/-- Point `i` of the saturation table. -/
def saturationPoint (i : Nat) : Nat := saturationTable.getD i 0

/-- The temperature of a reading, clamped to -200 to 500 (R5). -/
def clampTemperature (t : Int) : Int := max (-200) (min 500 t)

/-- The relative humidity of a reading, clamped to 0 to 1000 (R5). -/
def clampHumidity (rh : Nat) : Nat := min 1000 rh

/-- The reading needs clamping (R5). -/
def readingClamped (t : Int) (rh : Nat) : Bool := clampTemperature t != t || clampHumidity rh != rh

/-- The saturation moisture at a clamped temperature (R9). -/
def saturation (t : Int) : Nat :=
  let u := (t + 200).toNat
  let i := min 13 (u / 50)
  let f := u - 50 * i
  saturationPoint i + ((saturationPoint (i + 1) - saturationPoint i) * f + 25) / 50

/-- The moisture of a clamped reading (R10). -/
def moistureOf (t : Int) (rh : Nat) : Nat := (saturation t * rh + 500) / 1000

/-! ## Channel outcomes (R6, R7) -/

/-- The outcome of a channel for a scan (R6). -/
inductive Outcome where
  | good | clamped | miss
  deriving DecidableEq, Repr

/-- The top of the good count. -/
def topGood : Nat := 10

/-- The top of the miss count. -/
def topMiss : Nat := 3

/-- Health and counts after an outcome (Table 1-3, log 8). -/
def Channel.judged (c : Channel) (o : Outcome) : Channel :=
  let good := min topGood (c.goodCount + 1)
  let misses := min topMiss (c.missCount + 1)
  match o, c.health with
  | .good, .healthy => { c with goodCount := good, missCount := 0 }
  | .good, .suspect =>
      { c with health := if 3 ≤ good then .healthy else .suspect, goodCount := good, missCount := 0 }
  | .good, .failed =>
      { c with health := if 10 ≤ good then .healthy else .failed, goodCount := good, missCount := 0 }
  | .clamped, .healthy => { c with health := .suspect, goodCount := 0, missCount := 0 }
  | .clamped, _ => { c with goodCount := 0, missCount := 0 }
  | .miss, .healthy => { c with health := .suspect, goodCount := 0, missCount := 1 }
  | .miss, .suspect =>
      { c with health := if 3 ≤ misses then .failed else .suspect, goodCount := 0, missCount := misses }
  | .miss, .failed => { c with goodCount := 0, missCount := topMiss }

/-- A reading at its channel record (R7). -/
def Channel.reads (c : Channel) (t : Int) (rh : Nat) : Channel :=
  { c.judged (if readingClamped t rh then .clamped else .good) with
    lastMoisture := some (moistureOf (clampTemperature t) (clampHumidity rh)), readThisScan := true }

/-- A miss at its channel record (R7). -/
def Channel.misses (c : Channel) : Channel := { c.judged .miss with readThisScan := false }

/-- The channel record of a place of a group. -/
def MoistureUnit.channel (m : MoistureUnit) (g : Group) (pl : Place) : Channel := (m.channels.get g).get pl

/-- The channel record of a place of a group replaced. -/
def MoistureUnit.setChannel (m : MoistureUnit) (g : Group) (pl : Place) (c : Channel) : MoistureUnit :=
  { m with channels := m.channels.set g ((m.channels.get g).set pl c) }

/-! ## Groups, store and chamber (R11 to R17) -/

/-- The moisture a position gives in the scan just completed, none when it is not usable (R11). -/
def Part.usableMoisture (p : Part) (g : Group) (pos : Position) : Option Nat :=
  let c := p.moisture.channel g (p.substitution.servingPlace g pos)
  if c.health ≠ .failed ∧ c.readThisScan = true then c.lastMoisture else none

/-- A group record evaluated on its positions (R12). -/
def GroupRecord.evaluated (r : GroupRecord) (now : Time) (a b : Option Nat) : GroupRecord :=
  match a, b with
  | some x, some y => { moisture := some ((x + y + 1) / 2), freshness := .fresh, staleSince := none }
  | some x, none => { moisture := some x, freshness := .fresh, staleSince := none }
  | none, some y => { moisture := some y, freshness := .fresh, staleSince := none }
  | none, none =>
      if r.freshness = .fresh then { r with freshness := .stale, staleSince := some now } else r

/-- A group at scan completion: held by a burn, or evaluated (R12, R13). -/
def Part.groupAfterScan (p : Part) (g : Group) : GroupRecord :=
  if p.substitution.holdsGroup g then p.moisture.groups.get g
  else (p.moisture.groups.get g).evaluated p.now (p.usableMoisture g .a) (p.usableMoisture g .b)

/-- What a group gives to the store and chamber figures: its moisture unless it is LOST (R16, R17). -/
def GroupRecord.counted (r : GroupRecord) : Option Nat := if r.freshness = .lost then none else r.moisture

/-- Store moisture (R16). -/
def storeMoisture (groups : PerGroup GroupRecord) : Option Nat :=
  ([groups.g0, groups.g1, groups.g2].filterMap GroupRecord.counted).max?

/-- Chamber moisture (R17). -/
def chamberMoisture (groups : PerGroup GroupRecord) : Option Nat := groups.g3.counted

/-- The moisture unit with these group records, and the figures recomputed from them (R16, R17). -/
def MoistureUnit.withGroups (m : MoistureUnit) (groups : PerGroup GroupRecord) : MoistureUnit :=
  { m with groups := groups, store := storeMoisture groups, chamber := chamberMoisture groups }

/-- The staleness time: 600 s (R14). -/
def stalenessTime : Time := seconds 600

/-- A group's staleness has run out (R14). -/
def Part.stalenessDue (p : Part) (g : Group) : Bool :=
  let r := p.moisture.groups.get g
  r.freshness == .stale && r.staleSince.any (fun t => decide (t + stalenessTime ≤ p.now))

/-- A group becomes LOST; store and chamber moisture are recomputed at once (R14, R18). -/
def Part.stalenessExpires (p : Part) (g : Group) : Part :=
  p.withMoisture (p.moisture.withGroups
    (p.moisture.groups.set g { p.moisture.groups.get g with freshness := .lost }))

/-! ## Scans (R2 to R4) -/

/-- The scan period of an occupancy (R3). -/
def scanPeriod : Occupancy → Time
  | .staffed => seconds 10
  | .unstaffed => seconds 30

/-- The answer window: 400 ms (R2). -/
def answerWindow : Time := 400

/-- A scan is due: its time has come and none is in flight (R3). -/
def Part.scanDue (p : Part) : Bool := p.moisture.scan.isNone && decide (p.moisture.nextScan ≤ p.now)

/-- A scan begins (R2, R3, R7, log 38). -/
def Part.beginScan (p : Part) : Part :=
  let m := p.moisture
  p.withMoisture { m with
    channels := PerGroup.of (fun g => PerPlace.of (fun pl => { m.channel g pl with readThisScan := false }))
    scan := some
      { windowEnd := p.now + answerWindow, decided := PerGroup.of (fun _ => PerPlace.of (fun _ => false)) }
    lastScanStart := p.now, nextScan := p.now + scanPeriod p.occupancy }

/-- The next scan start after a change of occupancy (R3). -/
def Part.rescheduleScan (p : Part) : Part :=
  p.withMoisture { p.moisture with nextScan := p.moisture.lastScanStart + scanPeriod p.occupancy }

/-- Every channel of the scan has an outcome (R4). -/
def Scan.allDecided (s : Scan) : Bool := allChannels.all (fun c => (s.decided.get c.1).get c.2)

/-- The scan's figures are handed to the climate governor and the hatch controller, and STATUS is formed (R4, R177,
log 9). -/
def Part.handScan (p : Part) : Part :=
  ((p.climateHandOff p.moisture.store).hatchHandOff p.moisture.store p.moisture.chamber).handStatus

/-- Scan completion (R4). -/
def Part.scanCompletes (p : Part) : Part :=
  (p.withMoisture { p.moisture.withGroups (PerGroup.of p.groupAfterScan) with scan := none }).handScan

/-- The scan in flight in which this channel has no outcome yet. -/
def Part.openScan (p : Part) (g : Group) (pl : Place) : Option Scan :=
  p.moisture.scan.filter (fun s => !(s.decided.get g).get pl)

/-- A channel's outcome is marked decided, and the scan completes when it was the last (R2, R4). -/
def Part.decideChannel (p : Part) (s : Scan) (g : Group) (pl : Place) : Part :=
  let scan := { s with decided := s.decided.set g ((s.decided.get g).set pl true) }
  let q := p.withMoisture { p.moisture with scan := some scan }
  if scan.allDecided then q.scanCompletes else q

/-- A channel's outcome is a miss (R2, R7). -/
def Part.channelMisses (p : Part) (s : Scan) (g : Group) (pl : Place) : Part :=
  (p.withMoisture (p.moisture.setChannel g pl (p.moisture.channel g pl).misses)).decideChannel s g pl

/-- A channel's outcome is a reading (R5, R7). -/
def Part.channelReads (p : Part) (s : Scan) (g : Group) (pl : Place) (t : Int) (rh : Nat) : Part :=
  let q := p.withMoisture (p.moisture.setChannel g pl ((p.moisture.channel g pl).reads t rh))
  (if readingClamped t rh then q.raise .readingClamped (.group g) else q).decideChannel s g pl

/-- An answer on a channel's line (R2). It is ignored when no window is open for the channel (log 39). -/
def Part.takeAnswer (p : Part) (g : Group) (pl : Place) (t : Int) (rh : Nat) (checkAgrees : Bool) : Part :=
  match p.openScan g pl with
  | some s =>
      if s.windowEnd < p.now then p
      else if checkAgrees then p.channelReads s g pl t rh
      else p.channelMisses s g pl
  | none => p

/-- The answer window of a channel has run out without an answer (R2). -/
def Part.windowDue (p : Part) (g : Group) (pl : Place) : Bool :=
  (p.openScan g pl).any (fun s => decide (s.windowEnd ≤ p.now))

/-- The answer window of a channel expires (R2). -/
def Part.windowCloses (p : Part) (g : Group) (pl : Place) : Part :=
  match p.openScan g pl with
  | some s => p.channelMisses s g pl
  | none => p

end Sys2Proof.Machine
end

