-- ==== Sys2Proof/Machine/Peer.lean ====
section
/-! DEFINITION. The peer view and the archive clock's adoption (R163 to R166, R169). -/

namespace Sys2Proof.Machine

/-! ## What a frame carries for the peer view -/

/-- The contents a frame has for the peer view and the archive clock (R163, R169). -/
structure PeerContent where
  ductGroup : Option Nat
  demand : Option Nat
  fireState : Option FireState
  minute : Option Minute
  deriving DecidableEq, Repr

/-- A frame that carries nothing for the peer view. -/
def PeerContent.nothing : PeerContent := { ductGroup := none, demand := none, fireState := none, minute := none }

/-- A duct group byte in its range (Table 9-4). -/
def ductGroupOfByte (b : Byte) : Option Nat := if b.toNat ≤ 15 then some b.toNat else none

/-- The contents of a frame (R160, R163). A field outside its range is not written; a payload whose length is not
that of its kind carries nothing (log 12). -/
def contentOf (f : RxFrame) : PeerContent :=
  let byte (i : Nat) : Byte := f.payload.getD i 0#8
  match kindMeaning f.cls f.kind with
  | .climate =>
      if f.payload.length = 3 then
        { PeerContent.nothing with ductGroup := ductGroupOfByte (byte 0), demand := some (byte 1).toNat }
      else .nothing
  | .status =>
      if f.payload.length = 24 then
        { PeerContent.nothing with
          fireState := fireStateOfCode (byte 4), minute := some (payloadField f.payload 0 4) }
      else .nothing
  | .fireState =>
      if f.payload.length = 10 then { PeerContent.nothing with fireState := fireStateOfCode (byte 0) } else .nothing
  | .request _ | .silentlyTaken | .unknown => .nothing

/-! ## Entries (R163, R165) -/

/-- The most entries of the peer view (R163). -/
def peerCapacity : Nat := 31

/-- The entry of a station. -/
def PeerView.find (v : PeerView) (s : Station) : Option PeerEntry := v.entries.find? (fun e => e.station == s)

/-- A new entry, its optional fields absent (R163). -/
def PeerEntry.new (s : Station) (role : Role) (now : Time) : PeerEntry :=
  { station := s, role := role, ductGroup := none, fireState := none, demand := none, lastFrame := now
    silent := false }

/-- An entry at a valid frame of its station: role, last frame time, SILENT, and the contents from a zone (R163). -/
def PeerEntry.hears (e : PeerEntry) (role : Role) (now : Time) (c : PeerContent) : PeerEntry :=
  if role = .zone then
    { e with
      role := role, lastFrame := now, silent := false
      ductGroup := c.ductGroup.orElse (fun _ => e.ductGroup)
      demand := (c.demand.map (fun d => (d, now))).orElse (fun _ => e.demand)
      fireState := c.fireState.orElse (fun _ => e.fireState) }
  else
    { e with
      role := role, lastFrame := now, silent := false, ductGroup := none, demand := none, fireState := none }

/-- The watches after a valid frame (R166). -/
def hearWatches (ws : List NeighbourWatch) (s : Station) (now : Time) : List NeighbourWatch :=
  ws.map (fun w => if w.station = s then { w with heard := now, silent := false } else w)

/-- The peer view after a valid frame (R163, R165, R166). -/
def PeerView.hears (v : PeerView) (f : RxFrame) (now : Time) : PeerView :=
  let watches := hearWatches v.watches f.source now
  match v.find f.source with
  | some _ =>
      { v with
        entries :=
          changeFirst (fun e => e.station == f.source) (fun e => e.hears f.role now (contentOf f)) v.entries
        watches := watches }
  | none =>
      if v.entries.length < peerCapacity then
        { v with
          entries := v.entries ++ [(PeerEntry.new f.source f.role now).hears f.role now (contentOf f)]
          watches := watches }
      else { v with tableFull := true, watches := watches }

/-- A change of an entry that can change the SHUT condition (R41, log 32). -/
def Part.concernsClimate (p : Part) (old : Option PeerEntry) (new : PeerEntry) : Bool :=
  match old with
  | none => p.ductPeer new
  | some o =>
      o.role != new.role || (o.ductGroup.isSome && o.ductGroup != new.ductGroup)
        || (p.ductPeer new && (o.ductGroup.isNone || o.fireState != new.fireState))

/-- The fire state newly recorded for a configured neighbour (R71, R163). -/
def Part.neighbourChange (p : Part) (old : Option PeerEntry) (new : PeerEntry) : Option FireState :=
  if p.settings.neighbours.contains new.station && old.bind (·.fireState) != new.fireState then new.fireState
  else none

/-- The peer view hands on the change of an entry: to the fire sequencer, then to the climate governor (R163). That the
fire sequencer comes first is the model's choice (log 48). -/
def Part.handPeerChange (p : Part) (old : Option PeerEntry) (new : PeerEntry) : Part :=
  let q :=
    match p.neighbourChange old new with
    | some st => p.takeNeighbourChange st
    | none => p
  if p.concernsClimate old new then q.evaluate else q

/-- A valid frame at the peer view, whatever its destination (R163, log 11). -/
def Part.hearFrame (p : Part) (f : RxFrame) : Part :=
  let q := p.withPeers (p.peers.hears f p.now)
  match q.peers.find f.source with
  | some new => q.handPeerChange (p.peers.find f.source) new
  | none => q

/-! ## The archive clock's adoption (R169) -/

/-- A carried minute count at the archive clock (R169). -/
def Part.adoptMinute (p : Part) (m : Option Minute) : Part :=
  match m with
  | some n => if p.minute < n then p.withClock { p.clock with minute := n } else p
  | none => p

/-! ## Expiries (R164, R166) -/

/-- An entry's 95 s have run (R164). -/
def PeerEntry.due (e : PeerEntry) (now : Time) : Bool := !e.silent && decide (e.lastFrame + hearingTime ≤ now)

/-- The entry of a station is due to expire. -/
def dueEntry (s : Station) (now : Time) (e : PeerEntry) : Bool := e.station == s && e.due now

/-- A station's entry is due to expire (R164). -/
def Part.peerEntryDue (p : Part) (s : Station) : Bool := p.peers.entries.any (dueEntry s p.now)

/-- A station's entry expires: SILENT when its gas was released, otherwise removed, which clears PEER_TABLE_FULL
(R164, R165). -/
def PeerView.expires (v : PeerView) (s : Station) (now : Time) : PeerView :=
  match v.entries.find? (dueEntry s now) with
  | some e =>
      if e.fireState.any FireState.gasReleased then
        { v with entries := changeFirst (dueEntry s now) (fun e => { e with silent := true }) v.entries }
      else { v with entries := v.entries.eraseP (dueEntry s now), tableFull := false }
  | none => v

/-- A station's entry expires; the climate governor evaluates (R41, R164). -/
def Part.peerEntryExpires (p : Part) (s : Station) : Part := (p.withPeers (p.peers.expires s p.now)).evaluate

/-- A watch's 95 s have run (R166). -/
def NeighbourWatch.due (w : NeighbourWatch) (now : Time) : Bool := !w.silent && decide (w.heard + hearingTime ≤ now)

/-- A configured neighbour's watch is due to run out (R166). -/
def Part.watchDue (p : Part) (s : Station) : Bool := p.peers.watches.any (fun w => w.station == s && w.due p.now)

/-- A configured neighbour becomes silent (R166). -/
def Part.watchExpires (p : Part) (s : Station) : Part :=
  p.withPeers { p.peers with
    watches := p.peers.watches.map (fun w => if w.station == s && w.due p.now then { w with silent := true } else w) }

end Sys2Proof.Machine
end

