-- ==== Sys2Proof/Machine/Requests.lean ====
section
/-! DEFINITION. The bus port's reception, dispatch and line (R155 to R159), and the requests of the small owners:
exception list, occupancy, RESTART (R150, R151, R175, R182). -/

namespace Sys2Proof.Machine

/-! ## Requests of the small owners -/

/-- EXCEPTION_LIST at the dwell calculation (R150). -/
def Part.takeExceptionList (p : Part) (asker : Asker) : Part :=
  p.reply asker .done (.exceptions p.exceptions.entries p.exceptions.flags p.settings.capture)

/-- CLEAR_EXCEPTIONS at the dwell calculation (R151). -/
def Part.takeClearExceptions (p : Part) (asker : Asker) : Part :=
  (p.withExceptions ExceptionStore.empty).reply asker .done .nothing

/-- SET_OCCUPANCY at the occupancy setting (R174, R175). -/
def Part.takeSetOccupancy (p : Part) (asker : Asker) (o : Occupancy) : Part :=
  if o = p.occupancy then p.reply asker .done (.occupancy o)
  else if o = .unstaffed ∧ p.hatch.state ≠ .empty then p.reply asker .hatchOpen (.hatchState p.hatch.state)
  else (p.withOccupancy o).rescheduleScan.reply asker .done (.occupancy o)

/-- How long a restart stays pending at most: 1 s (R182). -/
def restartTime : Time := seconds 1

/-- The DONE reply to the RESTART that makes a restart pending, marked (R182, log 36). -/
def restartReplyFrame (asker : Asker) : TxFrame :=
  { newFrame asker.cls asker.station (.reply { kind := asker.kind, status := .done, data := .nothing }) with
    restartReply := true }

/-- RESTART at the start-up function (R182). -/
def Part.takeRestart (p : Part) (asker : Asker) : Part :=
  if p.startUp.restartDeadline.isSome then p.reply asker .done .nothing
  else
    (p.withStartUp { p.startUp with restartDeadline := some (p.now + restartTime) }).handFrame
      (restartReplyFrame asker)

/-! ## Dispatch (R158, R159) -/

/-- A request with its fields in range, at its owner (Table 9-2, R158 step 5). -/
def Part.handToOwner (p : Part) (asker : Asker) (r : Request) : Part :=
  match r with
  | .cancelDischarge => p.takeCancelDischarge asker
  | .resetFire => p.takeResetFire asker
  | .present direction batch count courier =>
      p.takeHandover asker
        (.present (directionOfByte direction) batch.toNat count.toNat courier.toNat)
  | .attest batch count => p.takeHandover asker (.attest batch.toNat count.toNat)
  | .accept batch => p.takeHandover asker (.accept batch.toNat)
  | .withdraw batch => p.takeHandover asker (.withdraw batch.toNat)
  | .checkout loan labels => p.takeCheckout asker loan.toNat labels
  | .cancel label revision => p.takeCancel asker label revision.toNat
  | .extendLoan label revision added => p.takeExtend asker label revision.toNat added.toNat
  | .shelved label revision => p.takeShelved asker label revision.toNat
  | .query label => p.takeQuery asker label
  | .list start => p.takeList asker start.toNat
  | .openInner => p.takeOpenInner asker
  | .ackEvents inputs => p.takeAckEvents asker inputs
  | .setOccupancy value => p.takeSetOccupancy asker (occupancyOfByte value)
  | .remapSoft group position => p.takeRemapSoft asker (groupOfByte group) (positionOfByte position)
  | .remapClear group => p.takeRemapClear asker (groupOfByte group)
  | .remapHard group position => p.takeRemapHard asker (groupOfByte group) (positionOfByte position)
  | .exceptionList => p.takeExceptionList asker
  | .clearExceptions => p.takeClearExceptions asker
  | .restart => p.takeRestart asker

/-- OUT_OF_RANGE for a payload length that does not fit: the position is a free value (R158 step 4, log 17). -/
def Part.refuseLength (p : Part) (asker : Asker) : Part :=
  p.draw.reply asker .outOfRange (.bytePosition (Config.lengthMisfitPosition p.freeDraws))

/-- A request from its role test on (R158 steps 3 to 5). -/
def Part.answer (p : Part) (asker : Asker) (role : Role) (r : Request) : Part :=
  if !r.kind.takenFrom role then p.reply asker .badRole (.role role)
  else if !r.fits then p.refuseLength asker
  else
    match r.offence with
    | some n => p.reply asker .outOfRange (.bytePosition (BitVec.ofNat 8 n))
    | none => p.handToOwner asker r

/-- The asker of a request command. -/
def requester (src : Station) (r : Request) : Asker := { station := src, cls := r.kind.cls, kind := r.kind.code }

/-- A request addressed to this part (log 7). A listen-only part is addressed by none (R167), and a frame from station
0, 63 or the part's own number is discarded (R157). -/
def Part.takeRequest (p : Part) (src : Station) (role : Role) (r : Request) : Part :=
  if p.bus.station.isSome && validStation src && p.bus.station != some src then p.answer (requester src r) role r
  else p

/-- A valid frame addressed to this part (R158). -/
def Part.dispatch (p : Part) (f : RxFrame) : Part :=
  let asker : Asker := { station := f.source, cls := f.cls, kind := f.kind }
  match kindMeaning f.cls f.kind with
  | .unknown => p.reply asker .unknownKind (.kind f.kind)
  | .silentlyTaken | .fireState | .status | .climate => p
  | .request k =>
      if !k.takenFrom f.role then p.reply asker .badRole (.role f.role)
      else
        match parseRequest k f.payload with
        | some r => p.answer asker f.role r
        | none => p.refuseLength asker

/-- A frame received whole (R157): discarded, or handed to the peer view and then taken by its destination. -/
def Part.receiveFrame (p : Part) (f : RxFrame) : Part :=
  if frameValid f p.bus.station then
    let addressed := p.bus.station == some f.dest
    let q := p.hearFrame f
    let r := if addressed || f.dest == broadcastStation then q.adoptMinute (contentOf f).minute else q
    if addressed then r.dispatch f else r
  else p

/-! ## The line (R155, R156, R161) -/

/-- The head of the queue goes on the line at the first idle, unless a frame is on it (R155, R161). -/
def startHead (q : List TxFrame) : List TxFrame :=
  if q.any (·.onLine) then q
  else
    match q with
    | [] => []
    | f :: fs => { f with onLine := true } :: fs

/-- The frame on the line is removed from the queue (R156). -/
def removeOnLine (q : List TxFrame) : List TxFrame := q.eraseP (·.onLine)

/-- A newer frame of the kind of the frame on the line is pending (R161). -/
def superseded (f : TxFrame) (q : List TxFrame) : Bool :=
  match f.body.coalescedKind with
  | some k => q.any (TxFrame.pendingOf k)
  | none => false

/-- The number of bits from the start bit to the last bit of the source field (R156, Table 9-1). -/
def contentionLength : Nat := 9

/-- The queue after the part reads dominant at a bit of its frame where it sent recessive (R156, R161). In the first
nine bits the frame stays pending, or is removed when superseded; after them it is removed as if sent (log 20). -/
def loseLine (own : Station) (bit : Nat) (q : List TxFrame) : List TxFrame :=
  match q.find? (·.onLine) with
  | none => q
  | some f =>
      if contentionLength ≤ bit then removeOnLine q
      else if (f.contentionBits own).getD bit false then
        if superseded f q then removeOnLine q
        else changeFirst (·.onLine) (fun x => { x with onLine := false }) q
      else q

/-- The transmit queue changed by the line. -/
def Part.onQueue (p : Part) (g : List TxFrame → List TxFrame) : Part :=
  p.withBus { p.bus with queue := g p.bus.queue }

end Sys2Proof.Machine
end

