-- ==== Sys2Proof/Machine/StartUp.lean ====
section
/-! DEFINITION. Starts (chapter 11): the kinds of start, the start values of every block, start completion, the
supplies and the reset pin, and the pending restart. -/

namespace Sys2Proof.Machine

/-- The kinds of start (R181). -/
inductive StartKind where
  | cold | warm | restart
  deriving DecidableEq, Repr

/-- What a start runs on: the configuration in force, whether it is DEFAULTED, and the station number (R183 to
R185). -/
structure StartBasis where
  settings : Settings
  defaulted : Bool
  station : Option Station
  deriving DecidableEq, Repr

/-- The kind of a start in progress. -/
def StartInProgress.kind : StartInProgress → StartKind
  | .power x => if x.cold then .cold else .warm
  | .restart => .restart

/-! ## What the first event of a start does, and what a start reads (R181, R183, R185) -/

/-- What a power start reads (R183, R185). A bad record gives DEFAULTED operation on the Default column (R184). -/
def PowerReading.basis (r : PowerReading) : StartBasis :=
  let station := stationOfPins r.pins
  match goodRecord station r.record with
  | some s => { settings := s, defaulted := false, station := station }
  | none => { settings := Settings.default, defaulted := true, station := station }

/-- What a start runs on: a power start on what it reads, a restart on what is in force (R183, R185). -/
def Part.basisOf (p : Part) : StartInProgress → StartBasis
  | .power x => x.reading.basis
  | .restart => { settings := p.startUp.settings, defaulted := p.startUp.defaulted, station := p.bus.station }

/-- A start begins: its first event (R181). At a rise of the main supply every output is RELEASED until stage 3 (R186).
Every start removes a pending restart (R182). -/
def Part.beginStart (p : Part) (run : StartInProgress) : Part :=
  let q := p.withStartUp { p.startUp with
    mainOn := true, resetAsserted := false, heldStart := none, inProgress := some run, restartDeadline := none }
  match run with
  | .power _ => q.withOutputs OutputDriver.released
  | .restart => q

/-! ## Stage 1: abandonment (R186) -/

/-- The loop's run of candidate readings ends (R56). -/
def LoopState.endDebounce (l : LoopState) : LoopState := { l with candidate := none, count := 0 }

/-- The input's hold ends (R64). -/
def InputState.endHold (i : InputState) : InputState := { i with pendingLevel := none, holdExpiry := none }

/-- The countdown with its pause, the release pulse, the confirmation and the hold end (R86). -/
def FireSequencer.endTimers (f : FireSequencer) : FireSequencer :=
  { f with paused := false, countdown := none, pulseEnd := none, confirmationEnd := none, holdEnd := none }

/-- The tally, the unlock windows, the step timeout and the purge time end (R186). The tally leaf and the retained state
of a tally in flight are kept for the start tally (R140). -/
def HatchContext.endTimers (h : HatchContext) : HatchContext :=
  { h with tallyEnd := none, windows := ⟨none, none⟩, stepTimeout := none, purgeTime := 0 }

/-- The output's pattern ends. Until the output is set at stage 3 it stays at the level of the phase (log 21). -/
def DigitalOutput.endPattern (o : DigitalOutput) : DigitalOutput :=
  match o.state with
  | .pattern _ on _ => { o with state := if on then .drivenOn else .drivenOff }
  | .released | .drivenOff | .drivenOn => o

/-- Stage 1 of a start: everything volatile that is in flight ends without completion, the transmit queue is emptied,
and a burn in flight makes its cell read LOST (R29, R186). -/
def Part.abandonInFlight (p : Part) : Part :=
  { p with
    moisture := { p.moisture with scan := none }
    substitution := p.substitution.endBurn
    climate := { p.climate with confirmation := none }
    loops := ⟨p.loops.a.endDebounce, p.loops.b.endDebounce⟩
    inputs := PerInput.of (fun i => (p.inputs.get i).endHold)
    fire := p.fire.endTimers
    hatch := p.hatch.endTimers
    bus := { p.bus with queue := [] }
    outputs := { p.outputs with out3 := p.outputs.out3.endPattern, out4 := p.outputs.out4.endPattern } }

/-! ## Stage 2: reading (R186) -/

/-- A power start reads the address pins and the configuration record; a restart reads nothing (R183, R185). -/
def Part.readConfiguration (p : Part) (run : StartInProgress) : Part :=
  let b := p.basisOf run
  { p with
    bus := { p.bus with station := b.station }
    startUp := { p.startUp with settings := b.settings, defaulted := b.defaulted } }

/-- The hatch context with its backup part empty (R139, R180, Table 7-1). -/
def HatchContext.emptyBackup (h : HatchContext) : HatchContext :=
  { h with
    state := .empty, backupState := .empty, tallyLeaf := none, direction := none, batch := none, tallyList := none
    stage := .none, handoverOpen := false, courier := none, courierPost := none, console := none, declared := none
    excess := none, dose := 0 }

/-- A cold start writes the backup items (R180). -/
def Part.writeBackup (p : Part) (run : StartInProgress) : Part :=
  match run.kind with
  | .cold =>
      { p with
        fire := { p.fire with state := .quiet, alarm := none, releaseUnconfirmed := false }
        custody := { p.custody with records := [], held := 0, batchCounter := 0 }
        hatch := p.hatch.emptyBackup
        clock := { p.clock with minute := 0 } }
  | .warm | .restart => p

/-- A cold start that has written every backup item sets the validity mark to valid (R180). -/
def Part.markBackup (p : Part) (run : StartInProgress) : Part :=
  match run.kind with
  | .cold => p.withStartUp { p.startUp with backupValid := true }
  | .warm | .restart => p

/-! ## Stage 3: safe outputs (R173, R186) -/

/-- The output driver unit puts every output in the safe condition, by the fitted flags in force (R173). -/
def Part.makeOutputsSafe (p : Part) : Part := p.withOutputs (OutputDriver.safe p.settings)

/-! ## Stage 4: start values (R186, Table 11-2) -/

/-- Every channel and group after a start, before the first scan begins (R8, R15, R16, R17). What counts from start
completion is set there. -/
def MoistureUnit.clear (m : MoistureUnit) : MoistureUnit :=
  { m with
    channels := PerGroup.of (fun _ => PerPlace.of (fun _ => Channel.atStart))
    groups := PerGroup.of (fun _ => { GroupRecord.atStart with staleSince := none })
    store := none, chamber := none }

/-- A loop after a start (R56). -/
def LoopState.clear (l : LoopState) : LoopState := { l with accepted := .normal, fault := false }

/-- An input after a start: not yet accepted, its latch clear (R64). -/
def InputState.clear (i : InputState) : InputState := { i with accepted := none, latch := false }

/-- Occupancy after a start (R174). -/
def occupancyAtStart (k : StartKind) (o : Occupancy) : Occupancy :=
  match k with
  | .cold | .warm => .staffed
  | .restart => o

/-- The fire state after a start, from the retained one (R88); a cold start has written QUIET (R87). -/
def FireState.retained : FireState → FireState
  | .quiet => .quiet
  | .alert => .alert
  | .preDischarge => .preDischarge
  | .discharged => .hold
  | .hold => .hold
  | .spent => .spent

/-- The fire sequencer after a start, its timers ended (R86, R87, R88). A hold runs from start completion. -/
def FireSequencer.atStart (f : FireSequencer) (s : Settings) (o : Occupancy) : FireSequencer :=
  { f with
    state := f.state.retained, pressureFall := false, cylinderLow := false
    countdown := if f.state = .preDischarge then some (occupancyDelay s o) else none
    releaseUnconfirmed := f.releaseUnconfirmed || f.state == .discharged }

/-- The handover stage after a warm start or restart (R140). -/
def stageAtStart (direction : Option Direction) (stage : Stage) : Stage :=
  match direction, stage with
  | some .inward, .attested => .tallied
  | some .inward, .tallied => .tallied
  | _, _ => .none

/-- The hatch context after a start (R139, R140). The backup copy of the state and the tally leaf are kept for the
start tally. -/
def HatchContext.atStart (h : HatchContext) (k : StartKind) : HatchContext :=
  match k with
  | .cold => HatchContext.cold
  | .warm | .restart =>
      { h with
        state := .tallying, stage := stageAtStart h.direction h.stage, handoverOpen := false, lastStep := none
        locks := ⟨false, false⟩, returnState := none, toleranceRun := 0, purgeRequest := false, leafForced := false
        handedStore := none, handedChamber := none, startTally := .retained }

/-- Each block takes its values for the kind of start (R186 stage 4). What counts from start completion is set there. -/
def Part.takeStartValues (p : Part) (run : StartInProgress) : Part :=
  let occupancy := occupancyAtStart run.kind p.occupancy
  { p with
    moisture := p.moisture.clear
    substitution := p.substitution.clearSoft
    climate := ClimateGovernor.atStart
    loops := ⟨p.loops.a.clear, p.loops.b.clear⟩
    inputs := PerInput.of (fun i => (p.inputs.get i).clear)
    fire := p.fire.atStart p.settings occupancy
    custody := p.custody.withHeld 0
    hatch := p.hatch.atStart run.kind
    exceptions := ExceptionStore.empty
    peers := { entries := [], tableFull := false, watches := [] }
    occupancy := occupancy }

/-! ## The stages of a start (R186) -/

/-- The part in a start, as it stands after this stage (R186). Each stage begins where the one before it ends. -/
def Part.afterStage (p : Part) (run : StartInProgress) (stage : StartStage) : Part :=
  let abandoned := p.abandonInFlight
  let read := abandoned.readConfiguration run
  let written := read.writeBackup run
  let marked := written.markBackup run
  let safe := marked.makeOutputsSafe
  match stage with
  | .begun => p
  | .abandoned => abandoned
  | .read => read
  | .written => written
  | .marked => marked
  | .safe => safe
  | .valued => safe.takeStartValues run

/-! ## Stage 5: start completion (R186) -/

/-- The archive clock at start completion: local time counts from here (R168). The minute is kept. -/
def ArchiveClock.fromZero (c : ArchiveClock) : ArchiveClock :=
  { localTime := 0, second := 0, secondOfMinute := 0, minute := c.minute, nextSecond := seconds 1
    minuteRiseDue := false }

/-- The input's hold starts: the level on the wire is pending, 100 ms to hold (R64). -/
def InputState.startHold (i : InputState) : InputState :=
  { i with pendingLevel := some i.electrical, holdExpiry := some holdTime }

/-- The hold of a zone in HOLD starts (R88). -/
def FireSequencer.startHold (f : FireSequencer) (s : Settings) : FireSequencer :=
  { f with holdEnd := if f.state = .hold then some (seconds s.hold) else none }

/-- The watch of each configured neighbour takes this time (R166). -/
def PeerView.startWatches (v : PeerView) (s : Settings) : PeerView :=
  { v with watches := s.neighbours.map (fun n => { station := n, heard := 0, silent := false }) }

/-- What counts from start completion, local time 0, starts: the counts of the clock (R168), the age of the groups
(R15), the first conversions (R51), the input holds (R64), a hold (R88) and the neighbour watches (R166). -/
def Part.startCounting (p : Part) : Part :=
  { p with
    moisture := { p.moisture with
      groups := PerGroup.of (fun g => { p.moisture.groups.get g with staleSince := some 0 }) }
    loops := ⟨{ p.loops.a with nextConversion := 0 }, { p.loops.b with nextConversion := 0 }⟩
    inputs := PerInput.of (fun i => (p.inputs.get i).startHold)
    fire := p.fire.startHold p.settings
    peers := p.peers.startWatches p.settings
    clock := p.clock.fromZero }

/-- The climate governor's test of the SHUT condition at start completion (R49, log 13). -/
def Part.startShut (p : Part) : Part :=
  if p.shutCondition then p.withClimate { p.climate with airPath := .shut } else p

/-- Start completion sets SPARE_LOST for each LOST cell (R31, R186). -/
def Part.markSpareLost (p : Part) : Part := p.withSubstitution p.substitution.markLost

/-- A cold start sets CUSTODY_LOST at its completion (R110, R186). -/
def Part.markCustodyLost (p : Part) : Part :=
  if p.startUp.inProgress.map (·.kind) = some .cold then p.withCustody { p.custody with lost := true } else p

/-- No start is in progress any more. -/
def Part.endProgress (p : Part) : Part := p.withStartUp { p.startUp with inProgress := none }

/-- Start completion: what counts from it starts, SPARE_LOST is set for each LOST cell (R31), a cold start sets
CUSTODY_LOST (R110), the first scan begins (R3), signals are requested and FIRE_STATE is handed (R89), SHUT is tested
and a damper confirmation starts (R49), and a retained countdown of 0 expires (R72). -/
def Part.completion (p : Part) : Part :=
  let started := p.startCounting.markSpareLost.markCustodyLost.endProgress
  (started.beginScan.requestSignals.handFireState.startShut.startConfirmation).expireAtZero

/-- A start in progress runs through its stages to its completion (R186). -/
def Part.completeStart (p : Part) : Part :=
  match p.startUp.inProgress with
  | some run => (p.afterStage run .valued).completion
  | none => p

/-! ## Power starts, the reset pin, the supplies (R180, R181) -/

/-- The power start of a main supply that rises: warm when the validity mark is valid, otherwise cold (R181). -/
def Part.risingStart (p : Part) (r : PowerReading) : PowerStart := { cold := !p.startUp.backupValid, reading := r }

/-- A power start begins (R181). -/
def Part.powerStart (p : Part) (x : PowerStart) : Part := p.beginStart (.power x)

/-- A restart begins (R181, R182). -/
def Part.beginRestart (p : Part) : Part := p.beginStart .restart

/-- The main supply rises (R181). With the reset pin asserted, the start is held (log 22). -/
def Part.mainRises (p : Part) (r : PowerReading) : Part :=
  if p.startUp.mainOn then p
  else if p.startUp.resetAsserted then
    p.withStartUp { p.startUp with mainOn := true, heldStart := some (p.risingStart r), inProgress := none }
  else p.powerStart (p.risingStart r)

/-- The main supply is lost: no output is driven (log 23), no request stands recorded (log 50), and the part does not act
(R181). No level of the backup supply is
held, so the validity mark stays as it is at the loss, whatever that level (log 44). A start in progress is interrupted:
the next power start goes by the mark. -/
def Part.mainFalls (p : Part) : Part :=
  if p.startUp.mainOn then
    (p.withStartUp { p.startUp with mainOn := false, heldStart := none, inProgress := none }).withOutputs OutputDriver.released
  else p

/-- The backup supply falls below its threshold (R180); with the main supply on, the fall leaves no trace (log 44). -/
def Part.backupFalls (p : Part) : Part :=
  if p.startUp.mainOn then p else p.withStartUp { p.startUp with backupValid := false }

/-- The power start that the release of the pin begins when the pin is asserted now: one in progress is begun again as
it was, one held stays held; after a restart, whole or in progress, there is none (R181). -/
def StartUp.heldByPin (u : StartUp) : Option PowerStart :=
  match u.inProgress with
  | some (.power x) => some x
  | some .restart => none
  | none => u.heldStart

/-- The reset pin is asserted: every output is RELEASED, a pending restart is removed, and a start in progress is
interrupted (R181, R182). That no request stands recorded for the outputs then is the model's choice (log 50). -/
def Part.resetAsserts (p : Part) : Part :=
  (p.withStartUp { p.startUp with
    resetAsserted := true, restartDeadline := none, heldStart := p.startUp.heldByPin
    inProgress := none }).withOutputs OutputDriver.released

/-- The reset pin is released: a held power start, or a restart, begins (R181). -/
def Part.resetReleases (p : Part) : Part :=
  if p.startUp.resetAsserted then
    if p.startUp.mainOn then
      match p.startUp.heldStart with
      | some x => p.powerStart x
      | none => p.beginRestart
    else p.withStartUp { p.startUp with resetAsserted := false }
  else p

/-! ## The pending restart (R182) -/

/-- A restart is pending and its DONE reply is not in the transmit queue: it has been sent, removed or dropped (R182,
log 36). -/
def Part.restartReplyLeft (p : Part) : Bool :=
  p.startUp.restartDeadline.isSome && !p.bus.queue.any (·.restartReply)

/-- The end of every event: a restart whose DONE reply has left the queue begins (R182, log 36). -/
def Part.settle (p : Part) : Part := if p.restartReplyLeft then p.beginRestart else p

/-- A pending restart's 1 s has passed (R182). -/
def Part.restartDue (p : Part) : Bool := expired p.now p.startUp.restartDeadline

/-! ## How an event acts -/

/-- An event at the part: it acts while the part is running (R181), and then a restart that is due begins. -/
def Part.event (p : Part) (f : Part → Part) : Part := if p.running then (f p).settle else p

/-- A timed event at the part: it acts only when its timer has run (log 4). -/
def Part.timed (p : Part) (due : Part → Bool) (f : Part → Part) : Part :=
  p.event (fun q => if due q then f q else q)

/-! ## How a start ends (R180, R181, R186, log 21) -/

/-- The commands that interrupt a start (R181). -/
def interruptsStart : Instr → Bool
  | .mainPowerLoss | .resetPinAssert => true
  | _ => false

/-- A start in progress of `p`, as it stands after this stage, for the event that interrupts it (R180, R181, R186,
log 21). -/
def Part.unfinished (p : Part) (stage : StartStage) : Part :=
  match p.startUp.inProgress with
  | some run => p.afterStage run stage
  | none => p

/-- How a start that began in this event goes on, `p` being in it, with these commands waiting: it completes in the same
event, unless the next command that waits interrupts it, which then is taken at a stage of the start or after its
completion. Which of these is a free value (R180, R181, R186, log 21). -/
def Part.afterBegin (p : Part) (waiting : List Instr) : Part :=
  if waiting.head?.any interruptsStart then
    let q := p.withFreeDraws (p.freeDraws + 1)
    match Config.startReaches p.freeDraws with
    | some stage => q.unfinished stage
    | none => q.completeStart
  else p.completeStart

/-- The machine after an event that makes the part `p`: a start that began in the event is completed or left unfinished,
and the queue of waiting commands is not touched. -/
def State.become (s : State) (p : Part) : Host.Outcome State Fault Refusal :=
  .next { toPart := if p.starting && !s.toPart.starting then p.afterBegin s.pending else p, pending := s.pending }

end Sys2Proof.Machine
end

