-- ==== Sys2Proof/Machine/Commands.lean ====
section
/-! DEFINITION. The commands of bus peers, of the line and of the supplies, one meaning each: requests, frames, power,
reset pin, restart. -/

namespace Sys2Proof.Machine

/-- A request command: the request dispatched to its owner (R158, log 7). -/
def State.request (s : State) (src : Station) (role : Role) (r : Request) : Host.Outcome State Fault Refusal :=
  s.become (s.toPart.event (fun p => p.takeRequest src role r))

/-! ## Substitution -/

/-- REMAP_SOFT (R23). -/
def execRemapSoft (src : Station) (role : Role) (group position : Byte) (s : State) :
    Host.Outcome State Fault Refusal :=
  s.request src role (.remapSoft group position)

/-- REMAP_CLEAR (R25). -/
def execRemapClear (src : Station) (role : Role) (group : Byte) (s : State) : Host.Outcome State Fault Refusal :=
  s.request src role (.remapClear group)

/-- REMAP_HARD (R26). -/
def execRemapHard (src : Station) (role : Role) (group position : Byte) (s : State) :
    Host.Outcome State Fault Refusal :=
  s.request src role (.remapHard group position)

/-! ## Inputs and fire -/

/-- ACK_EVENTS (R62, R63). -/
def execAckEvents (src : Station) (role : Role) (inputs : Byte) (s : State) : Host.Outcome State Fault Refusal :=
  s.request src role (.ackEvents inputs)

/-- CANCEL_DISCHARGE (R76). -/
def execCancelDischarge (src : Station) (role : Role) (s : State) : Host.Outcome State Fault Refusal :=
  s.request src role .cancelDischarge

/-- RESET_FIRE (R82). -/
def execResetFire (src : Station) (role : Role) (s : State) : Host.Outcome State Fault Refusal :=
  s.request src role .resetFire

/-! ## Custody -/

/-- CHECKOUT (R96). -/
def execCheckout (src : Station) (role : Role) (loan : BitVec 32) (labels : List Label) (s : State) :
    Host.Outcome State Fault Refusal :=
  s.request src role (.checkout loan labels)

/-- CANCEL (R97). -/
def execCancel (src : Station) (role : Role) (label : Label) (revision : BitVec 16) (s : State) :
    Host.Outcome State Fault Refusal :=
  s.request src role (.cancel label revision)

/-- EXTEND (R98). -/
def execExtendLoan (src : Station) (role : Role) (label : Label) (revision : BitVec 16) (added : BitVec 32)
    (s : State) : Host.Outcome State Fault Refusal :=
  s.request src role (.extendLoan label revision added)

/-- SHELVED (R99). -/
def execShelved (src : Station) (role : Role) (label : Label) (revision : BitVec 16) (s : State) :
    Host.Outcome State Fault Refusal :=
  s.request src role (.shelved label revision)

/-- QUERY (R100). -/
def execQuery (src : Station) (role : Role) (label : Label) (s : State) : Host.Outcome State Fault Refusal :=
  s.request src role (.query label)

/-- LIST (R101). -/
def execList (src : Station) (role : Role) (start : Byte) (s : State) : Host.Outcome State Fault Refusal :=
  s.request src role (.list start)

/-! ## Hatch -/

/-- OPEN_INNER (R119). -/
def execOpenInner (src : Station) (role : Role) (s : State) : Host.Outcome State Fault Refusal :=
  s.request src role .openInner

/-- PRESENT (R127, R130). -/
def execPresent (src : Station) (role : Role) (direction : Byte) (batch : BitVec 16) (count : Byte)
    (courier : BitVec 16) (s : State) : Host.Outcome State Fault Refusal :=
  s.request src role (.present direction batch count courier)

/-- ATTEST (R128, R133). -/
def execAttest (src : Station) (role : Role) (batch : BitVec 16) (count : Byte) (s : State) :
    Host.Outcome State Fault Refusal :=
  s.request src role (.attest batch count)

/-- ACCEPT (R128, R132). -/
def execAccept (src : Station) (role : Role) (batch : BitVec 16) (s : State) : Host.Outcome State Fault Refusal :=
  s.request src role (.accept batch)

/-- WITHDRAW (R124). -/
def execWithdraw (src : Station) (role : Role) (batch : BitVec 16) (s : State) :
    Host.Outcome State Fault Refusal :=
  s.request src role (.withdraw batch)

/-! ## Exceptions, occupancy, restart -/

/-- EXCEPTION_LIST (R150). -/
def execExceptionList (src : Station) (role : Role) (s : State) : Host.Outcome State Fault Refusal :=
  s.request src role .exceptionList

/-- CLEAR_EXCEPTIONS (R151). -/
def execClearExceptions (src : Station) (role : Role) (s : State) : Host.Outcome State Fault Refusal :=
  s.request src role .clearExceptions

/-- SET_OCCUPANCY (R175). -/
def execSetOccupancy (src : Station) (role : Role) (value : Byte) (s : State) : Host.Outcome State Fault Refusal :=
  s.request src role (.setOccupancy value)

/-- RESTART (R182). -/
def execRestart (src : Station) (role : Role) (s : State) : Host.Outcome State Fault Refusal :=
  s.request src role .restart

/-- RESTART_PENDING_EXPIRY (R182). -/
def execRestartPendingExpiry (s : State) : Host.Outcome State Fault Refusal :=
  s.become (s.toPart.timed Part.restartDue Part.beginRestart)

/-! ## The line -/

/-- FRAME_RECEIVED (R157). -/
def execFrameReceived (f : RxFrame) (s : State) : Host.Outcome State Fault Refusal :=
  s.become (s.toPart.event (fun p => p.receiveFrame f))

/-- FRAME_TRANSMIT_START (R155). A listen-only part begins no frame (R167). -/
def execFrameTransmitStart (s : State) : Host.Outcome State Fault Refusal :=
  s.become (s.toPart.event (fun p => if p.listenOnly then p else p.onQueue startHead))

/-- CONTENTION_LOST (R156). -/
def execContentionLost (bit : Nat) (s : State) : Host.Outcome State Fault Refusal :=
  s.become (s.toPart.event (fun p =>
    match p.bus.station with
    | some own => p.onQueue (loseLine own bit)
    | none => p))

/-- FRAME_SENT (R156). -/
def execFrameSent (s : State) : Host.Outcome State Fault Refusal :=
  s.become (s.toPart.event (fun p => p.onQueue removeOnLine))

/-! ## Supplies and reset pin -/

/-- BACKUP_SUPPLY_FALL (R180). -/
def execBackupSupplyFall (s : State) : Host.Outcome State Fault Refusal := s.become s.toPart.backupFalls

/-- MAIN_POWER_LOSS (R181). -/
def execMainPowerLoss (s : State) : Host.Outcome State Fault Refusal := s.become s.toPart.mainFalls

/-- POWER_START (R181). -/
def execPowerStart (record : Option (List Byte)) (pins : Station) (s : State) : Host.Outcome State Fault Refusal :=
  s.become (s.toPart.mainRises { record := record, pins := pins })

/-- RESET_PIN_ASSERT (R181). -/
def execResetPinAssert (s : State) : Host.Outcome State Fault Refusal := s.become s.toPart.resetAsserts

/-- RESET_PIN_RELEASE (R181). -/
def execResetPinRelease (s : State) : Host.Outcome State Fault Refusal := s.become s.toPart.resetReleases

end Sys2Proof.Machine
end

