-- ==== Sys2Proof/Machine/Timers.lean ====
section
/-! DEFINITION. The commands of the part's timers and field wiring, one meaning each: scans and channels, the burn, the
damper, loops and inputs, the clock, the fire sequence, the hatch, the peer view, the patterns. -/

namespace Sys2Proof.Machine

/-! ## The archive clock (R168) -/

/-- The next advance of the local second count is due (R168). -/
def Part.secondDue (p : Part) : Bool := decide (p.clock.nextSecond ≤ p.now)

/-- The local second count risen by one; past its top its value is free (R168, log 16). -/
def Part.countSecond (p : Part) : Part :=
  if p.clock.second < maxMinute then p.withClock { p.clock with second := p.clock.second + 1 }
  else p.draw.withClock { p.clock with second := (Config.secondCountPastTop p.freeDraws).toNat }

/-- The second-of-minute count risen by one; at 60 it becomes 0 and a minute rise is due (R168, log 15). -/
def ArchiveClock.countSecondOfMinute (c : ArchiveClock) : ArchiveClock :=
  { c with
    secondOfMinute := if 60 ≤ c.secondOfMinute + 1 then 0 else c.secondOfMinute + 1
    minuteRiseDue := c.minuteRiseDue || decide (60 ≤ c.secondOfMinute + 1)
    nextSecond := c.nextSecond + seconds 1 }

/-- An advance of the local second count: the counts, a running countdown (R73), the purge time (R134). -/
def Part.advanceSecond (p : Part) : Part :=
  (p.countSecond.withClock p.countSecond.clock.countSecondOfMinute).countdownSecond.purgeSecond

/-- The rise of the archive minute count, with its minute check; none at the top of the count (R102, R168). -/
def Part.riseMinute (p : Part) : Part :=
  if p.minute < maxMinute then
    (p.withClock { p.clock with minute := p.minute + 1, minuteRiseDue := false }).minuteCheck
  else p.withClock { p.clock with minuteRiseDue := false }

/-! ## Patterns (R172) -/

/-- The state of a pattern at its phase end (R172, log 38). -/
def OutputState.nextPhase (st : OutputState) : OutputState :=
  match st with
  | .pattern q onPhase phaseEnd =>
      .pattern q (!onPhase) (phaseEnd + (if onPhase then q.offTime else q.onTime))
  | .released | .drivenOff | .drivenOn => st

/-- The phase of an output state ends at or before this time (R172). -/
def OutputState.phaseDue (st : OutputState) (now : Time) : Bool :=
  match st with
  | .pattern _ _ phaseEnd => decide (phaseEnd ≤ now)
  | .released | .drivenOff | .drivenOn => false

/-- The phase of a signal's pattern ends (R172). -/
def Part.phaseDue (p : Part) (g : Signal) : Bool := (p.outputs.get (signalOutput g)).state.phaseDue p.now

/-- The driver moves a signal to its next phase (R172). -/
def Part.phaseEnds (p : Part) (g : Signal) : Part :=
  let o := p.outputs.get (signalOutput g)
  p.withOutputs (p.outputs.set (signalOutput g) { o with state := o.state.nextPhase })

/-! ## Timers of blocks whose own files hold no test of being due -/

/-- A running damper confirmation has run its 20 s (R47). -/
def Part.damperDue (p : Part) : Bool := expired p.now p.climate.confirmation

/-- The step timeout has run out (R124). -/
def Part.stepTimeoutDue (p : Part) : Bool := expired p.now p.hatch.stepTimeout

/-- An unlock window has run out (R115). -/
def Part.unlockWindowDue (p : Part) (l : Leaf) : Bool := expired p.now (p.hatch.windows.get l)

/-- The tally in flight has run its 2 s (R117). -/
def Part.tallyDue (p : Part) : Bool := expired p.now p.hatch.tallyEnd

/-- The purge that has been reached completes, on purge max unless the tolerance run is full (R134, R135). -/
def Part.purgeEnds (p : Part) : Part := p.completePurge (decide (p.hatch.toleranceRun < toleranceRunNeeded))

/-! ## Measurement and substitution -/

/-- SCAN_START (R2, R3). -/
def execScanStart (s : State) : Host.Outcome State Fault Refusal :=
  s.become (s.toPart.timed Part.scanDue Part.beginScan)

/-- CHANNEL_ANSWER (R2). -/
def execChannelAnswer (g : Group) (pl : Place) (t : Int) (rh : Nat) (agrees : Bool) (s : State) :
    Host.Outcome State Fault Refusal :=
  s.become (s.toPart.event (fun p => p.takeAnswer g pl t rh agrees))

/-- ANSWER_WINDOW_EXPIRY (R2). -/
def execAnswerWindowExpiry (g : Group) (pl : Place) (s : State) : Host.Outcome State Fault Refusal :=
  s.become (s.toPart.timed (fun p => p.windowDue g pl) (fun p => p.windowCloses g pl))

/-- GROUP_STALENESS_EXPIRY (R14). -/
def execGroupStalenessExpiry (g : Group) (s : State) : Host.Outcome State Fault Refusal :=
  s.become (s.toPart.timed (fun p => p.stalenessDue g) (fun p => p.stalenessExpires g))

/-- BURN_COMPLETION (R28). -/
def execBurnCompletion (s : State) : Host.Outcome State Fault Refusal :=
  s.become (s.toPart.timed Part.burnDue Part.burnCompletes)

/-- DAMPER_CONFIRMATION_EXPIRY (R47, R48). -/
def execDamperConfirmationExpiry (s : State) : Host.Outcome State Fault Refusal :=
  s.become (s.toPart.timed Part.damperDue Part.confirmationExpires)

/-! ## Loops and inputs -/

/-- LOOP_READING (R51). -/
def execLoopReading (l : LoopId) (reading : BitVec 10) (s : State) : Host.Outcome State Fault Refusal :=
  s.become (s.toPart.timed (fun p => p.conversionDue l) (fun p => p.takeLoopReading l reading.toNat))

/-- INPUT_LEVEL_CHANGE (R57). While the part does not act only the wire changes. -/
def execInputLevelChange (i : InputId) (high : Bool) (s : State) : Host.Outcome State Fault Refusal :=
  s.become
    (if s.toPart.running then s.toPart.event (fun p => p.takeLevelChange i high) else s.toPart.wireChanges i high)

/-- INPUT_HOLD_EXPIRY (R57). -/
def execInputHoldExpiry (i : InputId) (s : State) : Host.Outcome State Fault Refusal :=
  s.become (s.toPart.timed (fun p => p.inputHoldDue i) (fun p => p.acceptInput i))

/-! ## Clock -/

/-- LOCAL_SECOND_ADVANCE (R168). -/
def execLocalSecondAdvance (s : State) : Host.Outcome State Fault Refusal :=
  s.become (s.toPart.timed Part.secondDue Part.advanceSecond)

/-- ARCHIVE_MINUTE_RISE (R168). -/
def execArchiveMinuteRise (s : State) : Host.Outcome State Fault Refusal :=
  s.become (s.toPart.timed (fun p => p.clock.minuteRiseDue) Part.riseMinute)

/-! ## Fire sequence -/

/-- COUNTDOWN_EXPIRY (R75). -/
def execCountdownExpiry (s : State) : Host.Outcome State Fault Refusal :=
  s.become (s.toPart.timed Part.countdownOver Part.discharge)

/-- RELEASE_PULSE_END (R79). -/
def execReleasePulseEnd (s : State) : Host.Outcome State Fault Refusal :=
  s.become (s.toPart.timed Part.pulseDue Part.pulseEnds)

/-- CONFIRMATION_END (R80). -/
def execConfirmationEnd (s : State) : Host.Outcome State Fault Refusal :=
  s.become (s.toPart.timed Part.confirmationDue Part.confirmationEnds)

/-- HOLD_EXPIRY (R81). -/
def execHoldExpiry (s : State) : Host.Outcome State Fault Refusal :=
  s.become (s.toPart.timed Part.holdDue Part.holdEnds)

/-! ## Hatch -/

/-- STEP_TIMEOUT_EXPIRY (R124). -/
def execStepTimeoutExpiry (s : State) : Host.Outcome State Fault Refusal :=
  s.become (s.toPart.timed Part.stepTimeoutDue Part.stepTimeoutExpires)

/-- UNLOCK_WINDOW_EXPIRY (R115). -/
def execUnlockWindowExpiry (l : Leaf) (s : State) : Host.Outcome State Fault Refusal :=
  s.become (s.toPart.timed (fun p => p.unlockWindowDue l) (fun p => p.windowExpires l))

/-- TALLY_END (R117). -/
def execTallyEnd (report : TagReport) (s : State) : Host.Outcome State Fault Refusal :=
  s.become (s.toPart.timed Part.tallyDue (fun p => p.tallyCompletes report))

/-- PURGE_COMPLETION (R135). -/
def execPurgeCompletion (s : State) : Host.Outcome State Fault Refusal :=
  s.become (s.toPart.timed Part.purgeReached Part.purgeEnds)

/-! ## Peer view and patterns -/

/-- PEER_ENTRY_EXPIRY (R164). -/
def execPeerEntryExpiry (station : Station) (s : State) : Host.Outcome State Fault Refusal :=
  s.become (s.toPart.timed (fun p => p.peerEntryDue station) (fun p => p.peerEntryExpires station))

/-- NEIGHBOUR_WATCH_EXPIRY (R166). -/
def execNeighbourWatchExpiry (station : Station) (s : State) : Host.Outcome State Fault Refusal :=
  s.become (s.toPart.timed (fun p => p.watchDue station) (fun p => p.watchExpires station))

/-- PATTERN_PHASE_END (R172). -/
def execPatternPhaseEnd (g : Signal) (s : State) : Host.Outcome State Fault Refusal :=
  s.become (s.toPart.timed (fun p => p.phaseDue g) (fun p => p.phaseEnds g))

end Sys2Proof.Machine
end

