-- ==== Sys2Proof/Machine/Dispatch.lean ====
section
/-! DEFINITION. The command dispatch: one arm for each constructor of Instr, one direct call of its meaning. -/

namespace Sys2Proof.Machine

def exec (i : Instr) (s : State) : Host.Outcome State Fault Refusal :=
  match i with
  | .scanStart => Sys2Proof.Machine.execScanStart s
  | .channelAnswer group place temperature humidity checkAgrees => Sys2Proof.Machine.execChannelAnswer group place temperature humidity checkAgrees s
  | .answerWindowExpiry group place => Sys2Proof.Machine.execAnswerWindowExpiry group place s
  | .groupStalenessExpiry group => Sys2Proof.Machine.execGroupStalenessExpiry group s
  | .remapSoft src role group position => Sys2Proof.Machine.execRemapSoft src role group position s
  | .remapClear src role group => Sys2Proof.Machine.execRemapClear src role group s
  | .remapHard src role group position => Sys2Proof.Machine.execRemapHard src role group position s
  | .burnCompletion => Sys2Proof.Machine.execBurnCompletion s
  | .damperConfirmationExpiry => Sys2Proof.Machine.execDamperConfirmationExpiry s
  | .loopReading loop reading => Sys2Proof.Machine.execLoopReading loop reading s
  | .inputLevelChange input high => Sys2Proof.Machine.execInputLevelChange input high s
  | .inputHoldExpiry input => Sys2Proof.Machine.execInputHoldExpiry input s
  | .ackEvents src role inputs => Sys2Proof.Machine.execAckEvents src role inputs s
  | .localSecondAdvance => Sys2Proof.Machine.execLocalSecondAdvance s
  | .countdownExpiry => Sys2Proof.Machine.execCountdownExpiry s
  | .releasePulseEnd => Sys2Proof.Machine.execReleasePulseEnd s
  | .confirmationEnd => Sys2Proof.Machine.execConfirmationEnd s
  | .holdExpiry => Sys2Proof.Machine.execHoldExpiry s
  | .cancelDischarge src role => Sys2Proof.Machine.execCancelDischarge src role s
  | .resetFire src role => Sys2Proof.Machine.execResetFire src role s
  | .archiveMinuteRise => Sys2Proof.Machine.execArchiveMinuteRise s
  | .checkout src role loan labels => Sys2Proof.Machine.execCheckout src role loan labels s
  | .cancel src role label revision => Sys2Proof.Machine.execCancel src role label revision s
  | .extendLoan src role label revision added => Sys2Proof.Machine.execExtendLoan src role label revision added s
  | .shelved src role label revision => Sys2Proof.Machine.execShelved src role label revision s
  | .query src role label => Sys2Proof.Machine.execQuery src role label s
  | .list src role start => Sys2Proof.Machine.execList src role start s
  | .openInner src role => Sys2Proof.Machine.execOpenInner src role s
  | .present src role direction batch count courier => Sys2Proof.Machine.execPresent src role direction batch count courier s
  | .attest src role batch count => Sys2Proof.Machine.execAttest src role batch count s
  | .accept src role batch => Sys2Proof.Machine.execAccept src role batch s
  | .withdraw src role batch => Sys2Proof.Machine.execWithdraw src role batch s
  | .stepTimeoutExpiry => Sys2Proof.Machine.execStepTimeoutExpiry s
  | .unlockWindowExpiry leaf => Sys2Proof.Machine.execUnlockWindowExpiry leaf s
  | .tallyEnd report => Sys2Proof.Machine.execTallyEnd report s
  | .purgeCompletion => Sys2Proof.Machine.execPurgeCompletion s
  | .exceptionList src role => Sys2Proof.Machine.execExceptionList src role s
  | .clearExceptions src role => Sys2Proof.Machine.execClearExceptions src role s
  | .frameReceived frame => Sys2Proof.Machine.execFrameReceived frame s
  | .frameTransmitStart => Sys2Proof.Machine.execFrameTransmitStart s
  | .contentionLost bit => Sys2Proof.Machine.execContentionLost bit s
  | .frameSent => Sys2Proof.Machine.execFrameSent s
  | .peerEntryExpiry station => Sys2Proof.Machine.execPeerEntryExpiry station s
  | .neighbourWatchExpiry station => Sys2Proof.Machine.execNeighbourWatchExpiry station s
  | .patternPhaseEnd signal => Sys2Proof.Machine.execPatternPhaseEnd signal s
  | .setOccupancy src role value => Sys2Proof.Machine.execSetOccupancy src role value s
  | .backupSupplyFall => Sys2Proof.Machine.execBackupSupplyFall s
  | .mainPowerLoss => Sys2Proof.Machine.execMainPowerLoss s
  | .powerStart record pins => Sys2Proof.Machine.execPowerStart record pins s
  | .resetPinAssert => Sys2Proof.Machine.execResetPinAssert s
  | .resetPinRelease => Sys2Proof.Machine.execResetPinRelease s
  | .restart src role => Sys2Proof.Machine.execRestart src role s
  | .restartPendingExpiry => Sys2Proof.Machine.execRestartPendingExpiry s

end Sys2Proof.Machine
end

