-- ==== Sys2Proof/Machine/Idle.lean ====
section
/-! DEFINITION. What the part does when no command waits (log 2): its own timers that are due become commands, in a free
order (log 3); when none is due, one millisecond of local time passes. -/

namespace Sys2Proof.Machine

/-- One command if a condition holds. -/
def whenDue (due : Bool) (c : Instr) : List Instr := if due then [c] else []

/-- The timers of the moisture unit and the substitution store that are due. -/
def dueMeasurement (p : Part) : List Instr :=
  whenDue p.scanDue .scanStart
  ++ allChannels.flatMap (fun c => whenDue (p.windowDue c.1 c.2) (.answerWindowExpiry c.1 c.2))
  ++ allGroups.flatMap (fun g => whenDue (p.stalenessDue g) (.groupStalenessExpiry g))
  ++ whenDue p.burnDue .burnCompletion

/-- The timers of inputs, clock, climate and fire that are due. -/
def dueSequence (p : Part) : List Instr :=
  whenDue p.damperDue .damperConfirmationExpiry
  ++ allInputs.flatMap (fun i => whenDue (p.inputHoldDue i) (.inputHoldExpiry i))
  ++ whenDue p.secondDue .localSecondAdvance
  ++ whenDue p.clock.minuteRiseDue .archiveMinuteRise
  ++ whenDue p.countdownOver .countdownExpiry
  ++ whenDue p.pulseDue .releasePulseEnd
  ++ whenDue p.confirmationDue .confirmationEnd
  ++ whenDue p.holdDue .holdExpiry

/-- The timers of hatch, peer view, patterns and restart that are due. -/
def dueRest (p : Part) : List Instr :=
  whenDue p.stepTimeoutDue .stepTimeoutExpiry
  ++ [Leaf.inner, Leaf.outer].flatMap (fun l => whenDue (p.unlockWindowDue l) (.unlockWindowExpiry l))
  ++ whenDue p.purgeReached .purgeCompletion
  ++ p.peers.entries.flatMap (fun e => whenDue (e.due p.now) (.peerEntryExpiry e.station))
  ++ p.peers.watches.flatMap (fun w => whenDue (w.due p.now) (.neighbourWatchExpiry w.station))
  ++ [Signal.sounder, Signal.beacon].flatMap (fun g => whenDue (p.phaseDue g) (.patternPhaseEnd g))
  ++ whenDue p.restartDue .restartPendingExpiry

/-- The commands of the part's own timers that are due now. Conversions, answers, tag reports, frames and supplies are
not among them: what they read comes from outside (log 6). -/
def dueCommands (p : Part) : List Instr := dueMeasurement p ++ dueSequence p ++ dueRest p

/-- One millisecond of local time passes. -/
def Part.tick (p : Part) : Part := p.withClock { p.clock with localTime := p.clock.localTime + 1 }

/-- The machine with no command waiting takes a step of its own (log 2). A start that is in progress is completed; a part
without supply, or held by the pin, idles. -/
def State.idle (s : State) : State :=
  if s.toPart.starting then { s with toPart := s.toPart.completeStart }
  else if s.toPart.running then
    match dueCommands s.toPart with
    | [] => { toPart := s.toPart.tick, pending := [] }
    | c :: cs =>
        { toPart := s.toPart.withFreeDraws (s.freeDraws + cs.length)
          pending := freeOrder (cs.length + 1) s.freeDraws (c :: cs) }
  else s

end Sys2Proof.Machine
end

