-- ==== Sys2Proof/Safety.lean ====
section
/-! DEFINITION. What counts as a safe machine, in the terms the claims use: one law for each block, each taken from the
rules of spec/ named with it. -/

namespace Sys2Proof.Machine

/-! ## When a command acts, and what it sends -/

/-- The marked DONE reply of a pending restart stays in the queue through an event that hands frames but ends none: it is
on the line, or the queue has room for the two frames of an event that could displace it (R161, R162, R182). -/
abbrev BusPort.keepsRestartReply (b : BusPort) : Prop :=
  ∃ f ∈ b.queue, f.restartReply = true ∧ (f.onLine = true ∨ b.queue.length ≤ 6)

/-- The part acts on events, and no restart is pending or its marked DONE reply is in the queue and kept there (R181,
R182). -/
abbrev State.ready (s : State) : Prop :=
  s.toPart.running = true ∧ (s.startUp.restartDeadline = none ∨ s.bus.keepsRestartReply)

/-- A timer that does not run, or whose time has not come. -/
abbrev State.runsLater (s : State) (timer : Option Time) : Prop := ∀ e, timer = some e → s.clock.localTime < e

/-- A timer runs, and its time has come. -/
abbrev Part.hasRun (p : Part) (timer : Option Time) : Prop := ∃ e, timer = some e ∧ e ≤ p.clock.localTime

/-- The command names a timer of the part that runs and whose time has come (R2, R3, R14, R28, R47, R57, R79 to R81,
R115, R124, R164, R166, R168, R172, R182). A count that has reached its end is a time that has come: a countdown at 0
that is not paused (R75, log 14), a purge that meets a test of R134 (log 34), a marked minute rise (log 15). What a
conversion, a channel or the tag reader answers comes from outside (log 6), as do levels, frames, requests and supplies. -/
def Part.dueNow (p : Part) : Instr → Prop
  | .scanStart => p.moisture.scan = none ∧ p.moisture.nextScan ≤ p.clock.localTime
  | .answerWindowExpiry g pl =>
      ∃ x, p.moisture.scan = some x ∧ (x.decided.get g).get pl = false ∧ x.windowEnd ≤ p.clock.localTime
  | .groupStalenessExpiry g =>
      (p.moisture.groups.get g).freshness = .stale
      ∧ ∃ e, (p.moisture.groups.get g).staleSince = some e ∧ e + 600000 ≤ p.clock.localTime
  | .burnCompletion => ∃ b, p.substitution.burn = some b ∧ b.start + 2000 ≤ p.clock.localTime
  | .damperConfirmationExpiry => p.hasRun p.climate.confirmation
  | .inputHoldExpiry i => (p.inputs.get i).pendingLevel ≠ none ∧ p.hasRun (p.inputs.get i).holdExpiry
  | .localSecondAdvance => p.clock.nextSecond ≤ p.clock.localTime
  | .archiveMinuteRise => p.clock.minuteRiseDue = true
  | .countdownExpiry => p.fire.state = .preDischarge ∧ p.fire.countdown = some 0 ∧ p.fire.paused = false
  | .releasePulseEnd => p.fire.state = .discharged ∧ p.hasRun p.fire.pulseEnd
  | .confirmationEnd => p.fire.state = .discharged ∧ p.hasRun p.fire.confirmationEnd
  | .holdExpiry => p.fire.state = .hold ∧ p.hasRun p.fire.holdEnd
  | .stepTimeoutExpiry => p.hasRun p.hatch.stepTimeout
  | .unlockWindowExpiry l => p.hasRun (p.hatch.windows.get l)
  | .purgeCompletion =>
      p.hatch.state = .purging ∧ (3 ≤ p.hatch.toleranceRun ∨ p.startUp.settings.purgeMax ≤ p.hatch.purgeTime)
  | .peerEntryExpiry st =>
      ∃ e ∈ p.peers.entries, e.station = st ∧ e.silent = false ∧ e.lastFrame + 95000 ≤ p.clock.localTime
  | .neighbourWatchExpiry st =>
      ∃ w ∈ p.peers.watches, w.station = st ∧ w.silent = false ∧ w.heard + 95000 ≤ p.clock.localTime
  | .patternPhaseEnd g =>
      ∃ q on e, (p.outputs.get (signalOutput g)).state = .pattern q on e ∧ e ≤ p.clock.localTime
  | .restartPendingExpiry => p.hasRun p.startUp.restartDeadline
  | .channelAnswer _ _ _ _ _ | .loopReading _ _ | .inputLevelChange _ _ | .tallyEnd _ | .frameReceived _
  | .frameTransmitStart | .contentionLost _ | .frameSent | .backupSupplyFall | .mainPowerLoss | .powerStart _ _
  | .resetPinAssert | .resetPinRelease | .remapSoft _ _ _ _ | .remapClear _ _ _ | .remapHard _ _ _ _
  | .ackEvents _ _ _ | .cancelDischarge _ _ | .resetFire _ _ | .checkout _ _ _ _ | .cancel _ _ _ _
  | .extendLoan _ _ _ _ _ | .shelved _ _ _ _ | .query _ _ _ | .list _ _ _ | .openInner _ _ | .present _ _ _ _ _ _
  | .attest _ _ _ _ | .accept _ _ _ | .withdraw _ _ _ | .exceptionList _ _ | .clearExceptions _ _
  | .setOccupancy _ _ _ | .restart _ _ => False

/-- A report as the reader gives it: no label twice and at most 8 of them, or OVERFULL (R117). -/
def reportAsRead : TagReport → Bool
  | .labels ls => decide (ls.Nodup ∧ ls.length ≤ 8)
  | .overfull => true

/-- A request of station `src` reaches this part: the part acts, it has a station number, and `src` is another station
that can send (R157, R158, R167). -/
abbrev State.takesFrom (s : State) (src : Station) : Prop :=
  s.ready ∧ s.bus.station ≠ none ∧ s.bus.station ≠ some src ∧ validStation src = true

/-- The bus port after a block hands it a frame (R161, R162, R167). -/
def BusPort.handed (b : BusPort) (f : TxFrame) : BusPort :=
  if b.station = none then b else { b with queue := placeFrame f b.queue }

/-- The bus port after an evaluation of the climate governor took the part from `p` to `q`: FIRE_STATE where DAMPER_FAULT
changed (R48), and CLIMATE where its content changed and a CLIMATE frame is pending (R35). -/
def BusPort.evaluated (b : BusPort) (p q : Part) : BusPort :=
  let r := if q.climate.damperFault = p.climate.damperFault then b
    else b.handed (newFrame .fire 63#6 (.fireState q.fireContent))
  if (q.climate.effective = p.climate.effective ∧ q.climate.airPath = p.climate.airPath)
      ∨ r.queue.any (TxFrame.pendingOf .climate) = false then r
  else r.handed (newFrame .routine 63#6 (.climate q.climateContent))

/-- The REPLY to a request of this kind from `src` (R159). -/
def replyFrame (src : Station) (k : RequestKind) (status : Status) (data : ReplyData) : TxFrame :=
  newFrame k.cls src (.reply { kind := k.code, status := status, data := data })

/-- The state after the one REPLY to a request, and nothing else (R159). -/
def State.answered (s : State) (src : Station) (k : RequestKind) (status : Status) (data : ReplyData) : State :=
  { s with bus := s.bus.handed (replyFrame src k status data) }

/-- A HANDOVER_NOTICE to a station (R122). -/
def noticeFrame (dest : Station) (t : NoticeType) (direction : Direction) (batch : Nat) (hatch : HatchState)
    (cause : Option Cause) : TxFrame :=
  newFrame .handover dest (.notice ⟨t, direction, batch, hatch, cause⟩)

/-- The bus port after one notice to each of some stations, in order (R122). -/
def BusPort.notified (b : BusPort) (stations : List Station) (t : NoticeType) (direction : Direction) (batch : Nat)
    (hatch : HatchState) (cause : Option Cause) : BusPort :=
  stations.foldl (fun x st => x.handed (noticeFrame st t direction batch hatch cause)) b

/-- The request a command carries, with its sender's station and role; none for an event (Table 9-2). -/
def requestOf : Instr → Option (Station × Role × Request)
  | .remapSoft src role g pos => some (src, role, .remapSoft g pos)
  | .remapClear src role g => some (src, role, .remapClear g)
  | .remapHard src role g pos => some (src, role, .remapHard g pos)
  | .ackEvents src role inputs => some (src, role, .ackEvents inputs)
  | .cancelDischarge src role => some (src, role, .cancelDischarge)
  | .resetFire src role => some (src, role, .resetFire)
  | .checkout src role loan labels => some (src, role, .checkout loan labels)
  | .cancel src role label revision => some (src, role, .cancel label revision)
  | .extendLoan src role label revision added => some (src, role, .extendLoan label revision added)
  | .shelved src role label revision => some (src, role, .shelved label revision)
  | .query src role label => some (src, role, .query label)
  | .list src role start => some (src, role, .list start)
  | .openInner src role => some (src, role, .openInner)
  | .present src role direction batch count courier => some (src, role, .present direction batch count courier)
  | .attest src role batch count => some (src, role, .attest batch count)
  | .accept src role batch => some (src, role, .accept batch)
  | .withdraw src role batch => some (src, role, .withdraw batch)
  | .exceptionList src role => some (src, role, .exceptionList)
  | .clearExceptions src role => some (src, role, .clearExceptions)
  | .setOccupancy src role value => some (src, role, .setOccupancy value)
  | .restart src role => some (src, role, .restart)
  | .scanStart | .channelAnswer _ _ _ _ _ | .answerWindowExpiry _ _ | .groupStalenessExpiry _ | .burnCompletion
  | .damperConfirmationExpiry | .loopReading _ _ | .inputLevelChange _ _ | .inputHoldExpiry _ | .localSecondAdvance
  | .countdownExpiry | .releasePulseEnd | .confirmationEnd | .holdExpiry | .archiveMinuteRise | .stepTimeoutExpiry
  | .unlockWindowExpiry _ | .tallyEnd _ | .purgeCompletion | .frameReceived _ | .frameTransmitStart
  | .contentionLost _ | .frameSent | .peerEntryExpiry _ | .neighbourWatchExpiry _ | .patternPhaseEnd _
  | .backupSupplyFall | .mainPowerLoss | .powerStart _ _ | .resetPinAssert | .resetPinRelease
  | .restartPendingExpiry => none

/-- The commands a part that does not act still takes: the wires of its inputs, its supplies and its reset pin (R181,
log 4). -/
def takenWhileHeld : Instr → Bool
  | .inputLevelChange _ _ | .backupSupplyFall | .mainPowerLoss | .powerStart _ _ | .resetPinAssert | .resetPinRelease =>
      true
  | _ => false

/-! ## A scan -/

/-- Another channel than this one has no outcome in the scan yet. -/
abbrev Scan.othersOpen (x : Scan) (g : Group) (pl : Place) : Prop :=
  ∃ c ∈ allChannels, c ≠ (g, pl) ∧ (x.decided.get c.1).get c.2 = false

/-- The moisture unit with a channel's record after its outcome, that outcome marked in the scan (R2). -/
def MoistureUnit.withOutcome (m : MoistureUnit) (x : Scan) (g : Group) (pl : Place) (c : Channel) : MoistureUnit :=
  { m.setChannel g pl c with
    scan := some { x with decided := x.decided.set g ((x.decided.get g).set pl true) } }

/-! ## Hatch: the lock law (R114) -/

/-- The inner and outer lock releases are never on together, neither is on in PRE_DISCHARGE, DISCHARGED, HOLD or SPENT,
and an output is driven on only under its lock request (R114). -/
abbrev Part.LocksSafe (p : Part) : Prop :=
  ¬(p.hatch.locks.inner = true ∧ p.hatch.locks.outer = true)
  ∧ (p.fire.state.sealed = true → p.hatch.locks = ⟨false, false⟩)
  ∧ (p.outputs.out0.state = .drivenOn → p.hatch.locks.inner = true)
  ∧ (p.outputs.out1.state = .drivenOn → p.hatch.locks.outer = true)

/-! ## Hatch: abandonment (R125) -/

/-- What an abandonment (R125) makes of the hatch, from the part before it: locks off, windows and step timeout removed, handover
closed; the stage, the held slots and the purge request of R125 step 4; the hatch state of step 5; no record changed. -/
abbrev Part.AbandonedTo (p q : Part) : Prop :=
  q.hatch.handoverOpen = false ∧ q.hatch.lastStep = none ∧ q.hatch.stepTimeout = none
  ∧ q.hatch.locks = ⟨false, false⟩ ∧ q.hatch.windows = ⟨none, none⟩ ∧ q.hatch.tallyEnd = p.hatch.tallyEnd
  ∧ q.custody.records = p.custody.records
  ∧ (p.hatch.direction ≠ some .inward → q.hatch.stage = .none ∧ q.hatch.batch = p.hatch.batch)
  ∧ (p.hatch.direction = some .inward → p.hatch.stage = .presented → q.hatch.stage = .none ∧ q.custody.held = 0)
  ∧ (p.hatch.holdsInbound = true → q.hatch.stage = .tallied ∧ q.hatch.purgeRequest = false)
  ∧ (p.hatch.state = .outerAccess → p.leafOpen .outer = true → q.hatch.state = .outerAccess)
  ∧ (p.hatch.state = .outerAccess → p.leafOpen .outer = false → p.hatch.direction = some .out → q.hatch.state = .staged)
  ∧ (p.hatch.state = .outerAccess → p.leafOpen .outer = false → p.hatch.direction = some .inward →
      p.hatch.stage = .presented →
      q.hatch.state = .empty ∧ q.hatch.direction = none ∧ q.hatch.batch = none ∧ q.hatch.declared = none
        ∧ q.hatch.courier = none ∧ q.hatch.courierPost = none ∧ q.hatch.console = none)
  ∧ (p.hatch.state = .received ∨ p.hatch.state = .purging → q.hatch.state = .received)
  ∧ (p.hatch.state = .innerRelease → q.hatch.state = if p.leafOpen .inner then .innerRelease else .received)
  ∧ (p.hatch.state = .innerAccess → p.leafOpen .inner = true → q.hatch.state = .innerAccess)
  ∧ (p.hatch.state = .innerAccess → p.leafOpen .inner = false → ∀ r, p.hatch.returnState = some r →
      q.hatch.returnState = none ∧ q.hatch.state = if r = .innerRelease then .received else r)
  ∧ (p.hatch.state = .staged ∨ p.hatch.state = .tallying → q.hatch.state = p.hatch.state)

/-! ## Fire: the release law (R77) -/

/-- The release solenoid is driven on only in DISCHARGED, and, in a part that acts, from at most 2 s before the release
pulse end to that end (R77). A restart in progress has ended the pulse before it drives the output off (R86, R186). -/
abbrev Part.ReleaseSafe (p : Part) : Prop :=
  p.outputs.out2.state = .drivenOn →
    p.fire.state = .discharged
    ∧ (p.running = true → ∃ e, p.fire.pulseEnd = some e ∧ p.now ≤ e ∧ e ≤ p.now + 2000)

/-- A countdown of 0 that is not paused has expired in this very event: the zone is DISCHARGED, `q` being the part after an
event of `p` (R72, R75, R77, R85, log 14). -/
abbrev Part.ReleaseBegun (p q : Part) (alarm : Option AlarmRecord) : Prop :=
  q.fire.state = .discharged ∧ q.fire.paused = false ∧ q.fire.countdown = none
  ∧ q.fire.pulseEnd = some (p.now + 2000) ∧ q.fire.confirmationEnd = some (p.now + 10000)
  ∧ q.fire.pressureFall = false ∧ q.fire.alarm = alarm
  ∧ q.outputs.out2 = ⟨.drivenOn, if outputFitted q.settings 2 then .drivenOn else .released⟩
  ∧ q.outputs.out3.request = .drivenOn ∧ q.outputs.out4.request = .drivenOn

/-! ## Climate: the SHUT law (R42) -/

/-- While the SHUT condition holds, no output opens the damper or drives fan or plant. In a part that acts the air path
is then SHUT, with damper command 0 %, fan and plant off and effective demand 0, and the outputs follow the governor's
requests at all times (R42, R46). A start reads the duct group before it tests the condition, and makes the outputs safe
before the governor takes its start values (R49, R186). -/
abbrev Part.ShutSafe (p : Part) : Prop :=
  (p.shutCondition = true →
    (∀ x, p.outputs.out5.opening = some x → x = 0)
    ∧ p.outputs.out6.state ≠ .drivenOn ∧ p.outputs.out7.state ≠ .drivenOn)
  ∧ (p.running = true →
    (p.shutCondition = true → p.climate.airPath = .shut ∧ p.climate.damper = 0 ∧ p.climate.fan = false
      ∧ p.climate.plant = false ∧ p.climate.effective = 0)
    ∧ (∀ x, p.outputs.out5.opening = some x → x = p.climate.damper)
    ∧ (p.outputs.out6.state = .drivenOn → p.climate.fan = true)
    ∧ (p.outputs.out7.state = .drivenOn → p.climate.plant = true))

/-! ## Climate: ranges (R33, R34, R37, R44) -/

/-- Demand, effective demand and grant lie from 0 to 255, the grant never exceeds the effective demand, and the damper
command is a percentage (R33, R34, R37, R44, R45). -/
abbrev Part.DemandBounded (p : Part) : Prop :=
  p.climate.demand ≤ 255 ∧ p.climate.effective ≤ 255 ∧ p.climate.grant ≤ p.climate.effective
  ∧ p.climate.damper ≤ 100 ∧ p.settings.purgeDemand ≤ 255 ∧ p.settings.parkOpening ≤ 30

/-! ## Moisture: ranges (R7, R12, R16, R17) -/

/-- The top of the moisture range (R10). -/
def topMoisture : Nat := 8306

/-- An optional figure lies in the moisture range. -/
abbrev moistureInRange (m : Option Nat) : Prop := ∀ x, m = some x → x ≤ topMoisture

/-- Every moisture figure the part holds lies from 0 to 8306, the counts of every channel in their ranges (Table 1-2,
Table 1-5, R16, R17). -/
abbrev Part.MoistureBounded (p : Part) : Prop :=
  (∀ g pl, moistureInRange ((p.moisture.channels.get g).get pl).lastMoisture
    ∧ ((p.moisture.channels.get g).get pl).goodCount ≤ 10 ∧ ((p.moisture.channels.get g).get pl).missCount ≤ 3)
  ∧ (∀ g, moistureInRange (p.moisture.groups.get g).moisture)
  ∧ moistureInRange p.moisture.store ∧ moistureInRange p.moisture.chamber

/-! ## Substitution (R21, R26) -/

/-- A soft remap is active only in a group whose cell reads UNUSED and for which no burn is in flight, and a burn is in
flight only for a group whose cell reads UNUSED (R21). -/
abbrev Part.SpareSound (p : Part) : Prop :=
  (∀ g, p.substitution.soft.get g ≠ none →
    p.substitution.cell.get g = .unused ∧ p.substitution.holdsGroup g = false)
  ∧ (∀ g, p.substitution.holdsGroup g = true → p.substitution.cell.get g = .unused)

/-! ## Custody (R91, R93) -/

/-- The handover in progress is inbound and in stage PRESENTED. -/
abbrev HatchContext.inboundPresented (h : HatchContext) : Prop :=
  h.direction = some .inward ∧ h.stage = .presented

/-- The table never holds two records with one label; records in use plus held slots never exceed 96; held slots are
non-zero only while an inbound handover is open in stage PRESENTED, and then they are its declared count (R91, R93). -/
abbrev Part.CustodySound (p : Part) : Prop :=
  (p.custody.records.map (·.label)).Nodup
  ∧ p.custody.records.length + p.custody.held ≤ 96
  ∧ p.custody.held ≤ 8
  ∧ (p.custody.held ≠ 0 → p.hatch.inboundPresented)
  ∧ (p.hatch.inboundPresented → p.hatch.handoverOpen = true ∧ p.hatch.declared = some p.custody.held)
  ∧ (p.hatch.startTally ≠ .no → p.hatch.stage ≠ .presented)

/-! ## Bus port (R161, R167) -/

/-- The class every frame of a coalesced kind has (Table 9-2). -/
abbrev TxFrame.classFits (f : TxFrame) : Prop :=
  (f.body.coalescedKind = some .fireState → f.cls = .fire)
  ∧ (f.body.coalescedKind = some .climate → f.cls = .routine)
  ∧ (f.body.coalescedKind = some .status → f.cls = .routine)

/-- The transmit queue holds at most 8 frames in order of class, at most one pending frame of each coalesced kind and at
most one frame on the line; a part without a station number holds none (R161, R167). -/
abbrev Part.QueueSound (p : Part) : Prop :=
  p.bus.queue.length ≤ 8
  ∧ p.bus.queue.Pairwise (fun f g => classCode f.cls ≤ classCode g.cls)
  ∧ (∀ k, (p.bus.queue.filter (TxFrame.pendingOf k)).length ≤ 1)
  ∧ (p.bus.queue.filter (·.onLine)).length ≤ 1
  ∧ (∀ f ∈ p.bus.queue, f.classFits)
  ∧ (p.bus.station = none → p.bus.queue = [])

/-- Frames of the coalesced kinds are broadcasts (Table 9-2, R35, R84, R177). -/
abbrev Part.BroadcastsSound (p : Part) : Prop :=
  ∀ f ∈ p.bus.queue, f.body.coalescedKind ≠ none → f.dest = 63#6

/-- A restart that is pending has its marked DONE reply in the queue: where it has left, the restart has begun (R182,
log 36). -/
abbrev Part.RestartSound (p : Part) : Prop := p.restartReplyLeft = false

/-- A start in progress has no restart pending: its first event removed it, and no RESTART is taken before its completion
(R182, R186). -/
abbrev Part.StartClearsRestart (p : Part) : Prop :=
  p.startUp.inProgress ≠ none → p.startUp.restartDeadline = none

/-! ## Peer view (R163, R164) -/

/-- At most 31 entries, at most one per station; only zones hold a duct group, a fire state or a demand; a SILENT entry
holds DISCHARGED, HOLD or SPENT (R163, R164). -/
abbrev Part.PeersSound (p : Part) : Prop :=
  p.peers.entries.length ≤ 31
  ∧ (p.peers.entries.map (·.station)).Nodup
  ∧ ∀ e ∈ p.peers.entries,
      (e.role ≠ .zone → e.ductGroup = none ∧ e.fireState = none ∧ e.demand = none)
      ∧ (e.silent = true → ∃ st, e.fireState = some st ∧ st.gasReleased = true)

/-! ## Exceptions (R149) -/

/-- The exception list holds at most 4 entries, and in a part that acts none with capture clear: a start reads the flag
before it empties the list (R149, R150, R186). -/
abbrev Part.ExceptionsSound (p : Part) : Prop :=
  p.exceptions.entries.length ≤ 4
  ∧ (p.running = true → p.settings.capture = false → p.exceptions.entries = [])

/-! ## Purge and dose (R134, R137) -/

/-- The dose never passes 65535, the tolerance run 3, or the purge time purge max (R134, R137). -/
abbrev Part.PurgeBounded (p : Part) : Prop :=
  p.hatch.dose ≤ 65535 ∧ p.hatch.toleranceRun ≤ 3 ∧ p.hatch.purgeTime ≤ p.settings.purgeMax

/-! ## Fire sequencer (Table 5-1, R67) -/

/-- The alarm record is absent exactly in QUIET, countdown, pause and timers are present only in the states Table 5-1
gives them, and in a part that acts countdown, confirmation end and hold end stand in those states: a start in progress
has ended them and not yet begun them again (Table 5-1, R67, R86, R88). -/
abbrev Part.FireSound (p : Part) : Prop :=
  (p.fire.alarm = none ↔ p.fire.state = .quiet)
  ∧ (p.fire.countdown ≠ none → p.fire.state = .preDischarge)
  ∧ (p.fire.pulseEnd ≠ none → p.fire.state = .discharged)
  ∧ (p.fire.confirmationEnd ≠ none → p.fire.state = .discharged)
  ∧ (p.fire.holdEnd ≠ none → p.fire.state = .hold)
  ∧ (p.fire.paused = true → p.fire.state = .preDischarge)
  ∧ (p.running = true →
    (p.fire.state = .preDischarge → p.fire.countdown ≠ none)
    ∧ (p.fire.state = .discharged → p.fire.confirmationEnd ≠ none)
    ∧ (p.fire.state = .hold → p.fire.holdEnd ≠ none))

/-- The transitions of Figure 5-1 and Table 5-3, and those that one event can take in a row from an alarm on. -/
def FireState.leadsTo : FireState → FireState → Bool
  | .quiet, .alert | .quiet, .preDischarge | .quiet, .discharged => true
  | .alert, .quiet | .alert, .preDischarge | .alert, .discharged => true
  | .preDischarge, .alert | .preDischarge, .discharged => true
  | .discharged, .hold => true
  | .hold, .spent => true
  | .spent, .quiet => true
  | _, _ => false

/-! ## Clock (R168) -/

/-- The counts of the archive clock lie in their ranges (R168). -/
abbrev Part.ClockBounded (p : Part) : Prop :=
  p.clock.second ≤ 4294967295 ∧ p.clock.secondOfMinute ≤ 59 ∧ p.clock.minute ≤ 4294967295

/-! ## Outputs (R170, R171) -/

/-- An output that is not fitted is RELEASED (R170, R171). -/
abbrev Part.UnfittedReleased (p : Part) : Prop :=
  (∀ o, outputFitted p.settings (outputNumber o) = false → (p.outputs.get o).state = .released)
  ∧ (outputFitted p.settings 5 = false → p.outputs.out5.opening = none)

/-! ## Configuration (R147, R183) -/

/-- The configuration in force lies in the ranges of Table 11-1, and the dwell base does not exceed the dwell cap (R147,
R183). -/
abbrev Part.SettingsInRange (p : Part) : Prop :=
  let c := p.settings
  c.ductGroup ≤ 15 ∧ c.neighbours.length ≤ 4 ∧ (∀ n ∈ c.neighbours, validStation n = true)
  ∧ 300 ≤ c.setpoint ∧ c.setpoint ≤ 1500 ∧ c.deadband ≤ 300 ∧ 1 ≤ c.gain ∧ c.gain ≤ 64
  ∧ 1 ≤ c.plantShare ∧ c.plantShare ≤ 8160 ∧ c.parkOpening ≤ 30 ∧ c.purgeDemand ≤ 255
  ∧ 20 ≤ c.purgeTolerance ∧ c.purgeTolerance ≤ 500 ∧ 60 ≤ c.purgeMax ∧ c.purgeMax ≤ 1800
  ∧ 10 ≤ c.staffedDelay ∧ c.staffedDelay ≤ 120 ∧ c.unstaffedDelay ≤ 60 ∧ c.manualDelay ≤ 30
  ∧ 60 ≤ c.hold ∧ c.hold ≤ 3600 ∧ 30 ≤ c.stepTimeout ∧ c.stepTimeout ≤ 600
  ∧ c.dwellBase ≤ 600 ∧ 60 ≤ c.dwellCap ∧ c.dwellCap ≤ 10080 ∧ c.dwellBase ≤ c.dwellCap
  ∧ 1 ≤ c.detectors ∧ c.detectors ≤ 7

/-! ## Starts (R181, Table 11-2) -/

/-- The next start can be a cold one: the validity mark is invalid, or a cold start that the reset pin interrupted is held
to be begun again (R180, R181). -/
abbrev Part.coldStartNext (p : Part) : Prop :=
  p.startUp.backupValid = false ∨ ∃ x, p.startUp.heldStart = some x ∧ x.cold = true

/-- A start is in progress only under supply with the reset pin released, and one is held only under supply by the
asserted pin; a cold power start, in progress or held, finds the validity mark invalid, or has written QUIET as the fire
state before it set the mark (R180, R181, R186). -/
abbrev Part.StartSound (p : Part) : Prop :=
  (p.startUp.inProgress ≠ none → p.startUp.mainOn = true ∧ p.startUp.resetAsserted = false)
  ∧ (p.startUp.heldStart ≠ none → p.startUp.mainOn = true ∧ p.startUp.resetAsserted = true)
  ∧ (p.startUp.inProgress.map (·.kind) = some .cold ∨ p.startUp.heldStart.map (·.cold) = some true →
    p.startUp.backupValid = false ∨ p.fire.state = .quiet)

/-- Every output is RELEASED (R186). -/
abbrev OutputDriver.allReleased (d : OutputDriver) : Prop :=
  (∀ o, (d.get o).state = .released) ∧ d.out5.opening = none

/-- Every output is in the safe condition of a start (R173). -/
abbrev OutputDriver.allSafe (d : OutputDriver) (cfg : Settings) : Prop :=
  (∀ o, d.get o = ⟨.drivenOff, if outputFitted cfg (outputNumber o) then .drivenOff else .released⟩)
  ∧ d.out5 = ⟨0, if outputFitted cfg 5 then some 0 else none⟩

/-- A start of this kind is in progress: it has begun, no block acts, and CUSTODY_LOST and SPARE_LOST, which only a
completion sets, stand as they stood (R31, R110, R181, R186). -/
abbrev Part.startUnfinished (p q : Part) (run : StartInProgress) : Prop :=
  q.startUp.inProgress = some run ∧ q.startUp.mainOn = true ∧ q.startUp.resetAsserted = false
  ∧ q.startUp.heldStart = none ∧ q.startUp.restartDeadline = none ∧ q.running = false
  ∧ q.custody.lost = p.custody.lost ∧ q.substitution.spareLost = p.substitution.spareLost

/-- The place of a stage in the order of R186: the first event 0, stage 1 done 1, within stage 2 read 2 and written 3,
stage 2 done 4, stage 3 done 5, stage 4 done 6. -/
def stagePlace : StartStage → Nat
  | .begun => 0 | .abandoned => 1 | .read => 2 | .written => 3 | .marked => 4 | .safe => 5 | .valued => 6

/-- `h` is what a warm start or a restart makes of the hatch context `k` (R139, R140). -/
abbrev HatchContext.retainedAs (k h : HatchContext) : Prop :=
  h.state = .tallying ∧ h.backupState = k.backupState ∧ h.tallyLeaf = k.tallyLeaf
  ∧ h.direction = k.direction ∧ h.batch = k.batch ∧ h.dose = k.dose
  ∧ h.excess = k.excess ∧ h.tallyList = k.tallyList
  ∧ h.courier = k.courier ∧ h.courierPost = k.courierPost ∧ h.console = k.console ∧ h.declared = k.declared
  ∧ (k.holdsInbound = true → h.stage = .tallied) ∧ (k.holdsInbound = false → h.stage = .none)
  ∧ h.handoverOpen = false ∧ h.lastStep = none ∧ h.locks = ⟨false, false⟩
  ∧ h.windows = ⟨none, none⟩ ∧ h.tallyEnd = none ∧ h.stepTimeout = none
  ∧ h.returnState = none ∧ h.purgeTime = 0 ∧ h.toleranceRun = 0 ∧ h.purgeRequest = false ∧ h.leafForced = false

/-- An output state once a pattern has ended: the level of its phase (log 21). -/
def OutputState.afterPattern : OutputState → OutputState
  | .pattern _ on _ => if on then .drivenOn else .drivenOff
  | x => x

/-- Everything that was in flight in `p` has ended in `q`, and nothing has begun again (R29, R186 stage 1). -/
abbrev Part.inFlightEnded (p q : Part) : Prop :=
  q.moisture.scan = none ∧ q.substitution.burn = none
  ∧ (∀ g, q.substitution.cell.get g = if p.substitution.holdsGroup g then .lost else p.substitution.cell.get g)
  ∧ q.climate.confirmation = none
  ∧ (∀ l, (q.loops.get l).candidate = none ∧ (q.loops.get l).count = 0)
  ∧ (∀ i, (q.inputs.get i).pendingLevel = none ∧ (q.inputs.get i).holdExpiry = none)
  ∧ q.fire.paused = false ∧ q.fire.pulseEnd = none ∧ q.fire.confirmationEnd = none ∧ q.fire.holdEnd = none
  ∧ q.hatch.tallyEnd = none ∧ q.hatch.windows = ⟨none, none⟩ ∧ q.hatch.stepTimeout = none ∧ q.hatch.purgeTime = 0
  ∧ q.bus.queue = []
  ∧ q.outputs.out3.state ∈ [.released, .drivenOff, .drivenOn]
  ∧ q.outputs.out4.state ∈ [.released, .drivenOff, .drivenOn]

/-- Before stage 4 every block holds what it held, but for what stage 1 ends (R186). -/
abbrev Part.valuesStand (p q : Part) : Prop :=
  q.moisture = { p.moisture with scan := q.moisture.scan } ∧ q.substitution.soft = p.substitution.soft
  ∧ q.climate = { p.climate with confirmation := q.climate.confirmation }
  ∧ (∀ l, q.loops.get l
      = { p.loops.get l with candidate := (q.loops.get l).candidate, count := (q.loops.get l).count })
  ∧ (∀ i, q.inputs.get i = { p.inputs.get i with
      pendingLevel := (q.inputs.get i).pendingLevel, holdExpiry := (q.inputs.get i).holdExpiry })
  ∧ q.fire.pressureFall = p.fire.pressureFall ∧ q.fire.cylinderLow = p.fire.cylinderLow
  ∧ q.hatch.locks = p.hatch.locks ∧ q.hatch.lastStep = p.hatch.lastStep ∧ q.hatch.returnState = p.hatch.returnState
  ∧ q.hatch.toleranceRun = p.hatch.toleranceRun ∧ q.hatch.purgeRequest = p.hatch.purgeRequest
  ∧ q.hatch.leafForced = p.hatch.leafForced
  ∧ q.exceptions = p.exceptions ∧ q.peers = p.peers ∧ q.occupancy = p.occupancy

/-- The start values of stage 4 that are the same for every kind of start (R8, R15 to R17, R30, R49, R56, R64, R86,
R153, R163). -/
abbrev Part.valuesTaken (q : Part) : Prop :=
  (∀ g pl, (q.moisture.channels.get g).get pl = ⟨none, .suspect, 0, 0, false⟩)
  ∧ (∀ g, (q.moisture.groups.get g).moisture = none ∧ (q.moisture.groups.get g).freshness = .stale)
  ∧ q.moisture.store = none ∧ q.moisture.chamber = none
  ∧ (∀ g, q.substitution.soft.get g = none)
  ∧ q.climate = ⟨0, 0, 0, .closed, 0, false, false, none, false, false⟩
  ∧ (∀ l, (q.loops.get l).accepted = .normal ∧ (q.loops.get l).fault = false)
  ∧ (∀ i, (q.inputs.get i).accepted = none ∧ (q.inputs.get i).latch = false)
  ∧ q.fire.pressureFall = false ∧ q.fire.cylinderLow = false
  ∧ q.exceptions = ⟨[], ⟨false, false, false, false, false, false⟩⟩ ∧ q.peers.entries = [] ∧ q.peers.watches = []

/-- What the backup domain holds, its validity mark aside, as it stood; the pause and the countdown, which are volatile,
and the timers of the hatch aside (R180, Table 7-1). -/
abbrev Part.backupStands (p q : Part) : Prop :=
  q.fire.state = p.fire.state ∧ q.fire.alarm = p.fire.alarm ∧ q.fire.releaseUnconfirmed = p.fire.releaseUnconfirmed
  ∧ q.custody = p.custody ∧ q.clock.minute = p.clock.minute
  ∧ q.hatch = { p.hatch with
      tallyEnd := q.hatch.tallyEnd, windows := q.hatch.windows, stepTimeout := q.hatch.stepTimeout
      purgeTime := q.hatch.purgeTime }

/-- What a cold start has written by the time its validity mark is set (R180). -/
abbrev Part.coldWritten (q : Part) : Prop :=
  q.fire.state = .quiet ∧ q.fire.alarm = none ∧ q.fire.releaseUnconfirmed = false
  ∧ q.custody.records = [] ∧ q.custody.held = 0 ∧ q.custody.batchCounter = 0
  ∧ q.hatch.state = .empty ∧ q.hatch.backupState = .empty ∧ q.hatch.tallyLeaf = none ∧ q.hatch.direction = none
  ∧ q.hatch.batch = none ∧ q.hatch.tallyList = none ∧ q.hatch.stage = .none ∧ q.hatch.handoverOpen = false
  ∧ q.hatch.courier = none ∧ q.hatch.courierPost = none ∧ q.hatch.console = none ∧ q.hatch.declared = none
  ∧ q.hatch.excess = none ∧ q.hatch.dose = 0 ∧ q.clock.minute = 0

/-- What the start values of a warm start or a restart make of the backup domain (R87, R88, R111, R140). -/
abbrev Part.backupKept (p q : Part) : Prop :=
  q.fire.state = (if p.fire.state = .discharged then .hold else p.fire.state) ∧ q.fire.alarm = p.fire.alarm
  ∧ (q.fire.releaseUnconfirmed = true ↔ p.fire.releaseUnconfirmed = true ∨ p.fire.state = .discharged)
  ∧ q.fire.countdown
    = (if p.fire.state = .preDischarge then some (occupancyDelay q.startUp.settings q.occupancy) else none)
  ∧ q.custody = { p.custody with held := 0 } ∧ q.clock.minute = p.clock.minute
  ∧ p.hatch.retainedAs q.hatch

/-- `q` is the part in a start of `p` on these settings and this station number that stands after this stage (R180,
R181, R186). Stage 1 ends what was in flight; a power start reads; a cold start writes the backup items, then sets the
validity mark; the outputs of a power start are RELEASED, and those of a restart stand as they were, an ended pattern at
the level of its phase (log 21), until stage 3 makes them safe; stage 4 gives the start values. Nothing that counts from
the completion has begun: the counts of the clock stand, no input hold runs. -/
abbrev Part.startCut (p q : Part) (run : StartInProgress) (b : StartBasis) (stage : StartStage) : Prop :=
  let n := stagePlace stage
  let cold := run.kind = .cold
  p.startUnfinished q run ∧ q.clock = { p.clock with minute := q.clock.minute }
  ∧ (n = 0 → q = { p with startUp := q.startUp, outputs := q.outputs, bus := q.bus, freeDraws := q.freeDraws })
  ∧ (run ≠ .restart → n = 0 → q.bus = p.bus)
  ∧ (1 ≤ n → p.inFlightEnded q)
  ∧ (n < 2 → q.startUp.settings = p.startUp.settings ∧ q.startUp.defaulted = p.startUp.defaulted
      ∧ q.bus.station = p.bus.station)
  ∧ (2 ≤ n → q.startUp.settings = b.settings ∧ q.startUp.defaulted = b.defaulted ∧ q.bus.station = b.station)
  ∧ (cold → 3 ≤ n → q.coldWritten) ∧ (cold → n < 3 → p.backupStands q)
  ∧ (¬ cold → n < 6 → p.backupStands q) ∧ (¬ cold → n = 6 → p.backupKept q)
  ∧ (q.startUp.backupValid = true ↔ p.startUp.backupValid = true ∨ cold ∧ 4 ≤ n)
  ∧ (1 ≤ n → n < 6 → q.fire.countdown = none) ∧ (n < 6 → p.valuesStand q)
  ∧ (n = 6 → q.valuesTaken ∧ q.occupancy = (if run = .restart then p.occupancy else .staffed)
      ∧ (cold → q.hatch = HatchContext.cold))
  ∧ (run ≠ .restart → n < 5 → q.outputs.allReleased)
  ∧ (run = .restart → n = 0 → q.outputs = p.outputs)
  ∧ (run = .restart → 1 ≤ n → n < 5 → q.outputs = { p.outputs with
      out3 := ⟨p.outputs.out3.request, p.outputs.out3.state.afterPattern⟩
      out4 := ⟨p.outputs.out4.request, p.outputs.out4.state.afterPattern⟩ })
  ∧ (5 ≤ n → q.outputs.allSafe b.settings)

/-- What every start makes of the part, whatever its kind (R8, R15, R29, R30, R31, R49, R56, R64, R153, R161, R163, R166,
R168, R173, R182): `q` is the part after a start of `p` on these settings and this station number. -/
abbrev Part.StartedOn (p q : Part) (b : StartBasis) : Prop :=
  (∀ g pl, (q.moisture.channels.get g).get pl = ⟨none, .suspect, 0, 0, false⟩)
  ∧ (∀ g, q.moisture.groups.get g = ⟨none, .stale, some 0⟩) ∧ q.moisture.store = none ∧ q.moisture.chamber = none
  ∧ q.moisture.lastScanStart = 0 ∧ q.moisture.scan.map (·.windowEnd) = some 400
  ∧ q.substitution.burn = none
  ∧ (∀ g, q.substitution.soft.get g = none
      ∧ q.substitution.cell.get g = (if p.substitution.holdsGroup g then .lost else p.substitution.cell.get g)
      ∧ (q.substitution.spareLost.get g = true ↔ q.substitution.cell.get g = .lost))
  ∧ q.climate = { demand := 0, effective := 0, grant := 0, airPath := if q.fire.state.sealed then .shut else .closed
                  damper := 0, fan := false, plant := false
                  confirmation := if outputFitted b.settings 5 then some 20000 else none
                  damperFault := false, plantFault := false }
  ∧ (∀ l, q.loops.get l = ⟨.normal, none, 0, false, 0⟩)
  ∧ (∀ i, q.inputs.get i
      = ⟨(p.inputs.get i).electrical, none, some (p.inputs.get i).electrical, some 100, false⟩)
  ∧ q.exceptions = ⟨[], ⟨false, false, false, false, false, false⟩⟩
  ∧ q.bus = BusPort.handed ⟨[], b.station⟩ (newFrame .fire 63#6 (.fireState q.fireContent))
  ∧ q.peers = ⟨[], false, b.settings.neighbours.map fun n => ⟨n, 0, false⟩⟩
  ∧ q.clock.localTime = 0 ∧ q.clock.second = 0 ∧ q.clock.secondOfMinute = 0 ∧ q.clock.nextSecond = 1000
  ∧ (∀ o, o ≠ .out3 → o ≠ .out4 → (o = .out2 → q.fire.state ≠ .discharged) → q.outputs.get o
      = ⟨.drivenOff, if outputFitted b.settings (outputNumber o) then .drivenOff else .released⟩)
  ∧ q.outputs.out3.request = signalRequest q.fire.state ∧ q.outputs.out4.request = signalRequest q.fire.state
  ∧ q.outputs.out5 = ⟨0, if outputFitted b.settings 5 then some 0 else none⟩
  ∧ q.startUp.mainOn = true ∧ q.startUp.resetAsserted = false ∧ q.startUp.restartDeadline = none
  ∧ q.startUp.heldStart = none ∧ q.startUp.inProgress = none
  ∧ q.startUp.settings = b.settings ∧ q.startUp.defaulted = b.defaulted

/-- What a cold start makes of the backup domain (R87, R110, R139, R168, R174, R180). -/
abbrev Part.ColdStarted (q : Part) : Prop :=
  q.fire.state = .quiet ∧ q.fire.alarm = none ∧ q.fire.releaseUnconfirmed = false
  ∧ q.custody = ⟨[], 0, 0, true⟩
  ∧ q.hatch.state = .empty ∧ q.hatch.direction = none ∧ q.hatch.batch = none ∧ q.hatch.stage = .none
  ∧ q.hatch.handoverOpen = false ∧ q.hatch.dose = 0 ∧ q.hatch.excess = none ∧ q.hatch.locks = ⟨false, false⟩
  ∧ q.clock.minute = 0 ∧ q.occupancy = .staffed ∧ q.startUp.backupValid = true

/-- What a warm start or a restart keeps of the backup domain, and what it makes of what was in flight (R72, R88, R111,
R140, R168, R174). The occupancy after it is `o`. A retained PRE_DISCHARGE whose delay is 0 is DISCHARGED when the start
completes (log 14). -/
abbrev Part.Retained (p q : Part) (o : Occupancy) : Prop :=
  let delay := occupancyDelay q.startUp.settings o
  q.fire.alarm = p.fire.alarm
  ∧ (p.fire.state ≠ .preDischarge → q.fire.state = if p.fire.state = .discharged then .hold else p.fire.state)
  ∧ (q.fire.releaseUnconfirmed = true ↔ p.fire.releaseUnconfirmed = true ∨ p.fire.state = .discharged)
  ∧ (p.fire.state = .preDischarge → 0 < delay →
      q.fire.state = .preDischarge ∧ q.fire.countdown = some delay ∧ q.fire.paused = false)
  ∧ (p.fire.state = .preDischarge → delay = 0 → q.ReleaseBegun q p.fire.alarm)
  ∧ (p.fire.state = .discharged ∨ p.fire.state = .hold → q.fire.holdEnd = some (q.startUp.settings.hold * 1000))
  ∧ q.custody = { p.custody with held := 0 }
  ∧ p.hatch.retainedAs q.hatch
  ∧ q.clock.minute = p.clock.minute ∧ q.occupancy = o ∧ q.startUp.backupValid = p.startUp.backupValid

end Sys2Proof.Machine
end

