-- ==== Sys2Proof/Certificates/Slice0/Obligations.lean ====
section
/-! DEFINITION. The statements for the provers, block by block. `s.ready`, `s.takesFrom src`, `s.answered …`,
`b.handed f` and the laws are defined in Sys2Proof/Safety.lean. -/

open Sys2Proof Sys2Proof.Machine

/-! ## The queue of commands, the clock, parts that do not act -/

/-- A step with a command at the front of the queue is that command on the state with the queue's rest. -/
def Obligations.StepTakesTheFrontCommand : Prop :=
  ∀ (c : Instr) (rest : List Instr) (s : State),
    step { s with pending := c :: rest } = exec c { s with pending := rest }

/-- Every command answers a next state and leaves the queue of waiting commands alone: no command faults or is refused.
While the main supply is off, the reset pin is asserted or a start is in progress no block acts: every command but a
level on a wire, a supply or the reset pin changes nothing (R181, R186). A command that names an expiry changes nothing
while its timer does not run or its time has not come. That a command finding the part held, and one that comes before
its time, change nothing is the model's choice (log 4), and so is when the time of a count has come (a countdown at 0,
log 14; a marked minute rise, log 15; a purge that meets a test, log 34). The premise of the last is the law that
QueueAndPeersStaySound states. -/
def Obligations.EveryCommandAnswersANextState : Prop :=
  (∀ (c : Instr) (s : State), ∃ t, exec c s = .next t ∧ t.pending = s.pending)
  ∧ (∀ (c : Instr) (s : State), s.toPart.running = false → takenWhileHeld c = false → exec c s = .next s)
  ∧ ∀ s : State, s.toPart.RestartSound →
    let now := s.clock.localTime
    let h := s.hatch
    (s.moisture.scan ≠ none ∨ now < s.moisture.nextScan → exec .scanStart s = .next s)
    ∧ (∀ g pl, (∀ x, s.moisture.scan = some x → (x.decided.get g).get pl = true ∨ now < x.windowEnd) →
        exec (.answerWindowExpiry g pl) s = .next s)
    ∧ (∀ g, (s.moisture.groups.get g).freshness ≠ .stale
          ∨ (∀ e, (s.moisture.groups.get g).staleSince = some e → now < e + 600000) →
        exec (.groupStalenessExpiry g) s = .next s)
    ∧ ((∀ b, s.substitution.burn = some b → now < b.start + 2000) → exec .burnCompletion s = .next s)
    ∧ (s.runsLater s.climate.confirmation → exec .damperConfirmationExpiry s = .next s)
    ∧ (∀ l reading, now < (s.loops.get l).nextConversion → exec (.loopReading l reading) s = .next s)
    ∧ (∀ i, (s.inputs.get i).pendingLevel = none ∨ s.runsLater (s.inputs.get i).holdExpiry →
        exec (.inputHoldExpiry i) s = .next s)
    ∧ (now < s.clock.nextSecond → exec .localSecondAdvance s = .next s)
    ∧ (s.clock.minuteRiseDue = false → exec .archiveMinuteRise s = .next s)
    ∧ (s.fire.state ≠ .preDischarge ∨ s.fire.countdown ≠ some 0 ∨ s.fire.paused = true →
        exec .countdownExpiry s = .next s)
    ∧ (s.fire.state ≠ .discharged ∨ s.runsLater s.fire.pulseEnd → exec .releasePulseEnd s = .next s)
    ∧ (s.fire.state ≠ .discharged ∨ s.runsLater s.fire.confirmationEnd → exec .confirmationEnd s = .next s)
    ∧ (s.fire.state ≠ .hold ∨ s.runsLater s.fire.holdEnd → exec .holdExpiry s = .next s)
    ∧ (s.runsLater h.stepTimeout → exec .stepTimeoutExpiry s = .next s)
    ∧ (∀ l, s.runsLater (h.windows.get l) → exec (.unlockWindowExpiry l) s = .next s)
    ∧ (∀ report, s.runsLater h.tallyEnd → exec (.tallyEnd report) s = .next s)
    ∧ (h.state ≠ .purging ∨ h.toleranceRun < 3 ∧ h.purgeTime < s.startUp.settings.purgeMax →
        exec .purgeCompletion s = .next s)
    ∧ (∀ st, (∀ e ∈ s.peers.entries, e.station = st → e.silent = true ∨ now < e.lastFrame + 95000) →
        exec (.peerEntryExpiry st) s = .next s)
    ∧ (∀ st, (∀ w ∈ s.peers.watches, w.station = st → w.silent = true ∨ now < w.heard + 95000) →
        exec (.neighbourWatchExpiry st) s = .next s)
    ∧ (∀ signal, (∀ p on e, (s.outputs.get (signalOutput signal)).state = .pattern p on e → now < e) →
        exec (.patternPhaseEnd signal) s = .next s)
    ∧ (s.runsLater s.startUp.restartDeadline → exec .restartPendingExpiry s = .next s)

/-- With no command waiting: a part without supply or held by the reset pin keeps its state; a start in progress is
completed; with no timer due one millisecond passes and nothing else changes; with timers due their commands, in some
order, become the queue. The commands due are those, and only those, whose timer runs and whose time has come
(`Part.dueNow`, timer by timer), each once where no station has two entries or two watches. What the part does with an
empty queue is the model's choice (logs 2, 3 and 21). So is what is due there at a count's end (a countdown at 0, log
14; a marked minute rise, log 15; a purge that meets a test, log 34), and that a conversion, an answer or a tag report
is not, since its reading comes from outside (log 6). -/
def Obligations.EmptyQueueLetsTheTimersAct : Prop :=
  ∀ s : State, s.pending = [] →
    (s.toPart.powered = false → step s = .next s)
    ∧ (s.toPart.starting = true → step s = .next { s with toPart := s.toPart.completeStart })
    ∧ (s.toPart.running = true → dueCommands s.toPart = [] →
        step s = .next { s with clock := { s.clock with localTime := s.clock.localTime + 1 } })
    ∧ (s.toPart.running = true → dueCommands s.toPart ≠ [] →
        ∃ t, step s = .next t ∧ t.pending.Perm (dueCommands s.toPart)
          ∧ t = { s with pending := t.pending, freeDraws := t.freeDraws })
    ∧ (∀ c, c ∈ dueCommands s.toPart ↔ s.toPart.dueNow c)
    ∧ ((s.peers.entries.map (·.station)).Nodup → (s.peers.watches.map (·.station)).Nodup →
        (dueCommands s.toPart).Nodup)

/-! ## Requests at the bus port -/

/-- A request that reaches the part, before its owner: from a role Table 9-2 does not list it is answered BAD_ROLE with
the role; from a listed role, with a payload whose length does not fit its kind, OUT_OF_RANGE with a position the spec
leaves free (log 17); with a payload that fits and a field out of its range, OUT_OF_RANGE with the position; and in
DEFAULTED operation CHECKOUT, CANCEL, EXTEND, SHELVED, OPEN_INNER and the four HANDOVER requests that pass these tests
are refused DEFAULTED. Nothing else changes (R113, R142, R158, R159, R160; which position is the model's choice, log
17). A valid request frame addressed to the part updates the peer view and then is the request command it spells, or is
answered by the same tests where its role is not listed or its payload does not fit (R157, R158). A request of a station
that cannot send (0 or 63) or of the part's own number, and every request at a listen-only part, changes nothing (R157,
R167; that a request command is discarded as R157 discards its frame is the model's choice, log 7). -/
def Obligations.RequestsPassTheBusPort : Prop :=
  (∀ (c : Instr) (s : State), ∀ q, requestOf c = some q →
    let src := q.1
    let role := q.2.1
    let r := q.2.2
    s.takesFrom src →
      (r.kind.takenFrom role = false → exec c s = .next (s.answered src r.kind .badRole (.role role)))
      ∧ (r.kind.takenFrom role = true → r.fits = false →
          exec c s = .next (State.answered { s with freeDraws := s.freeDraws + 1 } src r.kind .outOfRange
            (.bytePosition (Config.lengthMisfitPosition s.freeDraws))))
      ∧ (r.kind.takenFrom role = true → r.fits = true → ∀ n, r.offence = some n →
          exec c s = .next (s.answered src r.kind .outOfRange (.bytePosition (BitVec.ofNat 8 n))))
      ∧ (r.kind.takenFrom role = true → r.fits = true → r.offence = none → s.startUp.defaulted = true →
          r.kind ∈ [.checkout, .cancel, .extendLoan, .shelved, .openInner, .present, .attest, .accept, .withdraw] →
          exec c s = .next (s.answered src r.kind .defaulted .nothing)))
  ∧ (∀ (c : Instr) (s : State), s.toPart.RestartSound → ∀ q, requestOf c = some q →
    validStation q.1 = false ∨ s.bus.station = some q.1 ∨ s.bus.station = none → exec c s = .next s)
  ∧ ∀ (f : RxFrame) (s : State),
    s.ready → frameValid f s.bus.station = true → s.bus.station = some f.dest → f.dest ≠ 63#6 →
    ∀ k, kindMeaning f.cls f.kind = .request k →
    let heard : State := { s with toPart := s.toPart.hearFrame f }
    (∀ r, parseRequest k f.payload = some r → ∀ c, requestOf c = some (f.source, f.role, r) →
      exec (.frameReceived f) s = exec c heard)
    ∧ (k.takenFrom f.role = false →
      exec (.frameReceived f) s = .next (heard.answered f.source k .badRole (.role f.role)))
    ∧ (k.takenFrom f.role = true → parseRequest k f.payload = none →
      exec (.frameReceived f) s = .next (State.answered { heard with freeDraws := heard.freeDraws + 1 } f.source k
        .outOfRange (.bytePosition (Config.lengthMisfitPosition heard.freeDraws))))

/-! ## Moisture -/

/-- A scan begins when its time has come and none is in flight: every channel is marked not read, the answer windows of
400 ms open, and the next scan is one period of the occupancy later. An answer with no scan in flight, after its window,
or for a channel that has its outcome changes nothing (R2, R3, R7). For a scan taken late, that the period counts from
the moment it is taken is the model's choice (log 38), and for an answer after its window, that it is ignored before the
expiry is taken too (log 39). -/
def Obligations.ScanStartOpensTheWindows : Prop :=
  (∀ s : State, s.ready → s.moisture.scan = none → s.moisture.nextScan ≤ s.clock.localTime →
    exec .scanStart s = .next { s with moisture := { s.moisture with
      channels := PerGroup.of fun g => PerPlace.of fun pl =>
        { (s.moisture.channels.get g).get pl with readThisScan := false }
      scan := some
        { windowEnd := s.clock.localTime + 400, decided := PerGroup.of fun _ => PerPlace.of fun _ => false }
      lastScanStart := s.clock.localTime
      nextScan := s.clock.localTime + (if s.occupancy = .staffed then 10000 else 30000) } })
  ∧ ∀ (s : State) (g : Group) (pl : Place) (t : Int) (rh : Nat) (agrees : Bool), s.ready →
    (∀ x, s.moisture.scan = some x → (x.decided.get g).get pl = true ∨ x.windowEnd < s.clock.localTime) →
    exec (.channelAnswer g pl t rh agrees) s = .next s

/-- The outcome of a channel whose scan still waits for another channel. A miss (check disagrees, or the window runs
out) keeps the last moisture; a reading stores the moisture of the clamped values; a reading that needed clamping raises
READING_CLAMPED for its group. Counts and health are those of Table 1-3 (`Channel.judged`). Nothing else changes (R2,
R5, R7). -/
def Obligations.ChannelOutcomesAreApplied : Prop :=
  ∀ (s : State) (g : Group) (pl : Place), s.ready → ∀ x, s.moisture.scan = some x →
    (x.decided.get g).get pl = false → x.othersOpen g pl →
    let old := (s.moisture.channels.get g).get pl
    let outcome (c : Channel) : MoistureUnit := s.moisture.withOutcome x g pl c
    let miss : Channel := { old.judged .miss with readThisScan := false }
    let read (o : Outcome) (m : Nat) : Channel := { old.judged o with lastMoisture := some m, readThisScan := true }
    let raised : ExceptionStore := s.exceptions.raise s.startUp.settings.capture
      { kind := .readingClamped, minute := s.clock.minute, subject := .group g }
    (x.windowEnd ≤ s.clock.localTime →
      exec (.answerWindowExpiry g pl) s = .next { s with moisture := outcome miss })
    ∧ (s.clock.localTime ≤ x.windowEnd → ∀ (t : Int) (rh : Nat),
        exec (.channelAnswer g pl t rh false) s = .next { s with moisture := outcome miss }
        ∧ (-200 ≤ t → t ≤ 500 → rh ≤ 1000 →
            exec (.channelAnswer g pl t rh true) s
              = .next { s with moisture := outcome (read .good (moistureOf t rh)) })
        ∧ (t < -200 ∨ 500 < t ∨ 1000 < rh →
            exec (.channelAnswer g pl t rh true) s
              = .next { s with
                  exceptions := raised
                  moisture := outcome (read .clamped (moistureOf (max (-200) (min 500 t)) (min 1000 rh))) }))

/-- The last outcome of a scan, whichever it is (a miss by the window's expiry or a check that disagrees, a reading in
range, a clamped reading, which raises READING_CLAMPED first), completes it. With `q` the part after that outcome, every
group not held by a burn takes the mean rounded half up of two usable positions, the moisture of one, or with none keeps
its moisture and turns from FRESH to STALE now; a held group is kept. Store and chamber figures follow. The demand is
formed, the resolver evaluated, CLIMATE handed (R33, R35); an inbound batch's dose grows by chamber above store and
saturates at 65535 (R137); the tolerance run of a purge rises or returns to 0, and at 3 completes the purge: its request
ends with one more evaluation, and the inner leaf is unlocked where R114 and R141 allow it (R134, R135); STATUS is
handed last (R177), and no other block changes. Two things here are the model's choice: that the climate governor comes
before the hatch controller (log 9), and that the purge completes within the hand-off that fulfils its test (log 14). -/
def Obligations.LastOutcomeCompletesTheScan : Prop :=
  ∀ (s : State) (g : Group) (pl : Place), s.ready → ∀ x, s.moisture.scan = some x →
    (x.decided.get g).get pl = false → ¬ x.othersOpen g pl →
    let old := (s.moisture.channels.get g).get pl
    let h := s.hatch
    let cfg := s.startUp.settings
    let completes (c : Instr) (record : Channel) (raised : ExceptionStore) : Prop :=
      let q := s.toPart.withMoisture (s.moisture.withOutcome x g pl record)
      ∃ t, exec c s = .next t
        ∧ t = { s with
            moisture := t.moisture, climate := t.climate, hatch := t.hatch, exceptions := t.exceptions
            outputs := t.outputs, bus := t.bus }
        ∧ t.moisture.scan = none ∧ t.moisture.channels = q.moisture.channels
        ∧ (∀ k, s.substitution.holdsGroup k = true → t.moisture.groups.get k = s.moisture.groups.get k)
        ∧ (∀ k, s.substitution.holdsGroup k = false →
            (∀ a b, q.usableMoisture k .a = some a → q.usableMoisture k .b = some b →
              t.moisture.groups.get k = ⟨some ((a + b + 1) / 2), .fresh, none⟩)
            ∧ (∀ a, q.usableMoisture k .a = some a → q.usableMoisture k .b = none →
              t.moisture.groups.get k = ⟨some a, .fresh, none⟩)
            ∧ (∀ b, q.usableMoisture k .a = none → q.usableMoisture k .b = some b →
              t.moisture.groups.get k = ⟨some b, .fresh, none⟩)
            ∧ (q.usableMoisture k .a = none → q.usableMoisture k .b = none →
              t.moisture.groups.get k = if (s.moisture.groups.get k).freshness = .fresh
                then ⟨(s.moisture.groups.get k).moisture, .stale, some s.clock.localTime⟩
                else s.moisture.groups.get k))
        ∧ t.moisture.store = storeMoisture t.moisture.groups ∧ t.moisture.chamber = chamberMoisture t.moisture.groups
        ∧ t.climate.demand = demandLaw cfg t.moisture.store
        ∧ t.hatch.handedStore = t.moisture.store ∧ t.hatch.handedChamber = t.moisture.chamber
        ∧ (let figures : Option (Nat × Nat) := t.moisture.chamber.bind fun c => t.moisture.store.map fun m => (c, m)
           let near := figures.any fun f =>
             decide (f.1 ≤ f.2 + cfg.purgeTolerance ∧ f.2 ≤ f.1 + cfg.purgeTolerance)
           let dose := if h.holdsInbound then figures.elim h.dose fun f => min 65535 (h.dose + (f.1 - f.2)) else h.dose
           let serves := h.state = .purging ∧ h.purgeRequest = true ∧ s.toPart.shutCondition = false
           let run := if serves ∧ near = true then min 3 (h.toleranceRun + 1) else 0
           let ends := serves ∧ near = true ∧ 2 ≤ h.toleranceRun
           let status := newFrame .routine 63#6 (.status t.toPart.statusContent)
           let demanding :=
             (s.toPart.withMoisture t.moisture).withClimate { s.climate with demand := t.climate.demand }
           let evaluated := demanding.resolveAirPath
           let sent := if t.climate.damperFault = s.climate.damperFault then s.bus
             else s.bus.handed (newFrame .fire 63#6 (.fireState t.toPart.fireContent))
           t.hatch.dose = dose
           ∧ (h.dose < 65535 → dose = 65535 → ∀ b, h.batch = some b →
               t.exceptions = raised.raise cfg.capture ⟨.doseSaturated, s.clock.minute, .batch b⟩)
           ∧ (¬(h.dose < 65535 ∧ dose = 65535) → t.exceptions = raised)
           ∧ (ends →
               let own := s.bus.handed (newFrame .routine 63#6 (.climate evaluated.climateContent))
               let after := own.evaluated evaluated t.toPart
               let ended := (evaluated.withHatch { h with purgeRequest := false }).resolveAirPath
               let done := { h with
                 dose := t.hatch.dose, handedStore := t.moisture.store, handedChamber := t.moisture.chamber
                 toleranceRun := 3, purgeRequest := false, state := .innerRelease, backupState := .innerRelease }
               let unlocks := h.locks.outer = false ∧ h.startTally = .no
               t.climate = ended.climate
               ∧ (¬ unlocks → t.hatch = done ∧ t.outputs = ended.outputs ∧ t.bus = after.handed status)
               ∧ (unlocks →
                 t.hatch = { done with
                   locks := ⟨true, false⟩, windows := { h.windows with inner := some (s.clock.localTime + 30000) } }
                 ∧ t.outputs = { ended.outputs with
                     out0 := ⟨.drivenOn, if cfg.fitted.getLsbD 0 then .drivenOn else .released⟩ }
                 ∧ ∀ b, h.batch = some b → ∀ d, h.direction = some d →
                   t.bus = (after.notified (h.courierPost.toList ++ h.console.toList) .innerUnlocked d b
                     .innerRelease none).handed status))
           ∧ (¬ ends →
               t.hatch = { h with
                 dose := t.hatch.dose, handedStore := t.moisture.store, handedChamber := t.moisture.chamber
                 toleranceRun := if h.state = .purging then run else h.toleranceRun }
               ∧ t.climate = evaluated.climate ∧ t.outputs = evaluated.outputs
               ∧ t.bus = (sent.handed (newFrame .routine 63#6 (.climate t.toPart.climateContent))).handed status))
    let miss : Channel := { old.judged .miss with readThisScan := false }
    let read (o : Outcome) (m : Nat) : Channel := { old.judged o with lastMoisture := some m, readThisScan := true }
    (x.windowEnd ≤ s.clock.localTime → completes (.answerWindowExpiry g pl) miss s.exceptions)
    ∧ (s.clock.localTime ≤ x.windowEnd → ∀ (t : Int) (rh : Nat),
      completes (.channelAnswer g pl t rh false) miss s.exceptions
      ∧ (-200 ≤ t → t ≤ 500 → rh ≤ 1000 →
        completes (.channelAnswer g pl t rh true) (read .good (moistureOf t rh)) s.exceptions)
      ∧ (t < -200 ∨ 500 < t ∨ 1000 < rh →
        completes (.channelAnswer g pl t rh true)
          (read .clamped (moistureOf (max (-200) (min 500 t)) (min 1000 rh)))
          (s.exceptions.raise cfg.capture ⟨.readingClamped, s.clock.minute, .group g⟩)))

/-- Table 1-3: health, good count and miss count after each outcome (R6; a FAILED channel's miss count stays 3: log 8).
Saturation interpolates linearly between the points of Table 1-4, rounded half up, and lies from 88 to 8306; the
moisture is saturation scaled by relative humidity, rounded half up, and lies from 0 to 8306 (R9, R10). Store moisture
is the largest moisture among the store groups that are not LOST and hold one, unavailable without any; chamber moisture
is that of G3 while it is not LOST and holds one (R16, R17). -/
def Obligations.FiguresFollowTheirTables : Prop :=
  (∀ c : Channel, c.goodCount ≤ 10 → c.missCount ≤ 3 →
    (c.health = .healthy →
      c.judged .good = { c with goodCount := min 10 (c.goodCount + 1), missCount := 0 }
      ∧ c.judged .clamped = { c with health := .suspect, goodCount := 0, missCount := 0 }
      ∧ c.judged .miss = { c with health := .suspect, goodCount := 0, missCount := 1 })
    ∧ (c.health = .suspect →
      (c.goodCount + 1 < 3 → c.judged .good = { c with goodCount := c.goodCount + 1, missCount := 0 })
      ∧ (3 ≤ c.goodCount + 1 →
          c.judged .good = { c with health := .healthy, goodCount := min 10 (c.goodCount + 1), missCount := 0 })
      ∧ c.judged .clamped = { c with goodCount := 0, missCount := 0 }
      ∧ (c.missCount + 1 < 3 → c.judged .miss = { c with goodCount := 0, missCount := c.missCount + 1 })
      ∧ (3 ≤ c.missCount + 1 → c.judged .miss = { c with health := .failed, goodCount := 0, missCount := 3 }))
    ∧ (c.health = .failed →
      (c.goodCount + 1 < 10 → c.judged .good = { c with goodCount := c.goodCount + 1, missCount := 0 })
      ∧ (10 ≤ c.goodCount + 1 → c.judged .good = { c with health := .healthy, goodCount := 10, missCount := 0 })
      ∧ c.judged .clamped = { c with goodCount := 0, missCount := 0 }
      ∧ c.judged .miss = { c with goodCount := 0, missCount := 3 }))
  ∧ ((∀ i f : Nat, i ≤ 13 → (f < 50 ∨ (i = 13 ∧ f = 50)) →
    saturation ((50 * i + f : Nat) - 200 : Int)
      = saturationPoint i + ((saturationPoint (i + 1) - saturationPoint i) * f + 25) / 50)
  ∧ ∀ (t : Int) (rh : Nat), -200 ≤ t → t ≤ 500 → rh ≤ 1000 →
      88 ≤ saturation t ∧ saturation t ≤ 8306
      ∧ moistureOf t rh = (saturation t * rh + 500) / 1000 ∧ moistureOf t rh ≤ 8306)
  ∧ ∀ (groups : PerGroup GroupRecord) (m : Nat),
    let counts (g : Group) (v : Nat) := (groups.get g).freshness ≠ .lost ∧ (groups.get g).moisture = some v
    (storeMoisture groups = some m ↔
      (∃ g, g ≠ .g3 ∧ counts g m) ∧ ∀ g v, g ≠ .g3 → counts g v → v ≤ m)
    ∧ (storeMoisture groups = none ↔ ∀ g v, g ≠ .g3 → ¬ counts g v)
    ∧ (chamberMoisture groups = some m ↔ counts .g3 m)

/-! ## Substitution -/

/-- REMAP_SOFT with no burn in flight: the four tests of R23 in order, each reply carrying the substitution summary as
it stands after the request. In step 4 the requested position is served by the spare from then on and the other position
by its own channel. Nothing depends on the fire state or on occupancy, and nothing else changes. -/
def Obligations.RemapSoftTests : Prop :=
  ∀ (s : State) (src : Station) (role : Role) (gb pb : Byte), s.takesFrom src →
    role = .console ∨ role = .service → gb.toNat ≤ 3 → pb.toNat ≤ 1 → s.substitution.burn = none →
    let g := groupOfByte gb
    let pos := positionOfByte pb
    let cell := s.substitution.cell.get g
    let soft := s.substitution.soft.get g
    let spare := ((s.moisture.channels.get g).get .s).health
    let summary (x : Option Position) : ReplyData := .substitution ⟨g, x, cell, spare, none⟩
    let outcome := exec (.remapSoft src role gb pb) s
    (cell ≠ .unused → outcome = .next (s.answered src .remapSoft .noSpare (summary soft)))
    ∧ (cell = .unused → soft = some pos → outcome = .next (s.answered src .remapSoft .done (summary soft)))
    ∧ (cell = .unused → soft ≠ some pos → spare = .failed →
        outcome = .next (s.answered src .remapSoft .spareUnfit (summary soft)))
    ∧ (cell = .unused → soft ≠ some pos → spare ≠ .failed →
        ∃ t, outcome = .next t
          ∧ t = State.answered
              { s with substitution := { s.substitution with soft := s.substitution.soft.set g (some pos) } }
              src .remapSoft .done (summary (some pos))
          ∧ t.substitution.servingPlace g pos = .s
          ∧ ∀ other, other ≠ pos → t.substitution.servingPlace g other = ownPlace other)

/-- REMAP_CLEAR with no burn in flight removes the group's soft remap and is answered DONE; with no soft remap it is
answered DONE with no change. The cell and SPARE_LOST are not touched (R25). While a burn is in flight every remap
request, of every kind and for every group, is answered BUSY with the summary of the group it names, and changes nothing
(R22, R27). -/
def Obligations.RemapClearAndBusyRemaps : Prop :=
  (∀ (s : State) (src : Station) (role : Role) (gb : Byte), s.takesFrom src →
    role = .console ∨ role = .service → gb.toNat ≤ 3 → s.substitution.burn = none →
    let g := groupOfByte gb
    let summary : ReplyData := .substitution
      ⟨g, none, s.substitution.cell.get g, ((s.moisture.channels.get g).get .s).health, none⟩
    exec (.remapClear src role gb) s
      = .next (State.answered
          { s with substitution := { s.substitution with soft := s.substitution.soft.set g none } }
          src .remapClear .done summary)
    ∧ (s.substitution.soft.get g = none →
        exec (.remapClear src role gb) s = .next (s.answered src .remapClear .done summary)))
  ∧ ∀ (s : State) (src : Station) (role : Role) (gb pb : Byte), s.takesFrom src →
    role = .console ∨ role = .service → gb.toNat ≤ 3 → pb.toNat ≤ 1 →
    ∀ b, s.substitution.burn = some b →
    let g := groupOfByte gb
    let summary : ReplyData := .substitution ⟨g, s.substitution.soft.get g, s.substitution.cell.get g,
      ((s.moisture.channels.get g).get .s).health, some (b.group, b.position)⟩
    exec (.remapSoft src role gb pb) s = .next (s.answered src .remapSoft .busy summary)
    ∧ exec (.remapClear src role gb) s = .next (s.answered src .remapClear .busy summary)
    ∧ exec (.remapHard src role gb pb) s = .next (s.answered src .remapHard .busy summary)

/-- REMAP_HARD with no burn in flight: the five tests of R26 in order. A refusal changes nothing; step 5 creates the
burn record with group, position and local time, and its summary shows the cell UNUSED and the burn. That ZONE_HELD
carries both the summary of R22 and the fire state of Table 9-3 is the model's choice (log 41). -/
def Obligations.RemapHardTests : Prop :=
  ∀ (s : State) (src : Station) (role : Role) (gb pb : Byte), s.takesFrom src →
    role = .console ∨ role = .service → gb.toNat ≤ 3 → pb.toNat ≤ 1 → s.substitution.burn = none →
    let g := groupOfByte gb
    let pos := positionOfByte pb
    let cell := s.substitution.cell.get g
    let soft := s.substitution.soft.get g
    let spare := ((s.moisture.channels.get g).get .s).health
    let refused (status : Status) : State :=
      s.answered src .remapHard status (.substitution ⟨g, soft, cell, spare, none⟩)
    let outcome := exec (.remapHard src role gb pb) s
    (soft ≠ none → outcome = .next (refused .softActive))
    ∧ (soft = none → cell ≠ .unused → outcome = .next (refused .noSpare))
    ∧ (soft = none → cell = .unused → spare = .failed → outcome = .next (refused .spareUnfit))
    ∧ (soft = none → cell = .unused → spare ≠ .failed → s.fire.state ≠ .quiet →
        outcome = .next (s.answered src .remapHard .zoneHeld
          (.substitutionAndFire ⟨g, none, .unused, spare, none⟩ s.fire.state)))
    ∧ (soft = none → cell = .unused → spare ≠ .failed → s.fire.state = .quiet →
        outcome = .next (State.answered
          { s with substitution := { s.substitution with burn := some ⟨g, pos, s.clock.localTime⟩ } }
          src .remapHard .done (.substitution ⟨g, none, .unused, spare, some (g, pos)⟩)))

/-- A burn that has run 2 s writes the group's cell HARD_A or HARD_B by its position and ends; from then the position is
served by the spare, whatever the spare's health; no frame, no fault, nothing else changes (R28). And at every command
of the machine a cell stays as it is, but for the group of a burn in flight: from UNUSED it is written HARD for the
burn's position, or a start makes it LOST, and its completion sets SPARE_LOST. A cell that no longer reads UNUSED never
changes (R29, R30, R31). The second part is stated of a part whose pending restart has its marked DONE reply in the
queue, a law every step keeps (QueueAndPeersStaySound). -/
def Obligations.SpareCellsAreWrittenOnce : Prop :=
  (∀ s : State, s.ready → ∀ b, s.substitution.burn = some b → b.start + 2000 ≤ s.clock.localTime →
    ∃ t, exec .burnCompletion s = .next t
      ∧ t = { s with substitution := { s.substitution with
          burn := none
          cell := s.substitution.cell.set b.group (match b.position with | .a => .hardA | .b => .hardB) } }
      ∧ t.substitution.servingPlace b.group b.position = .s)
  ∧ ∀ (c : Instr) (s : State) (g : Group), s.toPart.SpareSound → s.toPart.RestartSound →
    ∀ t, exec c s = .next t →
    t.substitution.cell.get g = s.substitution.cell.get g
    ∨ s.substitution.cell.get g = .unused ∧ t.substitution.burn = none
      ∧ ∃ b, s.substitution.burn = some b ∧ b.group = g
        ∧ (t.substitution.cell.get g = (match b.position with | .a => .hardA | .b => .hardB)
          ∨ t.substitution.cell.get g = .lost
            ∧ (t.startUp.inProgress = none → t.substitution.spareLost.get g = true))

/-! ## Climate -/

/-- Own demand, the grant and the damper command of DRIVE as the spec's formulas give them: demand 0 without store
moisture or up to setpoint plus deadband, else scaled, rounded half up and capped at 255; a grant that is the effective
demand while the plant suffices and its share of the plant otherwise, never above it; the opening the grant's fraction
of 255 in percent, within half a percent (R33, R37, R44). And an evaluation of the resolver, of any part: the SHUT
condition by own fire and duct-group peers, the effective demand, the grant from the counted demands, and the first row
of Table 3-3 that holds (SHUT, PURGE, DRIVE, PARK, CLOSED) with its damper, fan and plant, requested of OUT5, OUT6 and
OUT7 (R34, R36, R40, R42, R45, R46). The damper's supervision follows the command: one that closes it starts a
confirmation unless one runs or IN5 shows closed, which clears DAMPER_FAULT; one that opens it removes the confirmation
(R47, R48). Nothing else changes: own demand, PLANT_FAULT and the other outputs stay, and the bus port has a FIRE_STATE
only where DAMPER_FAULT clears. LastOutcomeCompletesTheScan, FramesReachThePeerView, RunTimersAct,
InboundAttestBeginsThePurge and PurgeCompletionReleases say which commands make one. -/
def Obligations.DemandGrantAndOpening : Prop :=
  (∀ cfg : Settings, demandLaw cfg none = 0
    ∧ ∀ m, (m ≤ cfg.setpoint + cfg.deadband → demandLaw cfg (some m) = 0)
      ∧ (cfg.setpoint + cfg.deadband < m →
          demandLaw cfg (some m) = min 255 (((m - (cfg.setpoint + cfg.deadband)) * cfg.gain + 8) / 16)))
  ∧ (∀ d peers cap : Nat, grantLaw true d peers cap = 0 ∧ grantLaw false d peers cap ≤ d
    ∧ (d + peers ≤ cap → grantLaw false d peers cap = d)
    ∧ (cap < d + peers → grantLaw false d peers cap = d * cap / (d + peers)))
  ∧ (∀ grant, grant ≤ 255 → driveOpening grant ≤ 100
    ∧ grant * 200 ≤ 510 * driveOpening grant + 255 ∧ 510 * driveOpening grant < grant * 200 + 255)
  ∧ ∀ p : Part,
    let peer (e : PeerEntry) : Prop := e.role = .zone ∧ e.ductGroup = some p.startUp.settings.ductGroup
    let counted (e : PeerEntry) : Nat := match e.demand with
      | some (d, heard) => if peer e ∧ p.clock.localTime < heard + 95000 then d else 0
      | none => 0
    let cfg := p.startUp.settings
    let shut := (p.fire.state ≠ .quiet ∧ p.fire.state ≠ .alert)
      ∨ ∃ e ∈ p.peers.entries, peer e
        ∧ (e.fireState = some .discharged ∨ e.fireState = some .hold ∨ e.fireState = some .spent)
    let purge := p.hatch.purgeRequest = true
    let effective := if shut then 0
      else if purge then max p.climate.demand cfg.purgeDemand else p.climate.demand
    let grant := grantLaw p.climate.plantFault effective (p.peers.entries.map counted).sum cfg.plantShare
    let q := p.resolveAirPath
    let chosen (a : AirPath) (damper : Nat) (fan plant : Bool) : Prop :=
      q.climate.airPath = a ∧ q.climate.damper = damper ∧ q.climate.fan = fan ∧ q.climate.plant = plant
    (p.shutCondition = true ↔ shut) ∧ q.climate.effective = effective ∧ q.climate.grant = grant
    ∧ (shut → chosen .shut 0 false false)
    ∧ (¬ shut → purge → chosen .purge 100 true true)
    ∧ (¬ shut → ¬ purge → 0 < grant → chosen .drive (driveOpening grant) false true)
    ∧ (¬ shut → ¬ purge → grant = 0 → cfg.parkEnable = true → chosen .park cfg.parkOpening false false)
    ∧ (¬ shut → ¬ purge → grant = 0 → cfg.parkEnable = false → chosen .closed 0 false false)
    ∧ q.outputs.out5.request = q.climate.damper
    ∧ q.outputs.out6.request = (if q.climate.fan then .drivenOn else .drivenOff)
    ∧ q.outputs.out7.request = (if q.climate.plant then .drivenOn else .drivenOff)
    ∧ q.climate.demand = p.climate.demand ∧ q.climate.plantFault = p.climate.plantFault
    ∧ (let c := p.climate
       let seen := p.inputs.in5.accepted = some true
       (c.damper = q.climate.damper →
          q.climate.confirmation = c.confirmation ∧ q.climate.damperFault = c.damperFault)
       ∧ (c.damper ≠ 0 → q.climate.damper = 0 → seen →
          q.climate.confirmation = none ∧ q.climate.damperFault = false)
       ∧ (c.damper ≠ 0 → q.climate.damper = 0 → ¬ seen → q.climate.damperFault = c.damperFault
          ∧ q.climate.confirmation = if outputFitted cfg 5 = true ∧ c.confirmation = none
              then some (p.clock.localTime + 20000) else c.confirmation)
       ∧ (c.damper = 0 → q.climate.damper ≠ 0 →
          q.climate.confirmation = none ∧ q.climate.damperFault = c.damperFault)
       ∧ (c.damper ≠ 0 → q.climate.damper ≠ 0 →
          q.climate.confirmation = c.confirmation ∧ q.climate.damperFault = c.damperFault))
    ∧ q.outputs = { p.outputs with out5 := q.outputs.out5, out6 := q.outputs.out6, out7 := q.outputs.out7 }
    ∧ q.bus = (if q.climate.damperFault = p.climate.damperFault then p.bus
        else p.bus.handed (newFrame .fire 63#6 (.fireState q.fireContent)))
    ∧ q = { p with climate := q.climate, outputs := q.outputs, bus := q.bus }

/-- Every step keeps `ShutSafe`: while the zone's own fire or a duct-group peer's released gas holds the duct shut, no
output opens the damper or drives fan or plant, whether the part acts or not; in a part that acts the air path is then
SHUT, the damper command 0 %, fan and plant off and effective demand 0, and the outputs follow the governor (R42, R46,
R49). -/
def Obligations.ShutLawIsKept : Prop :=
  ∀ s : State, s.toPart.ShutSafe → ∀ t, step s = .next t → t.toPart.ShutSafe

/-! ## Loops and inputs -/

/-- Table 4-1 with its inclusive limits, its alarm and fault columns, and the detector-count test (R52). A conversion
that is due is classified so: a reading of the accepted class cancels the candidate, one of the candidate counts, one of
a third class replaces the candidate; the third equal reading is accepted and the loop fault follows it. The next
conversion is 250 ms later. A fault that changes hands FIRE_STATE; where the accepted class is no alarm, or the zone is
neither QUIET nor ALERT, nothing else changes (R51, R53, R55). For a conversion taken late, that the 250 ms count from
the moment it is taken is the model's choice (log 38). -/
def Obligations.LoopReadingsAreDebounced : Prop :=
  (∀ detectors r : Nat, r ≤ 1023 →
    (classify detectors r = .short ↔ r ≤ 47)
    ∧ (classify detectors r = .multi ↔ 48 ≤ r ∧ r ≤ 143)
    ∧ (∀ k, classify detectors r = .det k ↔ 1 ≤ k ∧ k ≤ 7 ∧ k ≤ detectors ∧ 592 ≤ r + 64 * k ∧ r + 64 * k ≤ 655)
    ∧ (classify detectors r = .trouble ↔ (592 ≤ r ∧ r ≤ 687)
        ∨ ∃ k, 1 ≤ k ∧ k ≤ 7 ∧ detectors < k ∧ 592 ≤ r + 64 * k ∧ r + 64 * k ≤ 655)
    ∧ (classify detectors r = .normal ↔ 688 ≤ r ∧ r ≤ 815)
    ∧ (classify detectors r = .openLoop ↔ 816 ≤ r))
  ∧ (∀ c : LoopClass, (c.alarm = true ↔ c = .multi ∨ ∃ k, c = .det k)
    ∧ (c.isFault = true ↔ c = .short ∨ c = .trouble ∨ c = .openLoop))
  ∧ ∀ (s : State) (l : LoopId) (reading : BitVec 10), s.ready → (s.loops.get l).nextConversion ≤ s.clock.localTime →
    let cls := classify s.startUp.settings.detectors reading.toNat
    let old := s.loops.get l
    let later (x : LoopState) : PerLoop LoopState :=
      s.loops.set l { x with nextConversion := s.clock.localTime + 250 }
    let taken := later { old with accepted := cls, candidate := none, count := 0, fault := cls.isFault }
    let outcome := exec (.loopReading l reading) s
    (cls = old.accepted → outcome = .next { s with loops := later { old with candidate := none, count := 0 } })
    ∧ (cls ≠ old.accepted → old.candidate ≠ some cls →
        outcome = .next { s with loops := later { old with candidate := some cls, count := 1 } })
    ∧ (cls ≠ old.accepted → old.candidate = some cls → old.count < 2 →
        outcome = .next { s with loops := later { old with count := old.count + 1 } })
    ∧ (cls ≠ old.accepted → old.candidate = some cls → 2 ≤ old.count →
        ∃ t, outcome = .next t ∧ t.loops = taken
          ∧ t = { s with
              loops := t.loops, fire := t.fire, climate := t.climate, hatch := t.hatch, custody := t.custody
              outputs := t.outputs, bus := t.bus }
          ∧ (cls.alarm = false ∨ s.fire.state.sealed = true →
              t = { s with
                loops := taken
                bus := if old.fault = cls.isFault then s.bus
                  else s.bus.handed
                    (newFrame .fire 63#6 (.fireState (s.toPart.withLoops taken).fireContent)) }))

/-- The third equal reading of an alarm class, in QUIET: one detector alone gives ALERT; MULTI, a detector while the
other loop is in alarm, or a neighbour that shows fire give PRE_DISCHARGE with the delay of the occupancy. The alarm
record is written. In ALERT the record is kept: MULTI entered or another loop's entry gives PRE_DISCHARGE; the first
loop's re-entry with the other loop quiet leaves ALERT (R67, R68, R70, R71, R72). A delay of 0 that is not paused
expires at once: that the release begins within the same command is the model's choice (R72, log 14). -/
def Obligations.AlarmsMoveTheFireState : Prop :=
  ∀ (s : State) (l : LoopId) (reading : BitVec 10), s.ready → (s.loops.get l).nextConversion ≤ s.clock.localTime →
    let cls := classify s.startUp.settings.detectors reading.toNat
    let old := s.loops.get l
    let others := (s.loops.get (otherLoop l)).accepted.alarm
    let record : AlarmRecord :=
      { firstLoop := some l, minute := s.clock.minute
        firstDetector := match cls with | .det k => some (.number k) | .multi => some .multi | _ => none }
    let delay := match s.occupancy with
      | .staffed => s.startUp.settings.staffedDelay | .unstaffed => s.startUp.settings.unstaffedDelay
    let paused := decide ((s.inputs.get .in3).accepted = some true)
    let moved (t : State) (alarm : Option AlarmRecord) : Prop :=
      if delay = 0 ∧ paused = false then s.toPart.ReleaseBegun t.toPart alarm
      else t.fire.state = .preDischarge ∧ t.fire.countdown = some delay ∧ t.fire.paused = paused ∧ t.fire.alarm = alarm
        ∧ t.outputs.out3.request = .pattern .preDischarge ∧ t.outputs.out4.request = .pattern .preDischarge
    cls ≠ old.accepted → old.candidate = some cls → 2 ≤ old.count → cls.alarm = true →
    ∃ t, exec (.loopReading l reading) s = .next t
      ∧ (s.fire.state = .quiet → old.accepted.alarm = false →
          (cls ≠ .multi → others = false → s.toPart.neighbourShowsFire = false →
            t.fire.state = .alert ∧ t.fire.alarm = some record
              ∧ t.outputs.out3.request = .pattern .alert ∧ t.outputs.out4.request = .pattern .alert)
          ∧ (cls = .multi ∨ others = true ∨ s.toPart.neighbourShowsFire = true → moved t (some record)))
      ∧ (s.fire.state = .alert →
          (cls = .multi ∨ old.accepted.alarm = false
              ∧ ¬((s.fire.alarm.bind (·.firstLoop)) = some l ∧ others = false) → moved t s.fire.alarm)
          ∧ (cls ≠ .multi → old.accepted.alarm = true ∨ (s.fire.alarm.bind (·.firstLoop)) = some l ∧ others = false →
              t.fire = s.fire))

/-- A change of an input's electrical level: back to the level the accepted level corresponds to, pending level and hold
are removed; to the pending level, the hold runs on; to any other, it becomes the pending level, to hold for 100 ms from
now. While the part does not act only the wire changes (R57, R58; the wire of a part that does not act: log 4). -/
def Obligations.InputLevelsWaitForTheirHold : Prop :=
  ∀ (s : State) (i : InputId) (high : Bool),
    let old := s.inputs.get i
    let low := s.startUp.settings.polarity.getLsbD (inputNumber i)
    let outcome := exec (.inputLevelChange i high) s
    let becomes (x : InputState) : Prop := outcome = .next { s with inputs := s.inputs.set i x }
    (s.toPart.running = false → becomes { old with electrical := high })
    ∧ (s.ready → old.electrical ≠ high →
        (old.pendingLevel = some high → becomes { old with electrical := high })
        ∧ (old.pendingLevel ≠ some high → old.accepted = some (high != low) →
            becomes { old with electrical := high, pendingLevel := none, holdExpiry := none })
        ∧ (old.pendingLevel ≠ some high → old.accepted ≠ some (high != low) →
            becomes { old with
              electrical := high, pendingLevel := some high, holdExpiry := some (s.clock.localTime + 100) }))

/-- A hold that has run accepts the pending level, mapped by polarity. The latch is set by a qualifying edge and by
nothing else, the first acceptance being no edge. Of IN7, and of a level that does not change, nothing else changes. IN6
sets or clears PLANT_FAULT, and the resolver is evaluated at once, with grant 0 while it is set: the governor, its
outputs and the frames are those of that evaluation. IN5 at a 0 % command clears DAMPER_FAULT and the confirmation when
closed, handing FIRE_STATE where the fault was set, and starts a confirmation when open, unless one runs or OUT5 is not
fitted; at another command it changes nothing (R39, R47, R48, R57, R58, R59, R60). -/
def Obligations.HeldInputsAreAccepted : Prop :=
  ∀ (s : State) (i : InputId), s.ready →
    ∀ high, (s.inputs.get i).pendingLevel = some high →
    ∀ e, (s.inputs.get i).holdExpiry = some e → e ≤ s.clock.localTime →
    let old := s.inputs.get i
    let level := high != s.startUp.settings.polarity.getLsbD (inputNumber i)
    let edge := s.startUp.settings.edges.toNat / 4 ^ inputNumber i % 4
    ∃ t, exec (.inputHoldExpiry i) s = .next t
      ∧ (t.inputs.get i).accepted = some level ∧ (t.inputs.get i).pendingLevel = none
      ∧ (t.inputs.get i).holdExpiry = none ∧ (t.inputs.get i).electrical = old.electrical
      ∧ ((t.inputs.get i).latch = true ↔ old.latch = true
          ∨ old.accepted = some (!level) ∧ ((edge = 0 ∧ level = true) ∨ (edge = 1 ∧ level = false) ∨ 2 ≤ edge))
      ∧ (∀ j, j ≠ i → t.inputs.get j = s.inputs.get j)
      ∧ (i = .in7 ∨ old.accepted = some level → t = { s with inputs := t.inputs })
      ∧ t = { s with
          inputs := t.inputs, fire := t.fire, climate := t.climate, hatch := t.hatch, custody := t.custody
          outputs := t.outputs, bus := t.bus }
      ∧ (i = .in6 → old.accepted ≠ some level →
          t.climate.plantFault = level ∧ (level = true → t.climate.grant = 0)
          ∧ (let evaluated :=
               { s.toPart with inputs := t.inputs, climate := { s.climate with plantFault := level } }.resolveAirPath
             t.climate = evaluated.climate ∧ t.outputs = evaluated.outputs)
          ∧ t.bus = s.bus.evaluated s.toPart t.toPart
          ∧ t = { s with inputs := t.inputs, climate := t.climate, outputs := t.outputs, bus := t.bus })
      ∧ (i = .in5 → old.accepted ≠ some level →
          (s.climate.damper = 0 → level = true →
            t = { s with
              inputs := t.inputs, climate := { s.climate with confirmation := none, damperFault := false }
              bus := if s.climate.damperFault = false then s.bus
                else s.bus.handed (newFrame .fire 63#6 (.fireState t.toPart.fireContent)) })
          ∧ (s.climate.damper = 0 → level = false →
            t = { s with
              inputs := t.inputs
              climate := { s.climate with
                confirmation := if s.startUp.settings.fitted.getLsbD 5 ∧ s.climate.confirmation = none
                  then some (s.clock.localTime + 20000) else s.climate.confirmation } })
          ∧ (s.climate.damper ≠ 0 → t = { s with inputs := t.inputs }))

/-- ACK_EVENTS from a CONSOLE or SERVICE clears the latches it names and keeps the others, clears SPARE_LOST,
LEAF_FORCED and CUSTODY_LOST whatever it names, and is answered DONE with the eight latches as they stood. Nothing else
changes. From any other role it is answered BAD_ROLE (R62, R63). -/
def Obligations.AckEventsClears : Prop :=
  (∀ (s : State) (src : Station) (role : Role) (named : Byte), s.takesFrom src →
    role = .console ∨ role = .service →
    ∃ t, exec (.ackEvents src role named) s = .next t
      ∧ (∀ i, t.inputs.get i = { s.inputs.get i with
            latch := (s.inputs.get i).latch && !named.getLsbD (inputNumber i) })
      ∧ t = State.answered
          { s with
            inputs := t.inputs
            substitution := { s.substitution with spareLost := ⟨false, false, false, false⟩ }
            hatch := { s.hatch with leafForced := false }
            custody := { s.custody with lost := false } }
          src .ackEvents .done (.latches (PerInput.of fun i => (s.inputs.get i).latch)))
  ∧ ∀ (s : State) (src : Station) (role : Role) (named : Byte), s.takesFrom src →
    role ≠ .console → role ≠ .service →
    exec (.ackEvents src role named) s = .next (s.answered src .ackEvents .badRole (.role role))

/-! ## Fire -/

/-- IN2, IN3 and IN4 taken by the fire sequencer at the acceptance of a changed or first level. IN2 active is manual
release: from QUIET and ALERT to PRE_DISCHARGE with the manual delay, the record written without loop and detector or
kept; in PRE_DISCHARGE the countdown is lowered to the manual delay; later states are not touched. IN3 pauses the
countdown while active in PRE_DISCHARGE; its end leaves at least 10 s. IN4 active clears CYLINDER_LOW; inactive sets it
in QUIET and ALERT, is the pressure fall in DISCHARGED, and after the pulse end gives HOLD (R69, R74, R78, R83). Where
the pause, the countdown or CYLINDER_LOW changes and the fire state does not, FIRE_STATE is handed and nothing but the
input and the fire sequencer changes (R84); where none of these changes nothing is handed. A change of the fire state,
which FireChangesAreAnnounced announces, reaches fire, climate, hatch, custody, outputs and bus only. A manual delay of
0 that is not paused expires at once: that the release begins within the same command is the model's choice (R69, R72,
log 14). -/
def Obligations.FireInputsAct : Prop :=
  ∀ (s : State) (i : InputId), s.ready →
    ∀ high, (s.inputs.get i).pendingLevel = some high →
    ∀ e, (s.inputs.get i).holdExpiry = some e → e ≤ s.clock.localTime →
    let active := high != s.startUp.settings.polarity.getLsbD (inputNumber i)
    let manual := s.startUp.settings.manualDelay
    let abort := decide ((s.inputs.get .in3).accepted = some true)
    let entered (t : State) (alarm : Option AlarmRecord) : Prop :=
      if manual = 0 ∧ abort = false then s.toPart.ReleaseBegun t.toPart alarm
      else t.fire.state = .preDischarge ∧ t.fire.countdown = some manual ∧ t.fire.paused = abort ∧ t.fire.alarm = alarm
    (s.inputs.get i).accepted ≠ some active → (i = .in2 ∨ i = .in3 ∨ i = .in4) →
    ∃ t, exec (.inputHoldExpiry i) s = .next t
      ∧ (let announced (f : FireSequencer) : Prop := t = { s with
            inputs := t.inputs, fire := f
            bus := s.bus.handed (newFrame .fire 63#6 (.fireState { s.toPart with fire := f }.fireContent)) }
         let unchanged : Prop := t = { s with inputs := t.inputs }
         (i = .in2 → active = false → unchanged)
         ∧ (i = .in2 → active = true →
            (s.fire.state = .quiet →
              entered t (some { firstLoop := none, firstDetector := none, minute := s.clock.minute }))
            ∧ (s.fire.state = .alert → entered t s.fire.alarm)
            ∧ (s.fire.state = .preDischarge → ∀ n, s.fire.countdown = some n →
                (n ≤ manual → unchanged)
                ∧ (manual < n → 0 < manual ∨ s.fire.paused = true →
                    announced { s.fire with countdown := some manual })
                ∧ (manual < n → manual = 0 → s.fire.paused = false →
                    s.toPart.ReleaseBegun t.toPart s.fire.alarm ∧ t.hatch = s.hatch ∧ t.custody = s.custody))
            ∧ (s.fire.state = .discharged ∨ s.fire.state = .hold ∨ s.fire.state = .spent → unchanged))
         ∧ (i = .in3 → s.fire.state = .preDischarge →
            (active = true → s.fire.paused = false → announced { s.fire with paused := true })
            ∧ (active = true → s.fire.paused = true → unchanged)
            ∧ (active = false → s.fire.paused = true → ∀ n, s.fire.countdown = some n →
                announced { s.fire with paused := false, countdown := some (max n 10) })
            ∧ (active = false → s.fire.paused = false → unchanged))
         ∧ (i = .in3 → s.fire.state ≠ .preDischarge → unchanged)
         ∧ (i = .in4 → active = true →
            (s.fire.cylinderLow = true → announced { s.fire with cylinderLow := false })
            ∧ (s.fire.cylinderLow = false → unchanged))
         ∧ (i = .in4 → active = false →
            (s.fire.state = .quiet ∨ s.fire.state = .alert →
              (s.fire.cylinderLow = false → announced { s.fire with cylinderLow := true })
              ∧ (s.fire.cylinderLow = true → unchanged))
            ∧ (s.fire.state = .discharged → s.fire.pulseEnd ≠ none →
                t = { s with inputs := t.inputs, fire := { s.fire with pressureFall := true } })
            ∧ (s.fire.state = .discharged → s.fire.pulseEnd = none →
                t.fire = { s.fire with
                  state := .hold, pressureFall := true, pulseEnd := none, confirmationEnd := none
                  holdEnd := some (s.clock.localTime + s.startUp.settings.hold * 1000) }
                ∧ t.hatch = s.hatch ∧ t.custody = s.custody)
            ∧ (s.fire.state = .preDischarge ∨ s.fire.state = .hold ∨ s.fire.state = .spent → unchanged)))
      ∧ t = { s with
          inputs := t.inputs, fire := t.fire, climate := t.climate, hatch := t.hatch, custody := t.custody
          outputs := t.outputs, bus := t.bus }

/-- A countdown that stands at 0 and is not paused expires: DISCHARGED, with OUT2 on, the pulse end 2 s and the
confirmation end 10 s later, no pressure fall, sounder and beacon steadily on (R75, R77, R85). At the release pulse end
OUT2 goes off, and pressure fall seen gives HOLD for the configured hold (R79). At the confirmation end with no pressure
fall seen the zone enters HOLD with RELEASE_UNCONFIRMED set (R80); at the hold end it becomes SPENT (R81). OUT2 stays
RELEASED where it is not fitted. Nothing of the hatch or of the alarm record changes. -/
def Obligations.ReleaseTimersAct : Prop :=
  (∀ s : State, s.ready → s.fire.state = .preDischarge → s.fire.countdown = some 0 → s.fire.paused = false →
    ∃ t, exec .countdownExpiry s = .next t
      ∧ t.fire = { s.fire with
          state := .discharged, paused := false, countdown := none, pulseEnd := some (s.clock.localTime + 2000)
          confirmationEnd := some (s.clock.localTime + 10000), pressureFall := false }
      ∧ t.outputs.out2 = ⟨.drivenOn, if s.startUp.settings.fitted.getLsbD 2 then .drivenOn else .released⟩
      ∧ t.outputs.out3.request = .drivenOn ∧ t.outputs.out4.request = .drivenOn
      ∧ t = { s with fire := t.fire, climate := t.climate, outputs := t.outputs, bus := t.bus })
  ∧ (∀ s : State, s.ready → s.fire.state = .discharged →
    ∀ e, s.fire.pulseEnd = some e → e ≤ s.clock.localTime →
    let off : DigitalOutput := ⟨.drivenOff, if s.startUp.settings.fitted.getLsbD 2 then .drivenOff else .released⟩
    (s.fire.pressureFall = false →
      exec .releasePulseEnd s = .next { s with
        fire := { s.fire with pulseEnd := none }, outputs := { s.outputs with out2 := off } })
    ∧ (s.fire.pressureFall = true →
      ∃ t, exec .releasePulseEnd s = .next t
        ∧ t.fire = { s.fire with
            state := .hold, pulseEnd := none, confirmationEnd := none
            holdEnd := some (s.clock.localTime + s.startUp.settings.hold * 1000) }
        ∧ t.outputs.out2 = off
        ∧ t = { s with fire := t.fire, climate := t.climate, outputs := t.outputs, bus := t.bus }))
  ∧ ∀ s : State, s.ready →
    (s.fire.state = .discharged → s.fire.pressureFall = false →
      ∀ e, s.fire.confirmationEnd = some e → e ≤ s.clock.localTime →
      ∃ t, exec .confirmationEnd s = .next t
        ∧ t.fire = { s.fire with
            state := .hold, pulseEnd := none, confirmationEnd := none, releaseUnconfirmed := true
            holdEnd := some (s.clock.localTime + s.startUp.settings.hold * 1000) }
        ∧ t = { s with fire := t.fire, climate := t.climate, outputs := t.outputs, bus := t.bus })
    ∧ (s.fire.state = .hold → ∀ e, s.fire.holdEnd = some e → e ≤ s.clock.localTime →
      ∃ t, exec .holdExpiry s = .next t ∧ t.fire = { s.fire with state := .spent, holdEnd := none }
        ∧ t = { s with fire := t.fire, climate := t.climate, outputs := t.outputs, bus := t.bus })

/-- CANCEL_DISCHARGE by state and occupancy: in PRE_DISCHARGE while STAFFED the zone returns to ALERT with countdown and
pause cleared and the alarm record kept, and the duct is released from its own SHUT; while UNSTAFFED it is refused
UNSTAFFED, and in any other state REFUSED_STATE with that state (R76). RESET_FIRE: in ALERT and SPENT with neither loop
in alarm the zone returns to QUIET, the alarm record and RELEASE_UNCONFIRMED are cleared; otherwise it is refused
REFUSED_STATE with the state (R82). Both entries set CYLINDER_LOW where IN4 shows pressure low, hand the FIRE_STATE
content before the DONE reply, and are answered BAD_ROLE from every role but CONSOLE. That FIRE_STATE is handed before
the CLIMATE of the evaluation is the model's choice (R66 leaves it open, log 10). -/
def Obligations.CancelAndResetByState : Prop :=
  (∀ (s : State) (src : Station), s.takesFrom src →
    let outcome := exec (.cancelDischarge src .console) s
    (s.fire.state ≠ .preDischarge →
      outcome = .next (s.answered src .cancelDischarge .refusedState (.fireState s.fire.state)))
    ∧ (s.fire.state = .preDischarge → s.occupancy = .unstaffed →
      outcome = .next (s.answered src .cancelDischarge .unstaffed .nothing))
    ∧ (s.fire.state = .preDischarge → s.occupancy = .staffed →
      ∃ t, outcome = .next t
        ∧ t.fire = { s.fire with
            state := .alert, paused := false, countdown := none
            cylinderLow := s.fire.cylinderLow || decide ((s.inputs.get .in4).accepted = some false) }
        ∧ t.outputs.out3.request = .pattern .alert ∧ t.outputs.out4.request = .pattern .alert
        ∧ (s.toPart.peerShut = false → t.climate.airPath ≠ .shut)
        ∧ (let first := s.bus.handed (newFrame .fire 63#6 (.fireState t.toPart.fireContent))
           let last := replyFrame src .cancelDischarge .done (.fireState .alert)
           t.bus = first.handed last
            ∨ t.bus = (first.handed (newFrame .routine 63#6 (.climate t.toPart.climateContent))).handed last)
        ∧ t = { s with fire := t.fire, climate := t.climate, outputs := t.outputs, bus := t.bus })
    ∧ ∀ role, role ≠ .console →
      exec (.cancelDischarge src role) s = .next (s.answered src .cancelDischarge .badRole (.role role)))
  ∧ ∀ (s : State) (src : Station), s.takesFrom src →
    let inAlarm := s.loops.a.accepted.alarm = true ∨ s.loops.b.accepted.alarm = true
    let resets := s.fire.state = .alert ∨ s.fire.state = .spent
    let outcome := exec (.resetFire src .console) s
    (¬ resets ∨ inAlarm → outcome = .next (s.answered src .resetFire .refusedState (.fireState s.fire.state)))
    ∧ (resets → ¬ inAlarm →
      ∃ t, outcome = .next t
        ∧ t.fire = { s.fire with
            state := .quiet, alarm := none, releaseUnconfirmed := false
            cylinderLow := s.fire.cylinderLow || decide ((s.inputs.get .in4).accepted = some false) }
        ∧ (let first := s.bus.handed (newFrame .fire 63#6 (.fireState t.toPart.fireContent))
           let last := replyFrame src .resetFire .done .nothing
           t.bus = first.handed last
            ∨ t.bus = (first.handed (newFrame .routine 63#6 (.climate t.toPart.climateContent))).handed last)
        ∧ t.outputs.out3.request = .drivenOff ∧ t.outputs.out4.request = .drivenOff
        ∧ t = { s with fire := t.fire, climate := t.climate, outputs := t.outputs, bus := t.bus })
    ∧ ∀ role, role ≠ .console →
      exec (.resetFire src role) s = .next (s.answered src .resetFire .badRole (.role role))

/-- The fire state moves only along Table 5-3, at every step of the machine; only a cold start (validity mark invalid,
or a cold start begun again) brings any state back to QUIET at once. One event may take several transitions on the way
from alarm to DISCHARGED (R66, R87, R88); that a countdown of 0 expires within the event that brings it there is the
model's choice (log 14). The premise is `StartSound`, which every step keeps: a cold power start, in progress or held by
the pin, finds the mark invalid or has written QUIET (R180, R181). A discharge whose FIRE_STATE displaces the DONE reply
of a pending RESTART is followed by that restart in the same event, which retains it as HOLD (R88, R162, R182; that it
begins within the event is the model's choice, log 36). The alarm record is written at each transition out of QUIET with
the archive minute then, cleared at each transition into QUIET, and not changed between the two, at every command and
every start (R67). -/
def Obligations.FireStatesFollowTheirDiagram : Prop :=
  (∀ s : State, s.toPart.StartSound → ∀ t, step s = .next t → t.toPart.StartSound)
  ∧ (∀ s : State, s.toPart.StartSound → ∀ t, step s = .next t →
    t.fire.state = s.fire.state
    ∨ t.fire.state = .quiet ∧ s.toPart.coldStartNext
    ∨ s.fire.state.leadsTo t.fire.state = true
    ∨ s.fire.state.leadsTo .discharged = true ∧ t.fire.state = .hold
      ∧ s.startUp.restartDeadline ≠ none ∧ t.startUp.restartDeadline = none)
  ∧ ∀ (c : Instr) (s : State), (s.fire.alarm = none ↔ s.fire.state = .quiet) → ∀ t, exec c s = .next t →
    (s.fire.state = .quiet → t.fire.state ≠ .quiet → ∃ r, t.fire.alarm = some r ∧ r.minute = s.clock.minute)
    ∧ (t.fire.state = .quiet → t.fire.alarm = none)
    ∧ (s.fire.state ≠ .quiet → t.fire.state ≠ .quiet → t.fire.alarm = s.fire.alarm)

/-- Every step keeps `ReleaseSafe`: the release solenoid is driven on only in DISCHARGED, and, in a part that acts, only
up to a release pulse end that lies at most 2 s ahead. A step that begins and ends in DISCHARGED sets no pulse end: it
keeps the one of the entry or removes it. So the solenoid is on for at most 2 s per entry (R77); a restart, in whose
stages no time passes, drives it off at stage 3 (R86, R186). -/
def Obligations.ReleaseLawIsKept : Prop :=
  (∀ s : State, s.toPart.ReleaseSafe → ∀ t, step s = .next t → t.toPart.ReleaseSafe)
  ∧ ∀ s : State, s.fire.state = .discharged → ∀ t, step s = .next t → t.fire.state = .discharged →
    ∀ e, t.fire.pulseEnd = some e → s.fire.pulseEnd = some e

/-- Whatever command changes the fire state of a part with a station number and room for two frames in its queue, the
content as it then stands waits in the queue as a FIRE_STATE frame to every station (R66, R84, R161). The queue is one
that the laws of QueueAndPeersStaySound hold for. A start that the next command interrupts hands nothing yet (R89,
R181). -/
def Obligations.FireChangesAreAnnounced : Prop :=
  ∀ (c : Instr) (s : State), s.toPart.QueueSound → s.toPart.BroadcastsSound → s.bus.queue.length ≤ 6 →
    ∀ t, exec c s = .next t →
    t.fire.state ≠ s.fire.state → t.bus.station ≠ none → t.startUp.inProgress = none →
    ∃ f ∈ t.bus.queue, f.onLine = false ∧ f.cls = .fire ∧ f.dest = 63#6
      ∧ f.body = .fireState t.toPart.fireContent

/-! ## Clock -/

/-- A whole second of local time: the second and second-of-minute counts rise, at 60 the latter starts again, the next
second is set. A countdown that runs falls by one; a paused one stands. One that reaches 0 expires: DISCHARGED, with its
timers, OUT2 on and the duct SHUT, so that a purge does not count this second. A served purge counts the second, with a
countdown or without, and completes on purge max with PURGE_TIMEOUT: its request ends with an evaluation, and the inner
leaf is unlocked where R114 and R141 allow it. In each case nothing else changes (R42, R73, R75, R77, R134, R135, R168).
Three things here are the model's choice: that the archive minute does not rise in this command but a flag says that its
rise is due (log 15), that a countdown which reaches 0, or a purge which reaches purge max, is taken within it (log 14),
and that the next second counts from the scheduled time of this one, however late it is taken (log 38). -/
def Obligations.SecondsAdvance : Prop :=
  ∀ s : State, s.ready → s.clock.nextSecond ≤ s.clock.localTime →
    let counting := s.fire.state = .preDischarge ∧ s.fire.paused = false
    let purging := s.hatch.state = .purging ∧ s.climate.airPath = .purge
    let cfg := s.startUp.settings
    let h := s.hatch
    let expires := counting ∧ (s.fire.countdown = some 0 ∨ s.fire.countdown = some 1)
    let ends := purging ∧ cfg.purgeMax ≤ h.purgeTime + 1
    let counted : FireSequencer :=
      if counting then { s.fire with countdown := s.fire.countdown.map (· - 1) } else s.fire
    ∃ t, exec .localSecondAdvance s = .next t
      ∧ t.clock = { s.clock with
          second := t.clock.second
          secondOfMinute := if s.clock.secondOfMinute < 59 then s.clock.secondOfMinute + 1 else 0
          minuteRiseDue := s.clock.minuteRiseDue || decide (59 ≤ s.clock.secondOfMinute)
          nextSecond := s.clock.nextSecond + 1000 }
      ∧ (s.clock.second < 4294967295 → t.clock.second = s.clock.second + 1 ∧ t.freeDraws = s.freeDraws)
      ∧ (¬ expires → ¬ ends →
          t = { s with
            clock := t.clock, freeDraws := t.freeDraws, fire := counted
            hatch := if purging then { h with purgeTime := h.purgeTime + 1 } else h })
      ∧ (expires →
          t.fire = { s.fire with
            state := .discharged, paused := false, countdown := none, pulseEnd := some (s.clock.localTime + 2000)
            confirmationEnd := some (s.clock.localTime + 10000), pressureFall := false }
          ∧ t.outputs.out2 = ⟨.drivenOn, if cfg.fitted.getLsbD 2 then .drivenOn else .released⟩
          ∧ t.outputs.out3.request = .drivenOn ∧ t.outputs.out4.request = .drivenOn
          ∧ t.climate = { s.toPart with fire := t.fire }.resolveAirPath.climate ∧ t.climate.airPath = .shut
          ∧ t = { s with
              clock := t.clock, freeDraws := t.freeDraws, fire := t.fire, climate := t.climate, outputs := t.outputs
              bus := t.bus })
      ∧ (¬ expires → ends →
          let request := { s.toPart with fire := counted, hatch := { h with purgeRequest := false } }
          let evaluated := if h.purgeRequest then request.resolveAirPath else request
          let done := { h with
            purgeTime := cfg.purgeMax, purgeRequest := false, state := .innerRelease, backupState := .innerRelease }
          let unlocks := h.locks.outer = false ∧ s.fire.state.sealed = false ∧ h.startTally = .no
          t = { s with
            clock := t.clock, freeDraws := t.freeDraws, fire := counted, hatch := t.hatch, climate := evaluated.climate
            outputs := t.outputs, bus := t.bus, exceptions := t.exceptions }
          ∧ t.exceptions.flags.purgeTimeout = true
          ∧ (∀ b, h.batch = some b →
              t.exceptions = s.exceptions.raise cfg.capture ⟨.purgeTimeout, s.clock.minute, .batch b⟩)
          ∧ (¬ unlocks → t.hatch = done ∧ t.outputs = evaluated.outputs ∧ t.bus = s.bus.evaluated s.toPart t.toPart)
          ∧ (unlocks →
              t.hatch = { done with
                locks := ⟨true, false⟩, windows := { h.windows with inner := some (s.clock.localTime + 30000) } }
              ∧ t.outputs = { evaluated.outputs with
                  out0 := ⟨.drivenOn, if cfg.fitted.getLsbD 0 then .drivenOn else .released⟩ }
              ∧ ∀ b, h.batch = some b → ∀ d, h.direction = some d →
                t.bus = (s.bus.evaluated s.toPart t.toPart).notified (h.courierPost.toList ++ h.console.toList)
                  .innerUnlocked d b .innerRelease none))

/-- A minute rise adds one to the archive minute and makes the minute check on every record in the same event: an
ON_LOAN record that is due becomes overdue, an ACCLIMATISING record past its dwell end becomes READY, each with its
revision raised; no other record changes. At the top of the count nothing rises and nothing is checked (R102, R103,
R168). At every command the archive minute does not fall, except that a cold start (validity mark invalid, or a cold
start begun again) sets it to 0 (R169). -/
def Obligations.MinuteRiseChecksTheRecords : Prop :=
  (∀ s : State, s.ready → s.clock.minuteRiseDue = true →
    let now := s.clock.minute + 1
    (s.clock.minute < 4294967295 →
      exec .archiveMinuteRise s = .next { s with
        clock := { s.clock with minute := now, minuteRiseDue := false }
        custody := { s.custody with records := s.custody.records.map fun r =>
          if r.state = .onLoan ∧ r.overdue = false ∧ r.due.any (fun d => decide (d ≤ now)) = true then
            { r with overdue := true, revision := r.revision + 1 }
          else if r.state = .acclimatising ∧ r.dwellEnd.any (fun d => decide (d ≤ now)) = true then
            { r with state := .ready, revision := r.revision + 1 }
          else r } })
    ∧ (s.clock.minute = 4294967295 →
      exec .archiveMinuteRise s = .next { s with clock := { s.clock with minuteRiseDue := false } }))
  ∧ ∀ (c : Instr) (s : State), ∀ t, exec c s = .next t →
    s.clock.minute ≤ t.clock.minute ∨ s.toPart.coldStartNext ∧ t.clock.minute = 0

/-! ## Custody -/

/-- CHECKOUT from a console, not DEFAULTED: its one to four labels are handled one after another, each against the table
as the earlier ones left it: a label in the table is a DUPLICATE with its state and revision; otherwise a RESERVED
record is created at the end while records in use plus held slots are below 96, and TABLE_FULL is answered at 96. The
loan length is clamped to 60 to 43200, and the status says so. Nothing else changes (R91, R96). -/
def Obligations.CheckoutTakesLabelsInTurn : Prop :=
  ∀ (s : State) (src : Station) (loan : BitVec 32) (labels : List Label), s.takesFrom src →
    s.startUp.defaulted = false → 1 ≤ labels.length → labels.length ≤ 4 → labels.all validLabel = true →
    let length := max 60 (min 43200 loan.toNat)
    let reserved (l : Label) : CustodyRecord :=
      { label := l, state := .reserved, revision := 0, foreign := false, overdue := false, batch := none
        courier := none, reserveMinute := s.clock.minute, loanLength := some length, loanStart := none, due := none
        returnMinute := none, dwellEnd := none }
    let present (rs : List CustodyRecord) (l : Label) : Option CustodyRecord := rs.find? (fun r => r.label == l)
    let after (rs : List CustodyRecord) (l : Label) : List CustodyRecord :=
      if present rs l = none ∧ rs.length + s.custody.held < 96 then rs ++ [reserved l] else rs
    let result (rs : List CustodyRecord) (l : Label) : LabelResult :=
      match present rs l with
      | some r => .duplicate r.state r.revision
      | none => if rs.length + s.custody.held < 96 then .done 0 else .tableFull
    let tableBefore (i : Nat) : List CustodyRecord := (labels.take i).foldl after s.custody.records
    exec (.checkout src .console loan labels) s
      = .next (State.answered { s with custody := { s.custody with records := tableBefore labels.length } }
          src .checkout (if loan.toNat = length then .done else .clamped)
          (.labelResults ((List.range labels.length).map fun i => result (tableBefore i) (labels.getD i []))))

/-- CANCEL, EXTEND and SHELVED from a console, not DEFAULTED: NOT_FOUND for an absent label, then STALE_REVISION with
the revision and state as they are, then REFUSED_STATE with the state; a refusal changes nothing (R95). Taken: CANCEL
removes a RESERVED record and SHELVED a READY one, later records moving forward; EXTEND adds the clamped minutes to the
due minute of an ON_LOAN record, held at 4294967295, clears overdue when the new due minute is past now, raises the
revision, and answers all three. No other record and nothing else changes (R91, R97, R98, R99). -/
def Obligations.ConditionalRequestsAreTaken : Prop :=
  (∀ (s : State) (src : Station) (label : Label) (revision : BitVec 16) (added : BitVec 32), s.takesFrom src →
    s.startUp.defaulted = false → validLabel label = true → revision.toNat ≤ 255 →
    let refused (status : Status) (data : ReplyData) (k : RequestKind) : Host.Outcome State Fault Refusal :=
      .next (s.answered src k status data)
    let cancel := exec (.cancel src .console label revision) s
    let extend := exec (.extendLoan src .console label revision added) s
    let shelved := exec (.shelved src .console label revision) s
    ((∀ r ∈ s.custody.records, r.label ≠ label) →
      cancel = refused .notFound .nothing .cancel ∧ extend = refused .notFound .nothing .extendLoan
        ∧ shelved = refused .notFound .nothing .shelved)
    ∧ ∀ r, s.custody.records.find? (fun x => x.label == label) = some r →
        (r.revision.toNat ≠ revision.toNat →
          let data := ReplyData.revisionAndState r.revision r.state
          cancel = refused .staleRevision data .cancel ∧ extend = refused .staleRevision data .extendLoan
            ∧ shelved = refused .staleRevision data .shelved)
        ∧ (r.revision.toNat = revision.toNat →
          (r.state ≠ .reserved → cancel = refused .refusedState (.recordState r.state) .cancel)
          ∧ (r.state ≠ .onLoan → extend = refused .refusedState (.recordState r.state) .extendLoan)
          ∧ (r.state ≠ .ready → shelved = refused .refusedState (.recordState r.state) .shelved)))
  ∧ ∀ (s : State) (src : Station) (label : Label) (revision : BitVec 16) (added : BitVec 32), s.takesFrom src →
    s.startUp.defaulted = false → validLabel label = true → (s.custody.records.map (·.label)).Nodup →
    ∀ r, s.custody.records.find? (fun x => x.label == label) = some r → r.revision.toNat = revision.toNat →
    let removed := { s with custody := { s.custody with records := s.custody.records.eraseP (fun x => x.label == label) } }
    let minutes := max 60 (min 43200 added.toNat)
    (r.state = .reserved →
      exec (.cancel src .console label revision) s = .next (State.answered removed src .cancel .done .nothing))
    ∧ (r.state = .ready →
      exec (.shelved src .console label revision) s = .next (State.answered removed src .shelved .done .nothing))
    ∧ (r.state = .onLoan → ∀ due, r.due = some due →
      let newDue := min 4294967295 (due + minutes)
      let x := { r with
        revision := r.revision + 1, due := some newDue
        overdue := if s.clock.minute < newDue then false else r.overdue }
      exec (.extendLoan src .console label revision added) s
        = .next (State.answered
            { s with custody := { s.custody with
              records := s.custody.records.map fun y => if y.label = label then x else y } }
            src .extendLoan (if added.toNat = minutes then .done else .clamped)
            (.extended x.revision newDue x.overdue)))

/-- QUERY answers every field of the record of its label, or NOT_FOUND; LIST the records in use, the start index and up
to four summaries in table order; EXCEPTION_LIST the entries, the six flags and the capture setting. All three are taken
in DEFAULTED operation too and change nothing (R100, R101, R150). -/
def Obligations.ReadingRequestsChangeNothing : Prop :=
  ∀ (s : State) (src : Station) (label : Label) (start : Byte) (role : Role), s.takesFrom src →
    (validLabel label = true →
      ((∀ r ∈ s.custody.records, r.label ≠ label) →
        exec (.query src .console label) s = .next (s.answered src .query .notFound .nothing))
      ∧ ∀ r, s.custody.records.find? (fun x => x.label == label) = some r →
        exec (.query src .console label) s = .next (s.answered src .query .done (.record r)))
    ∧ (start.toNat ≤ 95 →
      exec (.list src .console start) s = .next (s.answered src .list .done
        (.listing s.custody.records.length start.toNat
          (((s.custody.records.drop start.toNat).take 4).map fun r =>
            ⟨r.label, r.state, r.revision, r.overdue, r.foreign⟩))))
    ∧ (role = .console ∨ role = .service →
      exec (.exceptionList src role) s = .next (s.answered src .exceptionList .done
        (.exceptions s.exceptions.entries s.exceptions.flags s.startUp.settings.capture)))

/-- Every step keeps `CustodySound`: one record per label, at most 96 records and held slots, and slots held only for an
inbound handover open in stage PRESENTED, as many as it declared (R91, R93). -/
def Obligations.CustodyLawIsKept : Prop :=
  ∀ s : State, s.toPart.CustodySound → ∀ t, step s = .next t → t.toPart.CustodySound

/-- Over any command: a record that stays either stays as it is or has its revision raised by exactly one, and keeps its
label, its foreign mark and its reserve minute; a label new to the table starts at revision 0; records that stay keep
their order and come before the new ones (R91, R92). -/
def Obligations.RevisionsCountTheChanges : Prop :=
  ∀ (c : Instr) (s : State), s.toPart.CustodySound → ∀ t, exec c s = .next t →
    let labels (x : State) : List Label := x.custody.records.map (·.label)
    (∀ r' ∈ t.custody.records,
      (∀ r ∈ s.custody.records, r.label = r'.label →
        r' = r ∨ r'.revision = r.revision + 1 ∧ r'.foreign = r.foreign ∧ r'.reserveMinute = r.reserveMinute)
      ∧ (r'.label ∉ labels s → r'.revision = 0))
    ∧ ((labels s).filter fun l => decide (l ∈ labels t)) <+: labels t

/-! ## Hatch: requests -/

/-- OPEN_INNER from a console: its tests in order; taken, the hatch state becomes the return state, the inner leaf is
unlocked for 30 s with OUT0 on, and the state is INNER_ACCESS. Direction and batch are kept (R115, R119). Three things
here are the model's choice: that a taken OPEN_INNER ends the wait for a start tally, so that the leaf is unlocked even
while that tally is awaited (log 28), that it is taken, and unlocks, also where a start has not yet accepted both leaves
(R139, R141; log 52), and that no INNER_UNLOCKED is sent where it is taken in INNER_RELEASE (log 46). -/
def Obligations.OpenInnerTests : Prop :=
  ∀ (s : State) (src : Station), s.takesFrom src → s.startUp.defaulted = false →
    let h := s.hatch
    let outcome := exec (.openInner src .console) s
    let refused (status : Status) (data : ReplyData) : Prop := outcome = .next (s.answered src .openInner status data)
    let isOpen := s.inputs.in0.accepted = some false ∨ s.inputs.in1.accepted = some false
    let opens := h.state = .empty ∨ h.state = .staged ∨ h.state = .irregular ∨ h.state = .innerRelease
    let taken := opens ∧ ¬(h.handoverOpen = true ∧ h.direction = some .out) ∧ ¬ isOpen
    (¬ taken → refused .hatchOpen (.hatchState h.state))
    ∧ (taken → s.fire.state ≠ .quiet → s.fire.state ≠ .alert → refused .zoneHeld (.fireState s.fire.state))
    ∧ (taken → s.fire.state = .quiet ∨ s.fire.state = .alert →
      (s.occupancy = .unstaffed → refused .unstaffed .nothing)
      ∧ (s.occupancy = .staffed → h.locks.outer = false →
        outcome = .next (State.answered
          { s with
            hatch := { h with
              returnState := some h.state, startTally := .no, state := .innerAccess, backupState := .innerAccess
              locks := ⟨true, false⟩, windows := { h.windows with inner := some (s.clock.localTime + 30000) } }
            outputs := { s.outputs with
              out0 := ⟨.drivenOn, if s.startUp.settings.fitted.getLsbD 0 then .drivenOn else .released⟩ } }
          src .openInner .done .nothing)))

/-- PRESENT while no handover is open, its four tests in order for each direction. OUT, taken: the handover opens in
stage PRESENTED with station, courier and count recorded and the step timeout running, and the leaves stay locked (R124,
R127). IN, granted: the slots are held, the handover opens in stage PRESENTED with its declaration recorded, the outer
leaf is unlocked for 30 s with OUT1 on, and OUTER_UNLOCKED and DONE are handed; no step timeout runs (R93, R115, R130).
Four things here are the model's choice: OUTER_UNLOCKED before DONE (log 31), the end of the wait for a start tally (log
28), direction OUT set at PRESENT OUT (log 35), and that PRESENT IN is taken, and unlocks, also where a start has not
yet accepted both leaves (R139, R141; log 52). -/
def Obligations.PresentTests : Prop :=
  (∀ (s : State) (src : Station) (batch courier : BitVec 16) (count : Byte), s.takesFrom src →
    s.startUp.defaulted = false → s.hatch.handoverOpen = false → batch ≠ 0 → courier ≠ 0 →
    1 ≤ count.toNat → count.toNat ≤ 8 →
    let h := s.hatch
    let outcome := exec (.present src .courierPost 0#8 batch count courier) s
    let refused (status : Status) (data : ReplyData) : Prop := outcome = .next (s.answered src .present status data)
    let staged := (s.custody.records.filter fun r => r.state = .stagedOut ∧ r.batch = some batch.toNat).length
    let fits := h.batch = some batch.toNat ∧ staged = count.toNat
    (h.state ≠ .staged → refused .refusedState (.hatchState h.state))
    ∧ (h.state = .staged → s.fire.state ≠ .quiet → refused .zoneHeld (.fireState s.fire.state))
    ∧ (h.state = .staged → s.fire.state = .quiet →
      (s.occupancy = .unstaffed → refused .unstaffed .nothing)
      ∧ (s.occupancy = .staffed → ¬ fits → refused .refusedSequence (.hatchAndStage h.state h.stage))
      ∧ (s.occupancy = .staffed → fits →
        outcome = .next (State.answered
          { s with hatch := { h with
            direction := some .out, courierPost := some src, courier := some courier.toNat
            declared := some count.toNat, stage := .presented, handoverOpen := true
            lastStep := some ⟨.present, src, batch.toNat⟩, startTally := .no
            stepTimeout := some (s.clock.localTime + s.startUp.settings.stepTimeout * 1000) } }
          src .present .done .nothing))))
  ∧ ∀ (s : State) (src : Station) (batch courier : BitVec 16) (count : Byte), s.takesFrom src →
    s.startUp.defaulted = false → s.hatch.handoverOpen = false → batch ≠ 0 → courier ≠ 0 →
    1 ≤ count.toNat → count.toNat ≤ 8 →
    let h := s.hatch
    let outcome := exec (.present src .courierPost 1#8 batch count courier) s
    let refused (status : Status) (data : ReplyData) : Prop := outcome = .next (s.answered src .present status data)
    let room := s.custody.held = 0 ∧ s.custody.records.length + count.toNat ≤ 96
    (h.state ≠ .empty → refused .refusedState (.hatchState h.state))
    ∧ (h.state = .empty → s.fire.state ≠ .quiet → refused .zoneHeld (.fireState s.fire.state))
    ∧ (h.state = .empty → s.fire.state = .quiet →
      (s.occupancy = .unstaffed → refused .unstaffed .nothing)
      ∧ (s.occupancy = .staffed → ¬ room → refused .tableFull .nothing)
      ∧ (s.occupancy = .staffed → room → h.locks.inner = false →
        outcome = .next (State.answered
          { s with
            custody := { s.custody with held := count.toNat }
            hatch := { h with
              direction := some .inward, batch := some batch.toNat, declared := some count.toNat
              courier := some courier.toNat, courierPost := some src, stage := .presented, handoverOpen := true
              lastStep := some ⟨.present, src, batch.toNat⟩, startTally := .no
              state := .outerAccess, backupState := .outerAccess, locks := ⟨false, true⟩
              windows := { h.windows with outer := some (s.clock.localTime + 30000) } }
            outputs := { s.outputs with
              out1 := ⟨.drivenOn, if s.startUp.settings.fitted.getLsbD 1 then .drivenOn else .released⟩ }
            bus := s.bus.handed (noticeFrame src .outerUnlocked .inward batch.toNat .outerAccess none) }
          src .present .done .nothing)))

/-- The outbound steps of an open handover: ATTEST from any console with batch and count gives ATTESTED and a new step
timeout; ACCEPT from the recorded courier-post station gives ACCEPTED, unlocks the outer leaf for 30 s with OUT1 on, and
hands OUTER_UNLOCKED to both participants and DONE (R124, R128). That the notices are handed before the DONE is the
model's choice (log 31). -/
def Obligations.OutboundStepsAreTaken : Prop :=
  ∀ (s : State) (src : Station) (batch : BitVec 16) (count : Byte), s.takesFrom src →
    s.startUp.defaulted = false → batch ≠ 0 → 1 ≤ count.toNat → count.toNat ≤ 8 →
    s.hatch.handoverOpen = true → s.hatch.direction = some .out → s.hatch.batch = some batch.toNat →
    let h := s.hatch
    (h.stage = .presented → h.declared = some count.toNat → h.lastStep ≠ some ⟨.attest, src, batch.toNat⟩ →
      exec (.attest src .console batch count) s
        = .next (State.answered
            { s with hatch := { h with
              console := some src, stage := .attested, lastStep := some ⟨.attest, src, batch.toNat⟩
              stepTimeout := some (s.clock.localTime + s.startUp.settings.stepTimeout * 1000) } }
            src .attest .done .nothing))
    ∧ (h.stage = .attested → h.courierPost = some src → h.lastStep ≠ some ⟨.accept, src, batch.toNat⟩ →
      s.fire.state = .quiet ∨ s.fire.state = .alert → h.locks.inner = false → h.startTally = .no →
      exec (.accept src .courierPost batch) s
        = .next (State.answered
            { s with
              hatch := { h with
                stage := .accepted, lastStep := some ⟨.accept, src, batch.toNat⟩, stepTimeout := none
                state := .outerAccess, backupState := .outerAccess, locks := ⟨false, true⟩
                windows := { h.windows with outer := some (s.clock.localTime + 30000) } }
              outputs := { s.outputs with
                out1 := ⟨.drivenOn, if s.startUp.settings.fitted.getLsbD 1 then .drivenOn else .released⟩ }
              bus := s.bus.notified (src :: h.console.toList) .outerUnlocked .out batch.toNat .outerAccess none }
            src .accept .done .nothing))

/-- An inbound ATTEST, as the next step of an open handover in TALLIED or as the resumption of a RECEIVED batch, begins
the purge: ATTESTED, PURGING, purge request on, handover open, DONE, and the air path is PURGE unless SHUT holds. The
purge time and tolerance run are kept. A resumption is refused ZONE_HELD in a sealed zone, UNSTAFFED in an empty one,
and REFUSED_SEQUENCE for another batch (R133, R43). That the frames of the evaluation are handed before the DONE, which
R133 names first, is the model's choice (log 31). -/
def Obligations.InboundAttestBeginsThePurge : Prop :=
  ∀ (s : State) (src : Station) (batch : BitVec 16) (count : Byte), s.takesFrom src →
    s.startUp.defaulted = false → batch ≠ 0 → 1 ≤ count.toNat → count.toNat ≤ 8 →
    let h := s.hatch
    let outcome := exec (.attest src .console batch count) s
    let refused (status : Status) (data : ReplyData) : Prop := outcome = .next (s.answered src .attest status data)
    let begins : Prop := ∃ t, outcome = .next t
      ∧ t.hatch = { h with
          console := some src, stage := .attested, handoverOpen := true
          lastStep := some ⟨.attest, src, batch.toNat⟩, stepTimeout := none, purgeRequest := true
          state := .purging, backupState := .purging }
      ∧ (let evaluated := (s.toPart.withHatch t.hatch).resolveAirPath
         t.climate = evaluated.climate ∧ t.outputs = evaluated.outputs)
      ∧ t.bus = (s.bus.evaluated s.toPart t.toPart).handed (replyFrame src .attest .done .nothing)
      ∧ (s.toPart.shutCondition = false →
          t.climate.airPath = .purge ∧ t.climate.damper = 100 ∧ t.climate.fan = true ∧ t.climate.plant = true)
      ∧ t = { s with hatch := t.hatch, climate := t.climate, outputs := t.outputs, bus := t.bus }
    (h.handoverOpen = true → h.direction = some .inward → h.stage = .tallied → h.batch = some batch.toNat →
      h.declared = some count.toNat → h.lastStep ≠ some ⟨.attest, src, batch.toNat⟩ → begins)
    ∧ (h.handoverOpen = false → h.state = .received → h.stage = .tallied →
      (h.batch = some batch.toNat →
        (s.fire.state.sealed = true → refused .zoneHeld (.fireState s.fire.state))
        ∧ (s.fire.state.sealed = false → s.occupancy = .unstaffed → refused .unstaffed .nothing)
        ∧ (s.fire.state.sealed = false → s.occupancy = .staffed → begins))
      ∧ (h.batch ≠ some batch.toNat → refused .refusedSequence (.hatchAndStage h.state h.stage)))

/-- While no handover is open: in RETRIEVE with the outer leaf locked and not open, ACCEPT with the kept batch from the
kept station unlocks the outer leaf again with OUTER_UNLOCKED, to that station and to a recorded console, and DONE, and
is refused ZONE_HELD in a sealed zone; any other ACCEPT, every WITHDRAW, and an ATTEST outside RECEIVED and TALLIED are
refused REFUSED_SEQUENCE (R122, R123, R132).
Three things here are the model's choice: OUTER_UNLOCKED before DONE (log 31), that a taken ACCEPT ends the wait for a
start tally (log 28), and that an outer leaf standing open with its lock request off is not locked, so that ACCEPT is
refused (log 45). -/
def Obligations.RequestsWithoutAHandover : Prop :=
  ∀ (s : State) (src : Station) (batch : BitVec 16) (count : Byte), s.takesFrom src →
    s.startUp.defaulted = false → s.hatch.handoverOpen = false → batch ≠ 0 → 1 ≤ count.toNat → count.toNat ≤ 8 →
    let h := s.hatch
    let refused : ReplyData := .hatchAndStage h.state h.stage
    let fits := h.state = .retrieve ∧ h.batch = some batch.toNat ∧ h.courierPost = some src ∧ h.locks.outer = false
      ∧ s.inputs.in1.accepted ≠ some false
    (∀ role, role = .courierPost ∨ role = .console →
      exec (.withdraw src role batch) s = .next (s.answered src .withdraw .refusedSequence refused))
    ∧ (h.state ≠ .received ∨ h.stage ≠ .tallied →
      exec (.attest src .console batch count) s = .next (s.answered src .attest .refusedSequence refused))
    ∧ (¬ fits →
      exec (.accept src .courierPost batch) s = .next (s.answered src .accept .refusedSequence refused))
    ∧ (fits → s.fire.state.sealed = true →
      exec (.accept src .courierPost batch) s = .next (s.answered src .accept .zoneHeld (.fireState s.fire.state)))
    ∧ (fits → s.fire.state.sealed = false → h.locks.inner = false →
      ∀ d, h.direction = some d →
      exec (.accept src .courierPost batch) s
        = .next (State.answered
            { s with
              hatch := { h with
                startTally := .no, locks := ⟨false, true⟩
                windows := { h.windows with outer := some (s.clock.localTime + 30000) } }
              outputs := { s.outputs with
                out1 := ⟨.drivenOn, if s.startUp.settings.fitted.getLsbD 1 then .drivenOn else .released⟩ }
              bus := s.bus.notified (src :: h.console.toList) .outerUnlocked d batch.toNat .retrieve none }
            src .accept .done .nothing))

/-- While a handover is open: the exact repeat of the last accepted step is answered DONE and changes nothing; a
WITHDRAW for the batch from a participant is answered DONE and abandons the handover as WITHDRAWN; a PRESENT that is no
repeat, a WITHDRAW from another station or for another batch, an ATTEST of a wrong batch or count or in a stage that
does not expect it, and an ACCEPT of a wrong batch, from a wrong station or in such a stage are refused REFUSED_SEQUENCE
and abandon the handover as SEQUENCE (R123, R124, R125). Four things here are the model's choice: that REFUSED_SEQUENCE
carries the state and stage after the request and that the notices follow the reply (log 31), that they follow the
frames of the evaluation at the end of a purge request (log 47), and that INNER_RELEASE with its leaf open keeps its
state (`AbandonedTo`, log 26). -/
def Obligations.OpenHandoversAreTested : Prop :=
  ∀ (s : State) (src : Station) (batch courier : BitVec 16) (count dir : Byte), s.takesFrom src →
    s.startUp.defaulted = false → s.hatch.handoverOpen = true → batch ≠ 0 → courier ≠ 0 →
    1 ≤ count.toNat → count.toNat ≤ 8 → dir.toNat ≤ 1 →
    let h := s.hatch
    let repeated (k : StepKind) : Prop := h.lastStep = some ⟨k, src, batch.toNat⟩
    let people := h.courierPost.toList ++ h.console.toList
    let abandoned (outcome : Host.Outcome State Fault Refusal) (reply : TxFrame) (cause : Cause) : Prop :=
      ∃ t, outcome = .next t ∧ s.toPart.AbandonedTo t.toPart
        ∧ (∀ d, h.direction = some d → ∀ b, h.batch = some b →
            t.bus = ((s.bus.handed reply).evaluated s.toPart t.toPart).notified people .abandoned d b t.hatch.state
              (some cause))
        ∧ t = { s with
            hatch := t.hatch, custody := t.custody, climate := t.climate, outputs := t.outputs, bus := t.bus }
    let present := exec (.present src .courierPost dir batch count courier) s
    (repeated .present → present = .next (s.answered src .present .done .nothing))
    ∧ (repeated .attest → exec (.attest src .console batch count) s = .next (s.answered src .attest .done .nothing))
    ∧ (repeated .accept → exec (.accept src .courierPost batch) s = .next (s.answered src .accept .done .nothing))
    ∧ (¬ repeated .withdraw → ∀ role, role = .courierPost ∨ role = .console →
      let outcome := exec (.withdraw src role batch) s
      (h.batch = some batch.toNat → src ∈ people →
        abandoned outcome (replyFrame src .withdraw .done .nothing) .withdrawn)
      ∧ (h.batch ≠ some batch.toNat ∨ src ∉ people → ∃ t, outcome = .next t
        ∧ abandoned outcome (replyFrame src .withdraw .refusedSequence (.hatchAndStage t.hatch.state t.hatch.stage))
          .sequence))
    ∧ (¬ repeated .present → ∃ t, present = .next t
      ∧ abandoned present (replyFrame src .present .refusedSequence (.hatchAndStage t.hatch.state t.hatch.stage))
        .sequence)
    ∧ (¬ repeated .attest → h.batch ≠ some batch.toNat ∨ h.declared ≠ some count.toNat
        ∨ ¬(h.direction = some .out ∧ h.stage = .presented ∨ h.direction = some .inward ∧ h.stage = .tallied) →
      let outcome := exec (.attest src .console batch count) s
      ∃ t, outcome = .next t
        ∧ abandoned outcome (replyFrame src .attest .refusedSequence (.hatchAndStage t.hatch.state t.hatch.stage))
          .sequence)
    ∧ (¬ repeated .accept → h.batch ≠ some batch.toNat ∨ h.courierPost ≠ some src
        ∨ ¬(h.direction = some .out ∧ h.stage = .attested) →
      let outcome := exec (.accept src .courierPost batch) s
      ∃ t, outcome = .next t
        ∧ abandoned outcome (replyFrame src .accept .refusedSequence (.hatchAndStage t.hatch.state t.hatch.stage))
          .sequence)

/-! ## Hatch: leaves, windows, timeouts, locks -/

/-- A leaf's switch taken at the acceptance of a changed or first level. Closed: its lock goes off and its window ends,
and a tally of 2 s starts when the other leaf is closed, with the closing leaf as tally leaf unless a start retained
one. Open with the lock on: a normal access. Open with the lock off: forced, with LEAF_FORCED, the tally and the return
state discarded, the other leaf locked at its request and its output, and the access state of the leaf (R115, R116,
R117, R141). A forcing abandons an open handover as FORCED_LEAF: both locks off, windows, step timeout and last step
removed, the stage of R125 step 4, no record changed, the batch's context kept, and ABANDONED to each participant (R116,
R125). Five things here are the model's choice: that the tally leaf becomes absent where the tally is discarded or the
leaf is forced (log 29), that an opening under its lock during a tally discards it (log 30), that the inbound PRESENTED
context of an unopened outer leaf is cleared by the abandonment that a forced inner leaf brings (log 37), that a first
accepted level of open whose lock a request has put on is a normal access and no forcing (R116, R141; log 52), and that
the notices follow the frames of the evaluation at the purge request's end (log 47). -/
def Obligations.LeavesAct : Prop :=
  ∀ (s : State) (l : Leaf), s.ready →
    let i := match l with | .inner => InputId.in0 | .outer => InputId.in1
    let other := match l with | .inner => Leaf.outer | .outer => Leaf.inner
    let otherInput := match l with | .inner => InputId.in1 | .outer => InputId.in0
    let access := match l with | .inner => HatchState.innerAccess | .outer => HatchState.outerAccess
    let h := s.hatch
    ∀ high, (s.inputs.get i).pendingLevel = some high →
    ∀ e, (s.inputs.get i).holdExpiry = some e → e ≤ s.clock.localTime →
    let closed := high != s.startUp.settings.polarity.getLsbD (inputNumber i)
    (s.inputs.get i).accepted ≠ some closed →
    let off (n : Nat) : DigitalOutput :=
      ⟨.drivenOff, if s.startUp.settings.fitted.getLsbD n then .drivenOff else .released⟩
    let locked : Leaf → OutputDriver
      | .inner => { s.outputs with out0 := off 0 }
      | .outer => { s.outputs with out1 := off 1 }
    ∃ t, exec (.inputHoldExpiry i) s = .next t
      ∧ (closed = true →
          let shut := { h with windows := h.windows.set l none, locks := h.locks.set l false }
          t = { s with inputs := t.inputs, hatch := t.hatch, outputs := locked l }
          ∧ ((s.inputs.get otherInput).accepted ≠ some true → t.hatch = shut)
          ∧ ((s.inputs.get otherInput).accepted = some true →
              t.hatch = { shut with
                tallyEnd := some (s.clock.localTime + 2000), state := .tallying
                tallyLeaf := if h.startTally = .retained then h.tallyLeaf else some l }))
      ∧ (closed = false → h.locks.get l = true → h.tallyEnd = none →
          t.hatch = { h with
              windows := h.windows.set l none, returnState := if l = .inner then none else h.returnState }
          ∧ t = { s with inputs := t.inputs, hatch := t.hatch })
      ∧ (closed = false → h.locks.get l = true → h.tallyEnd ≠ none →
          t.hatch = { h with
              windows := h.windows.set l none, returnState := if l = .inner then none else h.returnState
              tallyEnd := none, tallyLeaf := none, state := access, backupState := access }
          ∧ t = { s with inputs := t.inputs, hatch := t.hatch })
      ∧ (closed = false → h.locks.get l = false → h.handoverOpen = false →
          t.hatch = { h with
              leafForced := true, tallyEnd := none, tallyLeaf := none, returnState := none
              locks := h.locks.set other false, windows := h.windows.set other none
              startTally := if h.startTally = .no then .no else .forced, state := access, backupState := access }
          ∧ t = { s with inputs := t.inputs, hatch := t.hatch, outputs := locked other })
      ∧ (closed = false → h.locks.get l = false → h.handoverOpen = true →
          let k := t.hatch
          let cleared := l = .inner ∧ h.state = .outerAccess ∧ s.inputs.in1.accepted ≠ some false
            ∧ h.direction = some .inward ∧ h.stage = .presented
          k.leafForced = true ∧ k.state = access ∧ k.backupState = access
          ∧ k.handoverOpen = false ∧ k.lastStep = none ∧ k.stepTimeout = none ∧ k.returnState = none
          ∧ k.tallyEnd = none ∧ k.tallyLeaf = none ∧ k.tallyList = h.tallyList
          ∧ k.locks = ⟨false, false⟩ ∧ k.windows = ⟨none, none⟩
          ∧ t.outputs.out0 = off 0 ∧ t.outputs.out1 = off 1 ∧ t.outputs.out2 = s.outputs.out2
          ∧ t.outputs.out3 = s.outputs.out3 ∧ t.outputs.out4 = s.outputs.out4
          ∧ k.stage = (if h.holdsInbound then .tallied else .none)
          ∧ (h.holdsInbound = true → k.purgeRequest = false) ∧ k.dose = h.dose ∧ k.excess = h.excess
          ∧ t.custody = (if h.direction = some .inward ∧ h.stage = .presented
              then { s.custody with held := 0 } else s.custody)
          ∧ (¬ cleared → k.direction = h.direction ∧ k.batch = h.batch ∧ k.courier = h.courier
              ∧ k.courierPost = h.courierPost ∧ k.console = h.console ∧ k.declared = h.declared)
          ∧ (cleared → k.direction = none ∧ k.batch = none ∧ k.courierPost = none)
          ∧ (∀ d, h.direction = some d → ∀ b, h.batch = some b →
              t.bus = (s.bus.evaluated s.toPart t.toPart).notified (h.courierPost.toList ++ h.console.toList) .abandoned
                d b access (some .forcedLeaf))
          ∧ t = { s with
              inputs := t.inputs, hatch := t.hatch, custody := t.custody, climate := t.climate, outputs := t.outputs
              bus := t.bus })

/-- An unlock window that runs out relocks its leaf. In INNER_ACCESS the hatch returns to its return state; in
OUTER_ACCESS an open handover is abandoned as WINDOW_EXPIRED with its notices; in the other states the hatch state stays
(R115, R119, R128, R130, R132, R135). A step timeout that runs out abandons the open handover as TIMEOUT, with one
notice to each participant (R124, R125). Two things here are the model's choice: that INNER_RELEASE with its leaf open
keeps its state (log 26), and that the notices follow the frames of the evaluation at the end of a purge request (log
47). -/
def Obligations.HatchTimersRunOut : Prop :=
  (∀ (s : State) (l : Leaf), s.ready → ∀ e, s.hatch.windows.get l = some e → e ≤ s.clock.localTime →
    let h := s.hatch
    let locked := { h with locks := h.locks.set l false, windows := h.windows.set l none }
    let off (n : Nat) : DigitalOutput :=
      ⟨.drivenOff, if s.startUp.settings.fitted.getLsbD n then .drivenOff else .released⟩
    let outputs := match l with
      | .inner => { s.outputs with out0 := off 0 } | .outer => { s.outputs with out1 := off 1 }
    ∃ t, exec (.unlockWindowExpiry l) s = .next t
      ∧ (l = .inner → h.state = .innerAccess → ∀ r, h.returnState = some r → r ≠ .tallying →
          t = { s with outputs := outputs, hatch := { locked with state := r, backupState := r, returnState := none } })
      ∧ (l = .inner → h.state ≠ .innerAccess → t = { s with outputs := outputs, hatch := locked })
      ∧ (l = .outer → h.state ≠ .outerAccess ∨ h.handoverOpen = false →
          t = { s with outputs := outputs, hatch := locked })
      ∧ (l = .outer → h.state = .outerAccess → h.handoverOpen = true →
          s.toPart.AbandonedTo t.toPart
          ∧ (∀ d, h.direction = some d → ∀ b, h.batch = some b →
              t.bus = (s.bus.evaluated s.toPart t.toPart).notified (h.courierPost.toList ++ h.console.toList) .abandoned
                d b t.hatch.state (some .windowExpired))
          ∧ t = { s with
              hatch := t.hatch, custody := t.custody, climate := t.climate, outputs := t.outputs, bus := t.bus }))
  ∧ ∀ s : State, s.ready → ∀ e, s.hatch.stepTimeout = some e → e ≤ s.clock.localTime → s.hatch.handoverOpen = true →
    let h := s.hatch
    ∃ t, exec .stepTimeoutExpiry s = .next t ∧ s.toPart.AbandonedTo t.toPart
      ∧ (∀ d, h.direction = some d → ∀ b, h.batch = some b →
          t.bus = (s.bus.evaluated s.toPart t.toPart).notified (h.courierPost.toList ++ h.console.toList) .abandoned d b
            t.hatch.state (some .timeout))
      ∧ t = { s with
          hatch := t.hatch, custody := t.custody, climate := t.climate, outputs := t.outputs, bus := t.bus }

/-- Every step keeps `LocksSafe`: the lock releases are never on together, and neither is on in PRE_DISCHARGE,
DISCHARGED, HOLD or SPENT, at the requests and at the outputs (R114). When any command takes the zone from QUIET or
ALERT into PRE_DISCHARGE or beyond, both locks are off, no unlock window runs, and no handover is open. An open handover
is abandoned by R125 with cause FIRE, and its participants hear it. Without one, INNER_ACCESS with its leaf closed takes
its return state; OUTER_ACCESS with its leaf closed becomes STAGED with direction OUT, RETRIEVE with direction IN, and
with none what the staging tally of the tally list gives; every other state, and an access whose leaf is not closed,
stays; a tally in flight runs on (R126). Where an open handover in INNER_RELEASE finds its leaf open it keeps its state,
which is the model's choice (`AbandonedTo`, log 26). -/
def Obligations.LockLawIsKept : Prop :=
  (∀ s : State, s.toPart.LocksSafe → ∀ t, step s = .next t → t.toPart.LocksSafe)
  ∧ (∀ (c : Instr) (s : State), s.fire.state.sealed = false → ∀ t, exec c s = .next t → t.fire.state.sealed = true →
    t.hatch.locks = ⟨false, false⟩ ∧ t.hatch.windows = ⟨none, none⟩ ∧ t.hatch.handoverOpen = false
      ∧ t.outputs.out0.request = .drivenOff ∧ t.outputs.out1.request = .drivenOff
      ∧ (s.hatch.handoverOpen = true → t.hatch.purgeRequest = false ∨ s.hatch.holdsInbound = false))
  ∧ ∀ (c : Instr) (s : State), s.ready → s.fire.state.sealed = false → ∀ t, exec c s = .next t →
    t.fire.state.sealed = true →
    let h := s.hatch
    let kept := t.custody = s.custody ∧ t.hatch.stage = h.stage ∧ t.hatch.batch = h.batch
      ∧ t.hatch.direction = h.direction
    let innerClosed := s.inputs.in0.accepted = some true
    let outerClosed := s.inputs.in1.accepted = some true
    t.hatch.tallyEnd = h.tallyEnd ∧ t.hatch.tallyList = h.tallyList
    ∧ (h.handoverOpen = true → s.toPart.AbandonedTo t.toPart
      ∧ (s.bus.queue.length ≤ 4 → s.bus.station ≠ none → ∀ d, h.direction = some d → ∀ b, h.batch = some b →
          ∀ x ∈ h.courierPost.toList ++ h.console.toList,
            noticeFrame x .abandoned d b t.hatch.state (some .fire) ∈ t.bus.queue))
    ∧ (h.handoverOpen = false →
      (h.state ≠ .innerAccess → h.state ≠ .outerAccess → t.hatch.state = h.state ∧ kept)
      ∧ (h.state = .innerAccess → kept
        ∧ (innerClosed → ∀ r, h.returnState = some r → t.hatch.state = r ∧ t.hatch.returnState = none)
        ∧ (¬ innerClosed → t.hatch.state = .innerAccess ∧ t.hatch.returnState = h.returnState))
      ∧ (h.state = .outerAccess → ¬ outerClosed → t.hatch.state = .outerAccess ∧ kept)
      ∧ (h.state = .outerAccess → outerClosed →
        (h.direction = some .out → t.hatch.state = .staged ∧ kept)
        ∧ (h.direction = some .inward → t.hatch.state = .retrieve ∧ kept)
        ∧ (h.direction = none → ∀ report, h.tallyList = some report →
            let staged := s.toPart.stagingTally report
            t.custody = staged.custody ∧ t.hatch.state = staged.hatch.state ∧ t.hatch.batch = staged.hatch.batch
              ∧ t.hatch.direction = staged.hatch.direction)))

/-! ## Hatch: tallies -/

/-- Which outcome a tally has: Table 7-3 by tally leaf, direction and stage; the table of R141 for the tally after a
warm start or a restart, by the retained hatch state; combinations the tables leave out are not stated (log 29). The
retrieve tally changes no record: an empty chamber clears the context and gives EMPTY; any other list, and OVERFULL,
gives RETRIEVE, and the outer leaf is unlocked again with OUTER_UNLOCKED to the courier-post station. After a start, in
a sealed fire state, or with the inner lock released, RETRIEVE is entered with the leaf left locked and no notice (R114,
R132, R141). The held-batch tally gives RECEIVED, whatever the report, and changes nothing else (R138). Three things
here are the model's choice: that the tally leaf becomes absent once its tally has completed (log 29), that the first
tally after a cold start is the staging tally of R139 only where the context is still that of the start, and has its row
of Table 7-3, and may unlock, where an OPEN_INNER or PRESENT IN was taken first (R139, R141; log 52), and that the tally
after a warm start or a restart takes the row of the access state also where the tally leaf is the other leaf (both had
been open; log 51). -/
def Obligations.TallyOutcomesAndHeldTallies : Prop :=
  (∀ h : HatchContext,
    let leaf := h.tallyLeaf.getD .inner
    (h.startTally = .no →
      (h.direction ≠ some .inward → leaf = .inner → h.outcome = .staging)
      ∧ (h.direction = some .out → leaf = .outer → h.outcome = .departure)
      ∧ (h.direction = none → leaf = .outer → h.outcome = .staging)
      ∧ (h.direction = some .inward →
        (h.stage = .none → h.outcome = .retrieve)
        ∧ (h.stage = .tallied ∨ h.stage = .attested → leaf = .inner → h.outcome = .release)
        ∧ (h.stage = .tallied ∨ h.stage = .attested → leaf = .outer → h.outcome = .heldBatch)
        ∧ (h.stage = .presented → leaf = .outer → h.outcome = .comparison)))
    ∧ (h.startTally ≠ .no →
      (h.backupState = .empty ∨ h.backupState = .staged ∨ h.backupState = .irregular → h.outcome = .staging)
      ∧ (h.backupState = .innerAccess → h.direction ≠ some .inward → h.outcome = .staging)
      ∧ (h.backupState = .outerAccess → h.direction = none → h.outcome = .staging)
      ∧ (h.backupState = .outerAccess → h.direction = some .out → h.outcome = .departure)
      ∧ (h.backupState = .retrieve → h.outcome = .retrieve)
      ∧ (h.backupState = .outerAccess → h.direction = some .inward → h.stage = .none → h.outcome = .retrieve)
      ∧ (h.backupState = .received ∨ h.backupState = .purging → h.outcome = .heldBatch)
      ∧ (h.backupState = .outerAccess → h.direction = some .inward → h.stage = .tallied → h.outcome = .heldBatch)
      ∧ (h.backupState = .innerRelease → h.outcome = .release)
      ∧ (h.backupState = .innerAccess → h.direction = some .inward → h.outcome = .release)))
  ∧ ∀ (s : State) (report : TagReport), s.ready → ∀ e, s.hatch.tallyEnd = some e → e ≤ s.clock.localTime →
    reportAsRead report = true →
    let h := s.hatch
    let done := { h with tallyEnd := none, tallyLeaf := none, tallyList := some report, startTally := .no }
    let withheld := h.startTally ≠ .no ∨ s.fire.state.sealed = true ∨ h.locks.inner = true
    ∃ t, exec (.tallyEnd report) s = .next t
      ∧ (h.outcome = .heldBatch →
          t = { s with hatch := { done with state := .received, backupState := .received } })
      ∧ (h.outcome = .retrieve → report = .labels [] →
          t = { s with hatch := { done with
            state := .empty, backupState := .empty, direction := none, batch := none, declared := none
            courier := none, courierPost := none, console := none } })
      ∧ (h.outcome = .retrieve → report ≠ .labels [] → ¬ withheld →
          ∀ b, h.batch = some b → ∀ d, h.direction = some d →
          t = { s with
            hatch := { done with
              state := .retrieve, backupState := .retrieve, locks := ⟨false, true⟩
              windows := { h.windows with outer := some (s.clock.localTime + 30000) } }
            outputs := { s.outputs with
              out1 := ⟨.drivenOn, if s.startUp.settings.fitted.getLsbD 1 then .drivenOn else .released⟩ }
            bus := s.bus.notified h.courierPost.toList .outerUnlocked d b .retrieve none })
      ∧ (h.outcome = .retrieve → report ≠ .labels [] → withheld →
          t = { s with hatch := { done with state := .retrieve, backupState := .retrieve } })

/-- The outbound staging tally. Of a list of at most eight labels: staged records of the batch that are gone return to
RESERVED; an empty chamber clears the batch and gives EMPTY; a valid list stages every present RESERVED record under the
batch number, a new one if none is held, and gives STAGED; an invalid list keeps the batch only while staged records of
it are present, and gives IRREGULAR. OVERFULL gives IRREGULAR too; that it finds no label gone, so that every record and
a batch with staged records stay, is the model's choice (log 24). Nothing else of custody and no other block changes
(R94, R105, R120). -/
def Obligations.StagingTally : Prop :=
  ∀ s : State, s.ready → ∀ e, s.hatch.tallyEnd = some e → e ≤ s.clock.localTime → s.hatch.outcome = .staging →
    let h := s.hatch
    let rs := s.custody.records
    let inBatch (r : CustodyRecord) : Prop := r.state = .stagedOut ∧ h.batch ≠ none ∧ r.batch = h.batch
    let taken (t : State) (report : TagReport) : Prop :=
      t = { s with hatch := t.hatch, custody := t.custody }
      ∧ t.hatch.tallyEnd = none ∧ t.hatch.tallyList = some report ∧ t.hatch.startTally = .no
    let irregular (t : State) (stays : CustodyRecord → Prop) : Prop :=
      t.hatch.state = .irregular
      ∧ ((∃ r ∈ rs, inBatch r ∧ stays r) → t.hatch.batch = h.batch ∧ t.hatch.direction = some .out)
      ∧ ((∀ r ∈ rs, ¬(inBatch r ∧ stays r)) → t.hatch.batch = none ∧ t.hatch.direction = none)
    (∀ ls : List Label, ls.Nodup → ls.length ≤ 8 →
      let back (r : CustodyRecord) : CustodyRecord :=
        if inBatch r ∧ r.label ∉ ls then { r with state := .reserved, batch := none, revision := r.revision + 1 }
        else r
      let stageable (l : Label) : Bool := (rs.find? fun r => r.label == l).any fun r =>
        decide (r.state = .reserved ∨ inBatch r)
      let next := if s.custody.batchCounter = 65535 then 1 else s.custody.batchCounter + 1
      let number := h.batch.getD next
      ∃ t, exec (.tallyEnd (.labels ls)) s = .next t ∧ taken t (.labels ls)
        ∧ (ls = [] →
            t.custody = { s.custody with records := rs.map back }
            ∧ t.hatch.state = .empty ∧ t.hatch.batch = none ∧ t.hatch.direction = none)
        ∧ (ls ≠ [] → ls.all stageable = true →
            t.custody = { s.custody with
              batchCounter := if h.batch = none then next else s.custody.batchCounter
              records := rs.map fun r =>
                if r.state = .reserved ∧ r.label ∈ ls then
                  { r with state := .stagedOut, batch := some number, revision := r.revision + 1 }
                else back r }
            ∧ t.hatch.state = .staged ∧ t.hatch.batch = some number ∧ t.hatch.direction = some .out)
        ∧ (ls ≠ [] → ls.all stageable = false →
            t.custody = { s.custody with records := rs.map back } ∧ irregular t (fun r => r.label ∈ ls)))
    ∧ ∃ t, exec (.tallyEnd .overfull) s = .next t ∧ taken t .overfull
      ∧ t.custody = s.custody ∧ irregular t (fun _ => True)

/-- The departure tally: staged records of the batch that are gone become ON_LOAN with the courier, the loan start now
and the due minute one loan length later; with none left the batch is done and the state follows from the list,
otherwise the batch stays. A handover in ACCEPTED completes: it closes, its participants are cleared and hear COMPLETE;
without one no notice goes out (R106, R129). After OVERFULL the state is IRREGULAR and a completion is as before; that
no record leaves then, so that a batch with staged records stays, is the model's choice (log 24). -/
def Obligations.DepartureTally : Prop :=
  ∀ s : State, s.ready → ∀ e, s.hatch.tallyEnd = some e → e ≤ s.clock.localTime → s.hatch.outcome = .departure →
    let h := s.hatch
    let rs := s.custody.records
    let inBatch (r : CustodyRecord) : Prop := r.state = .stagedOut ∧ h.batch ≠ none ∧ r.batch = h.batch
    let due (r : CustodyRecord) : Minute := min 4294967295 (s.clock.minute + r.loanLength.getD 0)
    let completes := h.handoverOpen = true ∧ h.stage = .accepted
    let departs (t : State) (stays : CustodyRecord → Prop) (done kept : HatchState) : Prop :=
      t = { s with hatch := t.hatch, custody := t.custody, bus := t.bus }
      ∧ ((∀ r ∈ rs, ¬(inBatch r ∧ stays r)) →
          t.hatch.batch = none ∧ t.hatch.direction = none ∧ t.hatch.state = done)
      ∧ ((∃ r ∈ rs, inBatch r ∧ stays r) →
          t.hatch.batch = h.batch ∧ t.hatch.direction = h.direction ∧ t.hatch.state = kept)
      ∧ (completes →
          t.hatch.handoverOpen = false ∧ t.hatch.stage = .none ∧ t.hatch.courier = none
          ∧ t.hatch.courierPost = none ∧ t.hatch.console = none ∧ t.hatch.declared = none
          ∧ ∀ b, h.batch = some b → ∀ d, h.direction = some d →
              t.bus = s.bus.notified (h.courierPost.toList ++ h.console.toList) .complete d b t.hatch.state none)
      ∧ (¬ completes → t.bus = s.bus ∧ t.hatch.handoverOpen = h.handoverOpen ∧ t.hatch.stage = h.stage)
    (∀ ls : List Label, ls.Nodup → ls.length ≤ 8 →
      let leaves (r : CustodyRecord) : CustodyRecord :=
        if inBatch r ∧ r.label ∉ ls then
          { r with
            state := .onLoan, courier := some (h.courier.getD 0), loanStart := some s.clock.minute
            due := some (due r), overdue := decide (due r ≤ s.clock.minute), batch := none
            revision := r.revision + 1 }
        else r
      ∃ t, exec (.tallyEnd (.labels ls)) s = .next t
        ∧ t.custody = { s.custody with records := rs.map leaves }
        ∧ departs t (fun r => r.label ∈ ls) (if ls = [] then .empty else .irregular)
            (if ls.all (fun l => (rs.find? fun r => r.label == l).any fun r => decide (inBatch r)) then .staged
              else .irregular))
    ∧ ∃ t, exec (.tallyEnd .overfull) s = .next t
      ∧ t.custody = s.custody ∧ departs t (fun _ => True) .irregular .irregular

/-- The comparison tally. It matches when the labels are as many as declared and each is ON_LOAN or unknown: loans
return and unknown labels become foreign records at the end, all STAGED_IN under the batch and courier; the hold is
consumed, the excess at return is taken from the last hand-off, dose and purge counts start at 0, and the hatch is
RECEIVED in stage TALLIED with the step timeout running. Otherwise, and at OVERFULL, no record changes, the hold is
released, the handover is closed as MISMATCH and the outer leaf is unlocked for the courier in RETRIEVE (R107, R131,
R132, which gives ABANDONED before OUTER_UNLOCKED). Three things here are the model's choice: that foreign records come
in the order of the list (log 42), that the first tally after a cold start is one, and may unlock the outer leaf, where
a PRESENT IN was taken before the leaves were accepted (R139, R141; log 52), and that the tally leaf becomes absent once
the tally has completed (log 29). -/
def Obligations.ComparisonTally : Prop :=
  ∀ s : State, s.ready → ∀ e, s.hatch.tallyEnd = some e → e ≤ s.clock.localTime →
    s.hatch.outcome = .comparison → s.hatch.startTally = .no →
    s.hatch.state = .tallying → s.hatch.handoverOpen = true → s.hatch.stage = .presented →
    s.hatch.direction = some .inward → ∀ b, s.hatch.batch = some b →
    let h := s.hatch
    let rs := s.custody.records
    let now := s.clock.minute
    let known (l : Label) : Option CustodyRecord := rs.find? fun r => r.label == l
    let foreign (l : Label) : CustodyRecord :=
      { label := l, state := .stagedIn, revision := 0, foreign := true, overdue := false, batch := some b
        courier := h.courier, reserveMinute := now, loanLength := none, loanStart := none, due := none
        returnMinute := some now, dwellEnd := none }
    let mismatches (t : State) : Prop :=
      t = { s with hatch := t.hatch, custody := t.custody, outputs := t.outputs, bus := t.bus }
      ∧ t.custody = { s.custody with held := 0 }
      ∧ t.hatch.state = .retrieve ∧ t.hatch.stage = .none ∧ t.hatch.handoverOpen = false
      ∧ t.hatch.batch = some b ∧ t.hatch.direction = some .inward ∧ t.hatch.courier = h.courier
      ∧ t.hatch.courierPost = h.courierPost
      ∧ (s.fire.state.sealed = false →
          t.hatch.locks = ⟨false, true⟩ ∧ t.hatch.windows = ⟨none, some (s.clock.localTime + 30000)⟩
          ∧ t.outputs.out1.request = .drivenOn
          ∧ t.bus = (s.bus.notified (h.courierPost.toList ++ h.console.toList) .abandoned .inward b .retrieve
                (some .mismatch)).notified h.courierPost.toList .outerUnlocked .inward b .retrieve none)
    (∀ ls : List Label, ls.Nodup → ls.length ≤ 8 →
      let matching := h.declared = some ls.length ∧ ∀ l ∈ ls, ∀ r, known l = some r → r.state = .onLoan
      ∃ t, exec (.tallyEnd (.labels ls)) s = .next t
        ∧ (matching →
            t = { s with hatch := t.hatch, custody := t.custody }
            ∧ t.custody = { s.custody with
                held := 0
                records := (rs.map fun r =>
                    if r.state = .onLoan ∧ r.label ∈ ls then
                      { r with
                        state := .stagedIn, returnMinute := some now, batch := some b, courier := h.courier
                        overdue := false, revision := r.revision + 1 }
                    else r)
                  ++ (ls.filter fun l => (known l).isNone).map foreign }
            ∧ t.hatch = { h with
                tallyEnd := none, tallyLeaf := none, tallyList := some (.labels ls), dose := 0, purgeTime := 0
                toleranceRun := 0, stage := .tallied, state := .received, backupState := .received
                stepTimeout := some (s.clock.localTime + s.startUp.settings.stepTimeout * 1000)
                excess := some (match h.handedChamber, h.handedStore with
                  | some c, some m => .available (c - m) | _, _ => .unavailable) })
        ∧ (¬ matching → mismatches t))
    ∧ ∃ t, exec (.tallyEnd .overfull) s = .next t ∧ mismatches t

/-- The release tally: STAGED_IN records of the batch that are gone become ACCLIMATISING, each with its dwell from hours
out, excess and dose; DWELL_CAPPED is raised when a sum of such a record passed the cap, NO_CHAMBER_READING when the
excess is unavailable and at least one record leaves. With batch labels left the inner leaf is unlocked again under an
open handover, otherwise, as after every start, the state is RECEIVED and no leaf is unlocked. With none left the
context is cleared, the dose is 0, an open handover hears COMPLETE, and the state is EMPTY when the chamber is, and else
what the staging tally of the same list gives (R108, R136, R141, R144, R145, R146). Four things here are the model's
choice: that no record leaves at OVERFULL, which with no batch label left gives IRREGULAR (log 24); that a start tally
with no batch label left gives other labels to the staging tally too (log 28); that a release tally at which no record
leaves, OVERFULL among them, raises no NO_CHAMBER_READING, where Table 8-1 and Case 5 of chapter 8 read otherwise than
R145 and R146 (log 49); and that the tally leaf becomes absent once the tally has completed (log 29). -/
def Obligations.ReleaseTally : Prop :=
  ∀ s : State, s.ready → ∀ e, s.hatch.tallyEnd = some e → e ≤ s.clock.localTime →
    s.hatch.outcome = .release →
    ∀ b, s.hatch.batch = some b → s.hatch.direction = some .inward →
    let h := s.hatch
    let rs := s.custody.records
    let cfg := s.startUp.settings
    let people := h.courierPost.toList ++ h.console.toList
    let inBatch (r : CustodyRecord) : Prop := r.state = .stagedIn ∧ r.batch = some b
    let hours (r : CustodyRecord) : Nat :=
      match r.loanStart with | some m => min 720 ((r.returnMinute.getD 0 - m) / 60) | none => 720
    let sum (x : Nat) (r : CustodyRecord) : Nat := cfg.dwellBase + hours r * x / 256 + h.dose / 64
    let dwell (r : CustodyRecord) : Nat :=
      match h.excess with | some (.available x) => min cfg.dwellCap (sum x r) | _ => cfg.dwellCap
    let released (t : State) (stays : CustodyRecord → Prop) : Prop :=
      let left := ∃ r ∈ rs, inBatch r ∧ stays r
      t.hatch.startTally = .no
      ∧ t = { s with
          hatch := t.hatch, custody := t.custody, exceptions := t.exceptions, outputs := t.outputs, bus := t.bus }
      ∧ (left → h.handoverOpen = false → t.hatch.state = .received ∧ t.bus = s.bus ∧ t.outputs = s.outputs ∧ t.hatch.locks = h.locks)
      ∧ (left → h.handoverOpen = true → h.startTally = .no → s.fire.state.sealed = false → h.locks.outer = false →
          t.hatch.state = .innerRelease ∧ t.hatch.locks = ⟨true, false⟩
          ∧ t.hatch.windows.inner = some (s.clock.localTime + 30000) ∧ t.outputs.out0.request = .drivenOn
          ∧ t.bus = s.bus.notified people .innerUnlocked .inward b .innerRelease none)
      ∧ (¬ left →
          t.hatch.stage = .none ∧ t.hatch.handoverOpen = false ∧ t.hatch.excess = none ∧ t.hatch.dose = 0
          ∧ t.hatch.lastStep = none ∧ t.hatch.courierPost = none ∧ t.hatch.console = none ∧ t.hatch.courier = none
          ∧ t.hatch.declared = none ∧ t.outputs = s.outputs ∧ t.hatch.locks = h.locks
          ∧ t.bus = if h.handoverOpen then s.bus.notified people .complete .inward b t.hatch.state none else s.bus)
    (∀ ls : List Label, ls.Nodup → ls.length ≤ 8 →
      let rests (r : CustodyRecord) : CustodyRecord :=
        if inBatch r ∧ r.label ∉ ls then
          { r with
            state := .acclimatising, dwellEnd := some (min 4294967295 (s.clock.minute + dwell r)), batch := none
            revision := r.revision + 1 }
        else r
      let leaving := rs.filter fun r => inBatch r ∧ r.label ∉ ls
      let left := ∃ r ∈ rs, inBatch r ∧ r.label ∈ ls
      let resting : CustodyTable := { s.custody with records := rs.map rests }
      ∃ t, exec (.tallyEnd (.labels ls)) s = .next t
        ∧ released t (fun r => r.label ∈ ls)
        ∧ (left ∨ ls = [] → t.custody = resting)
        ∧ (t.exceptions.flags.dwellCapped = true ↔ s.exceptions.flags.dwellCapped = true
            ∨ ∃ r ∈ leaving,
                (match h.excess with | some (.available x) => decide (cfg.dwellCap < sum x r) | _ => false) = true)
        ∧ (t.exceptions.flags.noChamberReading = true ↔ s.exceptions.flags.noChamberReading = true
            ∨ leaving ≠ [] ∧ (match h.excess with | some (.available _) => false | _ => true) = true)
        ∧ (¬ left → ls = [] → t.hatch.state = .empty ∧ t.hatch.direction = none ∧ t.hatch.batch = none)
        ∧ (¬ left → ls ≠ [] →
            let cleared : Part := (s.toPart.withCustody resting).withHatch
              { h with
                tallyEnd := none, tallyList := some (.labels ls), direction := none, batch := none, declared := none
                courier := none, courierPost := none, console := none, stage := .none, handoverOpen := false
                excess := none, lastStep := none, dose := 0 }
            let staged := cleared.stagingTally (.labels ls)
            t.custody = staged.custody ∧ t.hatch = { staged.hatch with tallyLeaf := none, startTally := .no }))
    ∧ ∃ t, exec (.tallyEnd .overfull) s = .next t ∧ released t (fun _ => True)
      ∧ t.custody = s.custody ∧ t.exceptions = s.exceptions
      ∧ ((∀ r ∈ rs, ¬ inBatch r) → t.hatch.state = .irregular ∧ t.hatch.batch = none ∧ t.hatch.direction = none)

/-! ## Purge and dwell -/

/-- A purge that has run its tolerance or its time completes in the one event: the purge request ends and the air path
is evaluated, with its FIRE_STATE where DAMPER_FAULT clears and its CLIMATE content, the state is INNER_RELEASE, the
inner leaf is unlocked for 30 s with OUT0 on, both participants hear INNER_UNLOCKED, and PURGE_TIMEOUT is raised only
where the tolerance run is short of 3 (R35, R48, R134, R135). A part reaches this command only where a purge is resumed
with its run or time already at its end: that it completes then is the model's choice (log 34); elsewhere the scan or
the second that ends the purge completes it (log 14). -/
def Obligations.PurgeCompletionReleases : Prop :=
  ∀ s : State, s.ready → s.hatch.state = .purging →
    3 ≤ s.hatch.toleranceRun ∨ s.startUp.settings.purgeMax ≤ s.hatch.purgeTime →
    let h := s.hatch
    ∃ t, exec .purgeCompletion s = .next t
      ∧ t.hatch.state = .innerRelease ∧ t.hatch.purgeRequest = false
      ∧ t.hatch.stage = h.stage ∧ t.hatch.handoverOpen = h.handoverOpen ∧ t.hatch.dose = h.dose
      ∧ (3 ≤ h.toleranceRun → t.exceptions = s.exceptions)
      ∧ (h.toleranceRun < 3 → ∀ b, h.batch = some b →
          t.exceptions = s.exceptions.raise s.startUp.settings.capture ⟨.purgeTimeout, s.clock.minute, .batch b⟩)
      ∧ (h.purgeRequest = true →
          t.climate.airPath ≠ .purge ∧ t.climate = (s.toPart.withHatch t.hatch).resolveAirPath.climate)
      ∧ (h.purgeRequest = false → t.climate = s.climate)
      ∧ (s.fire.state.sealed = false → h.locks.outer = false → h.startTally = .no →
          t.hatch.locks = ⟨true, false⟩ ∧ t.hatch.windows.inner = some (s.clock.localTime + 30000)
          ∧ t.outputs.out0.request = .drivenOn
          ∧ ∀ b, h.batch = some b → ∀ d, h.direction = some d →
            t.bus = (s.bus.evaluated s.toPart t.toPart).notified (h.courierPost.toList ++ h.console.toList)
              .innerUnlocked d b .innerRelease none)
      ∧ t = { s with
          hatch := t.hatch, climate := t.climate, exceptions := t.exceptions, outputs := t.outputs, bus := t.bus }

/-- With the dwell base no greater than the cap: hours out lie from 0 to 720, a dwell lies between base and cap, is the
cap when the excess is unavailable, is the capped sum of base, hours out times excess over 256, and dose over 64
otherwise, and never falls when excess or dose rise (R144, R145, R146, R147). -/
def Obligations.DwellLiesBetweenBaseAndCap : Prop :=
  ∀ (cfg : Settings) (r : CustodyRecord), cfg.dwellBase ≤ cfg.dwellCap →
    hoursOut r ≤ 720
    ∧ (∀ excess dose, cfg.dwellBase ≤ dwellOf cfg excess dose r ∧ dwellOf cfg excess dose r ≤ cfg.dwellCap)
    ∧ (∀ dose, dwellOf cfg (some .unavailable) dose r = cfg.dwellCap)
    ∧ (∀ x dose, dwellOf cfg (some (.available x)) dose r
        = min cfg.dwellCap (cfg.dwellBase + hoursOut r * x / 256 + dose / 64))
    ∧ (∀ x y d e, x ≤ y → d ≤ e →
        dwellOf cfg (some (.available x)) d r ≤ dwellOf cfg (some (.available y)) e r)

/-! ## Bus and peers -/

/-- How a frame enters the transmit queue, from any queue in order of class: content of a coalesced kind replaces the
content of its pending frame in place; otherwise, below 8 frames, the frame enters after every frame of its class and of
an earlier one and before the later; at 8, a FIRE frame displaces the first pending ROUTINE frame, else takes the place
of the pending FIRE_STATE, else is dropped; frames of other classes are dropped (R161, R162). -/
def Obligations.FramesEnterTheQueue : Prop :=
  ∀ (f : TxFrame) (q : List TxFrame), q.Pairwise (fun x y => classCode x.cls ≤ classCode y.cls) →
    let entered (r : List TxFrame) : List TxFrame :=
      r.filter (fun x => decide (classCode x.cls ≤ classCode f.cls)) ++ f
        :: r.filter (fun x => decide (classCode f.cls < classCode x.cls))
    let absorbed := ∃ k, f.body.coalescedKind = some k ∧ ∃ x ∈ q, x.pendingOf k = true
    let routine (x : TxFrame) : Prop := x.onLine = false ∧ x.cls = .routine
    let fireState (x : TxFrame) : Prop := x.pendingOf .fireState = true
    (∀ k, f.body.coalescedKind = some k → ∀ a x b, q = a ++ x :: b → (∀ y ∈ a, y.pendingOf k = false) →
      x.pendingOf k = true → placeFrame f q = a ++ { x with body := f.body } :: b)
    ∧ (¬ absorbed →
      (q.length < 8 → placeFrame f q = entered q)
      ∧ (8 ≤ q.length → f.cls = .fire →
        (∀ a x b, q = a ++ x :: b → (∀ y ∈ a, ¬ routine y) → routine x → placeFrame f q = entered (a ++ b))
        ∧ ((∀ y ∈ q, ¬ routine y) →
          (∀ a x b, q = a ++ x :: b → (∀ y ∈ a, ¬ fireState y) → fireState x → placeFrame f q = a ++ f :: b)
          ∧ ((∀ y ∈ q, ¬ fireState y) → placeFrame f q = q)))
      ∧ (8 ≤ q.length → f.cls ≠ .fire → placeFrame f q = q))

/-- The line's events. At an idle the head goes on the line, unless a frame is on it or the part is listen-only. A frame
sent leaves the queue. Contention lost in the first nine bits, where the part sent recessive, leaves the frame pending,
or removes it when a newer frame of its coalesced kind waits; after the source field it is removed. Nothing but the
queue changes (R155, R156, R161, R167). Three things here are the model's choice: that FRAME_TRANSMIT_START with a frame
on the line changes nothing (log 19), that from the tenth bit on the named bit counts whatever the part sent there, and
that one of the first nine where the part sent dominant changes nothing (log 20). What the DONE reply of a pending
RESTART brings about by leaving the queue is in StartsFollowTheirTable. -/
def Obligations.TheLineTakesTheHead : Prop :=
  ∀ (s : State), s.ready →
    let becomes (c : Instr) (q : List TxFrame) : Prop := exec c s = .next { s with bus := { s.bus with queue := q } }
    (∀ f rest, s.bus.queue = f :: rest → s.bus.station ≠ none → (∀ x ∈ s.bus.queue, x.onLine = false) →
      becomes .frameTransmitStart ({ f with onLine := true } :: rest))
    ∧ (s.bus.queue = [] ∨ s.bus.station = none ∨ (∃ x ∈ s.bus.queue, x.onLine = true) →
      exec .frameTransmitStart s = .next s)
    ∧ ∀ a f b, s.bus.queue = a ++ f :: b → (∀ x ∈ a, x.onLine = false) → f.onLine = true →
      (s.startUp.restartDeadline = none ∨ f.restartReply = false) →
      becomes .frameSent (a ++ b)
      ∧ ∀ own, s.bus.station = some own → ∀ bit,
        let recessive := (false :: (bitsOfNumber 2 (classCode f.cls) ++ bitsOfNumber 6 own.toNat)).getD bit false = true
        let newer := ∃ k, f.body.coalescedKind = some k ∧ ∃ x ∈ s.bus.queue, x.pendingOf k = true
        (9 ≤ bit → becomes (.contentionLost bit) (a ++ b))
        ∧ (bit < 9 → recessive → newer → becomes (.contentionLost bit) (a ++ b))
        ∧ (bit < 9 → recessive → ¬ newer → becomes (.contentionLost bit) (a ++ { f with onLine := false } :: b))
        ∧ (bit < 9 → ¬ recessive → exec (.contentionLost bit) s = .next s)

/-- A frame at the part. Discarded by R157, it has no effect. Valid and no request, it updates the source's entry and
watch: role, time, SILENT cleared, the contents of a zone's broadcast, which other roles lose; a new entry is made while
there are fewer than 31, else PEER_TABLE_FULL is set. A fire state newly recorded for a configured neighbour that shows
fire confirms ALERT (R71; a delay of 0: log 14). A fire state newly recorded for a duct-group peer makes the resolver
evaluate, and a released gas shuts the duct; a frame that changes none of role, duct group and fire state leaves fire,
climate, hatch and outputs alone (R41, R42; what counts as a change: log 32). A minute carried by broadcast or to the
part raises the archive minute, never lowers it. An unknown kind addressed to the part is answered UNKNOWN_KIND (R157,
R158, R163, R165, R166, R169). Two more things here are the model's choice: that the contents of a zone's broadcast are
taken whatever station it names as destination, a third one included (log 11), and that nothing is taken of a broadcast
kind whose length does not fit (log 12). -/
def Obligations.FramesReachThePeerView : Prop :=
  ∀ (f : RxFrame) (s : State), s.ready →
    (f.crc ≠ some (computedCrc f) ∨ 40 < f.length.toNat ∨ f.source = 0#6 ∨ f.source = 63#6
        ∨ s.bus.station = some f.source → exec (.frameReceived f) s = .next s)
    ∧ (frameValid f s.bus.station = true → (s.peers.entries.map (·.station)).Nodup →
      (∀ k, kindMeaning f.cls f.kind ≠ .request k) →
      let now := s.clock.localTime
      let c := contentOf f
      let old := s.peers.entries.find? (fun e => e.station == f.source)
      let heard (e : PeerEntry) : PeerEntry :=
        let zone := decide (f.role = .zone)
        { e with
          role := f.role, lastFrame := now, silent := false
          ductGroup := if zone then c.ductGroup.orElse (fun _ => e.ductGroup) else none
          demand := if zone then (c.demand.map fun d => (d, now)).orElse (fun _ => e.demand) else none
          fireState := if zone then c.fireState.orElse (fun _ => e.fireState) else none }
      let toPart := s.bus.station = some f.dest ∨ f.dest = 63#6
      ∃ t, exec (.frameReceived f) s = .next t
        ∧ t.peers.watches = s.peers.watches.map (fun w =>
            if w.station = f.source then { w with heard := now, silent := false } else w)
        ∧ (old ≠ none → t.peers.entries = s.peers.entries.map (fun e =>
              if e.station = f.source then heard e else e) ∧ t.peers.tableFull = s.peers.tableFull)
        ∧ (old = none → s.peers.entries.length < 31 →
            t.peers.entries = s.peers.entries ++ [heard ⟨f.source, f.role, none, none, none, now, false⟩]
            ∧ t.peers.tableFull = s.peers.tableFull)
        ∧ (old = none → 31 ≤ s.peers.entries.length →
            t.peers.entries = s.peers.entries ∧ t.peers.tableFull = true)
        ∧ (let recorded := t.peers.entries.find? (fun e => e.station == f.source)
           let cfg := s.startUp.settings
           let delay := match s.occupancy with | .staffed => cfg.staffedDelay | .unstaffed => cfg.unstaffedDelay
           let paused := decide ((s.inputs.get .in3).accepted = some true)
           let is := recorded.bind (·.fireState)
           let confirms := s.fire.state = .alert ∧ f.source ∈ cfg.neighbours ∧ is ≠ old.bind (·.fireState)
             ∧ (is = some .alert ∨ is = some .preDischarge ∨ is = some .discharged ∨ is = some .hold)
           (confirms →
             if delay = 0 ∧ paused = false then s.toPart.ReleaseBegun t.toPart s.fire.alarm
             else t.fire.state = .preDischarge ∧ t.fire.countdown = some delay ∧ t.fire.paused = paused
               ∧ t.fire.alarm = s.fire.alarm
               ∧ t.outputs.out3.request = .pattern .preDischarge ∧ t.outputs.out4.request = .pattern .preDischarge)
           ∧ (¬ confirms → t.fire = s.fire)
           ∧ (∀ e, recorded = some e → e.role = .zone → e.ductGroup = some cfg.ductGroup →
               e.fireState ≠ old.bind (·.fireState) →
               e.fireState = some .discharged ∨ e.fireState = some .hold ∨ e.fireState = some .spent →
               t.climate.airPath = .shut ∧ t.climate.damper = 0 ∧ t.climate.fan = false ∧ t.climate.plant = false
               ∧ t.climate.effective = 0)
           ∧ (∀ o, old = some o → ∀ e, recorded = some e → e.role = o.role → e.ductGroup = o.ductGroup →
               (e.fireState = o.fireState →
                 t.climate = s.climate ∧ t.hatch = s.hatch ∧ t.custody = s.custody ∧ t.outputs = s.outputs)
               ∧ (¬ confirms → e.fireState ≠ o.fireState → e.role = .zone → e.ductGroup = some cfg.ductGroup →
                 let evaluated := (s.toPart.withPeers t.peers).resolveAirPath
                 t.climate = evaluated.climate ∧ t.outputs = evaluated.outputs)))
        ∧ t.clock = { s.clock with
            minute := if toPart then max s.clock.minute (c.minute.getD 0) else s.clock.minute }
        ∧ (kindMeaning f.cls f.kind = .unknown → s.bus.station = some f.dest → f.role ≠ .zone →
            (∀ e ∈ s.peers.entries, e.station = f.source → e.role = f.role ∧ e.ductGroup = none) →
            t.bus = s.bus.handed (newFrame f.cls f.source (.reply ⟨f.kind, .unknownKind, .kind f.kind⟩)))
        ∧ t = { s with
            peers := t.peers, clock := t.clock, fire := t.fire, climate := t.climate, hatch := t.hatch
            custody := t.custody, outputs := t.outputs, bus := t.bus })

/-- The part's broadcasts and notices, received by another station, are valid frames that carry byte for byte what
Tables 9-4 and 10-3 lay out: the 10 bytes of FIRE_STATE, the 3 of CLIMATE, the 24 of STATUS, the 6 of HANDOVER_NOTICE; a
peer reads from them a fire state, a duct group and demand, a fire state and minute. A REPLY without data is a valid
frame of kind 255 whose two bytes are the kind of the request and the status number, and carries nothing for a peer view
(R154, R160). And what STATUS and FIRE_STATE hold: the figures at the resolution of the occupancy (R19), the custody
counts (R109), the latches that are set and enabled (R61), each fault at its bit of Table 10-4 and no other bit (R178,
R179), and the fire sequencer's values, paused and countdown in PRE_DISCHARGE only and no alarm record in QUIET (R84).
-/
def Obligations.BroadcastsParseBack : Prop :=
  let byte (n : Nat) : Byte := BitVec.ofNat 8 n
  let word (n : Nat) : List Byte := [byte (n / 256), byte n]
  let long (n : Nat) : List Byte := [byte (n / 16777216), byte (n / 65536), byte (n / 256), byte n]
  let flags (bits : List Bool) : Byte := byte ((bits.zipIdx.map fun b => if b.1 then 2 ^ b.2 else 0).sum)
  let fire (x : FireState) : Nat := match x with
    | .quiet => 0 | .alert => 1 | .preDischarge => 2 | .discharged => 3 | .hold => 4 | .spent => 5
  let path (x : AirPath) : Nat := match x with
    | .shut => 0 | .purge => 1 | .drive => 2 | .park => 3 | .closed => 4
  let hatch (x : HatchState) : Nat := match x with
    | .empty => 0 | .innerAccess => 1 | .tallying => 2 | .staged => 3 | .irregular => 4 | .outerAccess => 5
    | .received => 6 | .purging => 7 | .innerRelease => 8 | .retrieve => 9
  let detector (x : Option Detector) : Nat := match x with
    | none => 0 | some (.number k) => k | some .multi => 8
  (∀ (own dest : Station) (other : Option Station), validStation own = true → other ≠ some own →
    let received (cls : FrameClass) (body : Body) : Option RxFrame := (newFrame cls dest body).asReceived own
    (∀ c : FireContent, ∃ f, received .fire (.fireState c) = some f ∧ frameValid f other = true
      ∧ contentOf f = ⟨none, none, some c.state, none⟩
      ∧ f.payload = [byte (fire c.state), if c.paused then 1#8 else 0#8, byte (c.countdown.getD 255),
          byte (match c.alarm.bind (·.firstLoop) with | none => 0 | some .a => 1 | some .b => 2),
          byte (detector (c.alarm.bind (·.firstDetector)))]
        ++ long ((c.alarm.map (·.minute)).getD 0)
        ++ [flags [c.cylinderLow, c.releaseUnconfirmed, c.loopAFault, c.loopBFault, c.damperFault]])
    ∧ (∀ c : ClimateContent, c.ductGroup ≤ 15 → c.effective ≤ 255 →
      ∃ f, received .routine (.climate c) = some f ∧ frameValid f other = true
        ∧ f.payload = [byte c.ductGroup, byte c.effective, byte (path c.airPath)]
        ∧ contentOf f = ⟨some c.ductGroup, some c.effective, none, none⟩)
    ∧ (∀ c : StatusContent, c.minute ≤ 4294967295 →
      ∃ f, received .routine (.status c) = some f ∧ frameValid f other = true
        ∧ contentOf f = ⟨none, none, some c.fire, some c.minute⟩ ∧ f.payload.length = 24
        ∧ f.payload = long c.minute
          ++ [byte (fire c.fire), match c.occupancy with | .staffed => 0#8 | .unstaffed => 1#8]
          ++ word (c.store.getD 65535) ++ word (c.chamber.getD 65535)
          ++ [byte c.effective, byte (path c.airPath), byte (hatch c.hatch)] ++ word (c.batch.getD 0)
          ++ [byte c.inUse, byte c.overdue, byte c.acclimatising, byte c.ready, c.latches]
          ++ [c.faults.extractLsb' 16 8, c.faults.extractLsb' 8 8, c.faults.extractLsb' 0 8]
          ++ [flags [c.exceptions.readingClamped, c.exceptions.purgeTimeout, c.exceptions.doseSaturated,
              c.exceptions.dwellCapped, c.exceptions.noChamberReading, c.exceptions.listFull]])
    ∧ (∀ c : NoticeContent, ∃ f, received .handover (.notice c) = some f ∧ frameValid f other = true
        ∧ contentOf f = ⟨none, none, none, none⟩
        ∧ f.payload =
          [match c.noticeType with
            | .outerUnlocked => 0#8 | .innerUnlocked => 1#8 | .complete => 2#8 | .abandoned => 3#8,
            match c.direction with | .out => 0#8 | .inward => 1#8]
          ++ word c.batch
          ++ [byte (hatch c.hatch), match c.cause with
            | none => 255#8 | some .sequence => 0#8 | some .timeout => 1#8 | some .withdrawn => 2#8
            | some .fire => 3#8 | some .forcedLeaf => 4#8 | some .windowExpired => 5#8 | some .mismatch => 6#8])
    ∧ ∀ (cls : FrameClass) (kind : Byte) (status : Status),
      ∃ f, received cls (.reply ⟨kind, status, .nothing⟩) = some f ∧ frameValid f other = true
        ∧ f.kind = 255#8 ∧ f.payload = [kind, BitVec.ofNat 8 (statusCode status)]
        ∧ contentOf f = ⟨none, none, none, none⟩)
  ∧ ∀ p : Part,
    let x := p.statusContent
    let figure (m : Option Nat) : Option Nat := match p.occupancy with
      | .staffed => m | .unstaffed => m.map fun n => n - n % 50
    let lost (g : Group) : Prop := (p.moisture.groups.get g).freshness = .lost
    let fault (n : Nat) (holds : Prop) : Prop := x.faults.getLsbD n = true ↔ holds
    x.minute = p.clock.minute ∧ x.fire = p.fire.state ∧ x.occupancy = p.occupancy
    ∧ x.store = figure p.moisture.store ∧ x.chamber = figure p.moisture.chamber
    ∧ x.effective = p.climate.effective ∧ x.airPath = p.climate.airPath
    ∧ x.hatch = p.hatch.state ∧ x.batch = p.hatch.batch ∧ x.exceptions = p.exceptions.flags
    ∧ x.inUse = p.custody.records.length
    ∧ x.overdue = p.custody.records.countP (fun r => decide (r.state = .onLoan ∧ r.overdue = true))
    ∧ x.acclimatising = p.custody.records.countP (fun r => decide (r.state = .acclimatising))
    ∧ x.ready = p.custody.records.countP (fun r => decide (r.state = .ready))
    ∧ (∀ i, x.latches.getLsbD (inputNumber i)
        = ((p.inputs.get i).latch && p.startUp.settings.reportEnable.getLsbD (inputNumber i)))
    ∧ fault 0 (p.startUp.defaulted = true) ∧ fault 1 (p.custody.lost = true)
    ∧ fault 2 (p.loops.a.fault = true) ∧ fault 3 (p.loops.b.fault = true)
    ∧ fault 4 (p.fire.cylinderLow = true) ∧ fault 5 (p.fire.releaseUnconfirmed = true)
    ∧ fault 6 (p.climate.damperFault = true)
    ∧ fault 7 (lost .g0) ∧ fault 8 (lost .g1) ∧ fault 9 (lost .g2) ∧ fault 10 (lost .g3)
    ∧ fault 11 (lost .g0 ∧ lost .g1 ∧ lost .g2)
    ∧ fault 12 (p.substitution.spareLost.get .g0 = true) ∧ fault 13 (p.substitution.spareLost.get .g1 = true)
    ∧ fault 14 (p.substitution.spareLost.get .g2 = true) ∧ fault 15 (p.substitution.spareLost.get .g3 = true)
    ∧ fault 16 (p.hatch.leafForced = true) ∧ fault 17 (∃ w ∈ p.peers.watches, w.silent = true)
    ∧ fault 18 (p.peers.tableFull = true) ∧ fault 19 (p.climate.plantFault = true)
    ∧ (∀ n, 20 ≤ n → x.faults.getLsbD n = false)
    ∧ (let y := p.fireContent
       let pre := p.fire.state = .preDischarge
       y.state = p.fire.state ∧ (y.paused = true ↔ pre ∧ p.fire.paused = true)
       ∧ (pre → y.countdown = p.fire.countdown) ∧ (¬ pre → y.countdown = none)
       ∧ (p.fire.state = .quiet → y.alarm = none) ∧ (p.fire.state ≠ .quiet → y.alarm = p.fire.alarm)
       ∧ y.cylinderLow = p.fire.cylinderLow ∧ y.releaseUnconfirmed = p.fire.releaseUnconfirmed
       ∧ y.loopAFault = p.loops.a.fault ∧ y.loopBFault = p.loops.b.fault ∧ y.damperFault = p.climate.damperFault)

/-- Every step keeps `QueueSound`, `BroadcastsSound`, `StartClearsRestart`, with it `RestartSound`, and `PeersSound`: at
most 8 frames in order of class, at most one pending of each coalesced kind and one on the line, none of a listen-only
part; frames of a coalesced kind to every station; no restart pending while a start is in progress; the DONE reply of a
pending restart in the queue; at most 31 peers, one per station, zone fields only of zones, SILENT only with a released
gas (R161, R163, R164, R167, R182). That the restart begins in the event in which its reply leaves is the model's choice
(log 36). The law of the reply rests on that of the starts: stage 1 of a start empties the queue, and every start removes
a pending restart at its first event (R182, R186). -/
def Obligations.QueueAndPeersStaySound : Prop :=
  ∀ s : State, ∀ t, step s = .next t →
    (s.toPart.QueueSound → t.toPart.QueueSound) ∧ (s.toPart.BroadcastsSound → t.toPart.BroadcastsSound)
    ∧ (s.toPart.StartClearsRestart → t.toPart.StartClearsRestart)
    ∧ (s.toPart.RestartSound → s.toPart.StartClearsRestart → t.toPart.RestartSound)
    ∧ (s.toPart.PeersSound → t.toPart.PeersSound)

/-- Five timers when they have run. A group STALE for 600 s becomes LOST, keeps its moisture, and store and chamber
figures follow at once (R14, R18). A damper confirmation of 20 s is removed and sets DAMPER_FAULT, which hands
FIRE_STATE when newly set (R47, R48). A neighbour not heard for 95 s becomes silent (R166). A signal's pattern moves to
its other phase, whose length counts from the scheduled end of the last, however late that is taken: the model's choice
(R172, log 38). An entry not heard for 95 s becomes SILENT with a released gas and is removed without, and the resolver
is evaluated (R41, R164). -/
def Obligations.RunTimersAct : Prop :=
  ∀ s : State, s.ready →
    let now := s.clock.localTime
    (∀ g, (s.moisture.groups.get g).freshness = .stale →
      ∀ since, (s.moisture.groups.get g).staleSince = some since → since + 600000 ≤ now →
      let groups := s.moisture.groups.set g { s.moisture.groups.get g with freshness := .lost }
      let moisture : MoistureUnit :=
        { s.moisture with groups := groups, store := storeMoisture groups, chamber := chamberMoisture groups }
      exec (.groupStalenessExpiry g) s = .next { s with moisture := moisture })
    ∧ (∀ e, s.climate.confirmation = some e → e ≤ now →
      let content := { s.toPart.fireContent with damperFault := true }
      exec .damperConfirmationExpiry s = .next { s with
        climate := { s.climate with confirmation := none, damperFault := true }
        bus := if s.climate.damperFault then s.bus else s.bus.handed (newFrame .fire 63#6 (.fireState content)) })
    ∧ (∀ w ∈ s.peers.watches, w.silent = false → w.heard + 95000 ≤ now → (s.peers.watches.map (·.station)).Nodup →
      ∃ t, exec (.neighbourWatchExpiry w.station) s = .next t ∧ t.toPart.neighbourSilent = true
        ∧ t = { s with peers := t.peers } ∧ t.peers.entries = s.peers.entries
        ∧ t.peers.watches = s.peers.watches.map (fun x =>
            if x.station = w.station then { x with silent := true } else x))
    ∧ (∀ signal : Signal, ∀ (p : Pattern) (on : Bool) (phaseEnd : Time),
      (s.outputs.get (signalOutput signal)).state = .pattern p on phaseEnd → phaseEnd ≤ now →
      let length : Time := match p, on with
        | .alert, true => 3000 | .alert, false => 1000 | .preDischarge, _ => 500
      exec (.patternPhaseEnd signal) s = .next { s with
        outputs := s.outputs.set (signalOutput signal)
          { s.outputs.get (signalOutput signal) with state := .pattern p (!on) (phaseEnd + length) } })
    ∧ (∀ e ∈ s.peers.entries, e.silent = false → e.lastFrame + 95000 ≤ now →
      (s.peers.entries.map (·.station)).Nodup →
      ∃ t, exec (.peerEntryExpiry e.station) s = .next t
        ∧ ((∃ st, e.fireState = some st ∧ st.gasReleased = true) →
            t.peers = { s.peers with entries := s.peers.entries.map (fun x =>
              if x.station = e.station then { x with silent := true } else x) })
        ∧ ((∀ st, e.fireState = some st → st.gasReleased = false) →
            t.peers = { s.peers with
              tableFull := false, entries := s.peers.entries.filter (fun x => decide (x.station ≠ e.station)) })
        ∧ (let evaluated := (s.toPart.withPeers t.peers).resolveAirPath
           t.climate = evaluated.climate ∧ t.outputs = evaluated.outputs)
        ∧ t = { s with peers := t.peers, climate := t.climate, outputs := t.outputs, bus := t.bus })

/-! ## Occupancy, exceptions -/

/-- SET_OCCUPANCY: BAD_ROLE from every role but CONSOLE, OUT_OF_RANGE for a value that is neither STAFFED nor UNSTAFFED,
then the tests in order: the value it holds is answered DONE; UNSTAFFED while the hatch is not EMPTY is refused
HATCH_OPEN with the hatch state; otherwise the value is taken, the next scan starts one period of it after the last scan
start, and the answer is DONE. Every DONE carries the occupancy after it (R3, R174, R175). -/
def Obligations.SetOccupancyTests : Prop :=
  ∀ (s : State) (src : Station) (value : Byte), s.takesFrom src →
    (∀ role, role ≠ .console →
      exec (.setOccupancy src role value) s = .next (s.answered src .setOccupancy .badRole (.role role)))
    ∧ (2 ≤ value.toNat → exec (.setOccupancy src .console value) s
        = .next (s.answered src .setOccupancy .outOfRange (.bytePosition 0#8)))
    ∧ (value.toNat ≤ 1 →
      let wanted : Occupancy := if value = 0#8 then .staffed else .unstaffed
      let outcome := exec (.setOccupancy src .console value) s
      (s.occupancy = wanted → outcome = .next (s.answered src .setOccupancy .done (.occupancy wanted)))
      ∧ (s.occupancy ≠ wanted → wanted = .unstaffed → s.hatch.state ≠ .empty →
        outcome = .next (s.answered src .setOccupancy .hatchOpen (.hatchState s.hatch.state)))
      ∧ (s.occupancy ≠ wanted → wanted = .staffed ∨ s.hatch.state = .empty →
        outcome = .next (State.answered
          { s with
            occupancy := wanted
            moisture := { s.moisture with
              nextScan := s.moisture.lastScanStart + (if wanted = .staffed then 10000 else 30000) } }
          src .setOccupancy .done (.occupancy wanted))))

/-- An exception sets the flag of its kind and no other; with capture set it is appended while there are fewer than 4
entries, else LIST_FULL is set; with capture clear the list is left. CLEAR_EXCEPTIONS from a CONSOLE or SERVICE empties
the list, clears the six flags, and is answered DONE, changing nothing else; from any other role it is answered BAD_ROLE
(R148, R149, R151). -/
def Obligations.ExceptionsAreKeptAndCleared : Prop :=
  (∀ (x : ExceptionStore) (capture : Bool) (e : ExceptionEntry),
    let flags := x.flags.raise e.kind
    (capture = true → x.entries.length < 4 → x.raise capture e = ⟨x.entries ++ [e], flags⟩)
    ∧ (capture = true → 4 ≤ x.entries.length → x.raise capture e = ⟨x.entries, { flags with listFull := true }⟩)
    ∧ (capture = false → x.raise capture e = ⟨x.entries, flags⟩)
    ∧ (flags.readingClamped = true ↔ x.flags.readingClamped = true ∨ e.kind = .readingClamped)
    ∧ (flags.purgeTimeout = true ↔ x.flags.purgeTimeout = true ∨ e.kind = .purgeTimeout)
    ∧ (flags.doseSaturated = true ↔ x.flags.doseSaturated = true ∨ e.kind = .doseSaturated)
    ∧ (flags.dwellCapped = true ↔ x.flags.dwellCapped = true ∨ e.kind = .dwellCapped)
    ∧ (flags.noChamberReading = true ↔ x.flags.noChamberReading = true ∨ e.kind = .noChamberReading)
    ∧ flags.listFull = x.flags.listFull)
  ∧ ∀ (s : State) (src : Station) (role : Role), s.takesFrom src →
      (role = .console ∨ role = .service →
        exec (.clearExceptions src role) s
          = .next (State.answered { s with exceptions := ⟨[], ⟨false, false, false, false, false, false⟩⟩ }
              src .clearExceptions .done .nothing))
      ∧ (role ≠ .console → role ≠ .service →
        exec (.clearExceptions src role) s = .next (s.answered src .clearExceptions .badRole (.role role)))

/-! ## Starts -/

/-- The supplies, the reset pin and RESTART, short of a start. The backup supply falling marks the backup domain invalid
only while the main supply is off; main power lost, and the reset pin asserted, release every output and interrupt a
start in progress, the pin holding a power start as it was to be begun again and removing a pending restart; a RESTART
is answered DONE and pends for at most 1 s, another one while it pends changes nothing but its answer. A rise of the
main supply that is on, or under the asserted pin, starts nothing; nor does the release of the pin while the supply is
off (R180, R181, R182). A RESTART whose reply a full queue drops restarts at once, in StartsFollowTheirTable. Four
things here are the model's choice: that a supply which rises under the asserted pin has its power start held, with its
kind and what it reads (log 22), that main power lost releases the outputs (log 23), that no request stands recorded for
the outputs then and while the pin is asserted (log 50), and that main power lost keeps the validity mark whatever the
backup supply did before (log 44). -/
def Obligations.SuppliesPinsAndRestart : Prop :=
  ∀ s : State,
    let off : DigitalOutput := ⟨.drivenOff, .released⟩
    let released : OutputDriver := ⟨off, off, off, off, off, ⟨0, none⟩, off, off⟩
    (s.startUp.mainOn = false →
      exec .backupSupplyFall s = .next { s with startUp := { s.startUp with backupValid := false } }
      ∧ exec .mainPowerLoss s = .next s
      ∧ (s.startUp.resetAsserted = true →
          exec .resetPinRelease s = .next { s with startUp := { s.startUp with resetAsserted := false } }))
    ∧ (s.startUp.mainOn = true →
      exec .backupSupplyFall s = .next s
      ∧ exec .mainPowerLoss s = .next { s with
          startUp := { s.startUp with mainOn := false, heldStart := none, inProgress := none }, outputs := released })
    ∧ exec .resetPinAssert s = .next { s with
        startUp := { s.startUp with
          resetAsserted := true, restartDeadline := none, inProgress := none
          heldStart := match s.startUp.inProgress with
            | some (.power x) => some x
            | some .restart => none
            | none => s.startUp.heldStart }
        outputs := released }
    ∧ (∀ (record : Option (List Byte)) (pins : Station),
      (s.startUp.mainOn = true → exec (.powerStart record pins) s = .next s)
      ∧ (s.startUp.mainOn = false → s.startUp.resetAsserted = true →
          exec (.powerStart record pins) s = .next { s with
            startUp := { s.startUp with
              mainOn := true, inProgress := none
              heldStart := some ⟨!s.startUp.backupValid, ⟨record, pins⟩⟩ } }))
    ∧ (∀ (src : Station) (role : Role), role = .console ∨ role = .service →
      (s.takesFrom src → s.startUp.restartDeadline = none → s.bus.queue.length < 8 →
        exec (.restart src role) s = .next { s with
          startUp := { s.startUp with restartDeadline := some (s.clock.localTime + 1000) }
          bus := s.bus.handed { replyFrame src .restart .done .nothing with restartReply := true } })
      ∧ (s.toPart.running = true → s.startUp.restartDeadline ≠ none → (∃ f ∈ s.bus.queue, f.restartReply = true) →
          s.bus.station ≠ none → s.bus.station ≠ some src → validStation src = true →
          exec (.restart src role) s = .next (s.answered src .restart .done .nothing)))

/-- Every start puts the part where Table 11-2 says. A power start is cold or warm by the validity mark at its first
event and reads the pins and the record, a bad record giving DEFAULTED operation on the Default column; one that the pin
held is begun again as it was. The release of the reset pin, the end of a pending restart and the leaving of its DONE
reply are restarts, which keep settings and station: the reply leaves when it is sent, removed by a contention lost
after the source field, displaced by a FIRE frame, or dropped by a full queue (R156, R162, R180 to R186). A start that
the next command interrupts stays in progress after one of its stages (`startCut`): no block acts, nothing that counts
from the completion has begun, CUSTODY_LOST and SPARE_LOST are not set; from stage 1 on nothing that was in flight runs,
a burn has left its cell LOST and the transmit queue is empty; a cold start has written its backup items and not yet, or
already, the validity mark; until stage 3 the outputs of a power start are RELEASED, and from it they are safe; from
stage 4 on the blocks hold their start values (R29, R173, R180, R181, R186). Seven things here are the model's choice:
when a waiting loss of power or pin assertion falls before the completion (a free value, log 21), that the outputs of a
restart stay as they were until stage 3, an ended pattern at the level of its phase (log 21), that the air path is SHUT
or CLOSED at the completion, not PARK (log 13), that the power start of a supply that rose under the asserted pin is
made at the pin's release (log 22), that a retained PRE_DISCHARGE with a delay of 0 is DISCHARGED within the start (R72,
log 14), that the hatch context of a cold start awaits no start tally, so that a request taken before the leaves are
accepted decides the first one (R139, R141; log 52), and that a restart begins in the event in which its reply leaves
the queue (log 36). -/
def Obligations.StartsFollowTheirTable : Prop :=
  ∀ s : State,
    let restarted (p : Part) (t : State) : Prop :=
      p.StartedOn t.toPart ⟨p.startUp.settings, p.startUp.defaulted, p.bus.station⟩
        ∧ p.Retained t.toPart p.occupancy ∧ t.bus.station = p.bus.station
    let basis (pins : Station) (record : Option (List Byte)) : StartBasis :=
      let own : Option Station := if pins = 0#6 ∨ pins = 63#6 then none else some pins
      match goodRecord own record with
      | some cfg => ⟨cfg, false, own⟩
      | none => ⟨Settings.default, true, own⟩
    let powered (x : PowerStart) (t : State) : Prop :=
      let b := basis x.reading.pins x.reading.record
      s.toPart.StartedOn t.toPart b ∧ t.bus.station = b.station
        ∧ (x.cold = true → t.toPart.ColdStarted) ∧ (x.cold = false → s.toPart.Retained t.toPart .staffed)
    let ends (c : Instr) (whole : State → Prop) (cut : State → StartStage → Prop) : Prop :=
      ∃ t, exec c s = .next t ∧ (s.pending.head?.any interruptsStart = false → whole t)
        ∧ (s.pending.head?.any interruptsStart = true →
          (∀ stage, Config.startReaches s.freeDraws = some stage → cut t stage)
          ∧ (Config.startReaches s.freeDraws = none → whole t))
    let powers (c : Instr) (x : PowerStart) : Prop :=
      ends c (powered x) fun t => s.toPart.startCut t.toPart (.power x) (basis x.reading.pins x.reading.record)
    let restarts (c : Instr) (p : Part) : Prop :=
      ends c (restarted p) fun t =>
        p.startCut t.toPart .restart ⟨p.startUp.settings, p.startUp.defaulted, p.bus.station⟩
    (s.startUp.mainOn = false → s.startUp.resetAsserted = false →
      ∀ (record : Option (List Byte)) (pins : Station),
        powers (.powerStart record pins) ⟨!s.startUp.backupValid, ⟨record, pins⟩⟩)
    ∧ (s.startUp.mainOn = true → s.startUp.resetAsserted = true →
      (s.startUp.heldStart = none → restarts .resetPinRelease s.toPart)
      ∧ ∀ x, s.startUp.heldStart = some x → powers .resetPinRelease x)
    ∧ (s.toPart.running = true → ∀ d, s.startUp.restartDeadline = some d →
      (d ≤ s.clock.localTime → restarts .restartPendingExpiry s.toPart)
      ∧ (∀ a f b, s.bus.queue = a ++ f :: b → (∀ x ∈ a, x.onLine = false) → f.onLine = true →
        (∀ x ∈ a ++ b, x.restartReply = false) →
        restarts .frameSent s.toPart
        ∧ ∀ bit, 9 ≤ bit → s.bus.station ≠ none → restarts (.contentionLost bit) s.toPart)
      ∧ ∀ a f b, s.bus.queue = a ++ f :: b → s.bus.queue.length = 8 → s.bus.station ≠ none →
        (∀ x ∈ a, x.onLine = true ∨ x.cls ≠ .routine) → f.onLine = false → f.cls = .routine →
        (∀ x ∈ s.bus.queue, x.pendingOf .fireState = false) → (∀ x ∈ a ++ b, x.restartReply = false) →
        s.fire.state = .hold → ∀ e, s.fire.holdEnd = some e → e ≤ s.clock.localTime →
        let cfg := s.startUp.settings
        let on (n : Nat) : DigitalOutput := ⟨.drivenOn, if outputFitted cfg n then .drivenOn else .released⟩
        let off (n : Nat) : DigitalOutput := ⟨.drivenOff, if outputFitted cfg n then .drivenOff else .released⟩
        let spent : Part := { s.toPart with fire := { s.fire with state := .spent, holdEnd := none } }
        restarts .holdExpiry { spent with
          climate := spent.resolveAirPath.climate
          outputs := { s.outputs with
            out3 := on 3, out4 := on 4, out5 := ⟨0, if outputFitted cfg 5 then some 0 else none⟩
            out6 := off 6, out7 := off 7 } })
    ∧ ∀ (src : Station) (role : Role), role = .console ∨ role = .service → s.takesFrom src →
      s.startUp.restartDeadline = none → 8 ≤ s.bus.queue.length → (∀ x ∈ s.bus.queue, x.restartReply = false) →
      restarts (.restart src role) s.toPart

/-! ## The laws together -/

/-- Every step keeps the ranges of the spec: moisture figures and counts of channels, demand, grant and damper, dose,
purge time and tolerance run, the exception list, the counts of the clock, the soft remaps and burns, the fields of the
fire sequencer, the outputs that are not fitted, and the settings in force; what `ExceptionsSound` and `FireSound` say
of the list under a clear capture flag and of timers that stand, they say of a part that acts (Table 1-2, Table 5-1,
R21, R33, R37, R134, R137, R149, R168, R170, R183). -/
def Obligations.RangesAreKept : Prop :=
  ∀ s : State, ∀ t, step s = .next t →
    let p := s.toPart
    let q := t.toPart
    (p.MoistureBounded → q.MoistureBounded) ∧ (p.DemandBounded → q.DemandBounded)
    ∧ (p.PurgeBounded → q.PurgeBounded) ∧ (p.ExceptionsSound → q.ExceptionsSound)
    ∧ (p.ClockBounded → q.ClockBounded) ∧ (p.SpareSound → q.SpareSound) ∧ (p.FireSound → q.FireSound)
    ∧ (p.UnfittedReleased → q.UnfittedReleased) ∧ (p.SettingsInRange → q.SettingsInRange)

/-- The machine before its first start keeps every law, is not running, reads its validity mark invalid and its four
spare cells UNUSED, and has every output RELEASED. That it is a part never started, with the main supply off, is the
model's choice (log 1); the validity mark and the cells are the spec's (R180, Table 2-1). -/
def Obligations.LawsHoldAtReset : Prop :=
  let p := State.reset.toPart
  p.LocksSafe ∧ p.ReleaseSafe ∧ p.ShutSafe ∧ p.CustodySound ∧ p.QueueSound ∧ p.BroadcastsSound ∧ p.RestartSound
  ∧ p.StartClearsRestart ∧ p.PeersSound ∧ p.MoistureBounded
  ∧ p.DemandBounded ∧ p.PurgeBounded ∧ p.ExceptionsSound ∧ p.ClockBounded ∧ p.SpareSound ∧ p.FireSound
  ∧ p.UnfittedReleased ∧ p.SettingsInRange ∧ p.StartSound
  ∧ State.reset.pending = [] ∧ p.running = false ∧ p.startUp.backupValid = false
  ∧ (∀ g, p.substitution.cell.get g = .unused) ∧ (∀ o, (p.outputs.get o).state = .released)
end

