-- ==== Sys2Proof/Laws/State.lean ====
section
/-! SUPPORT. One lemma per field per named update of the part, true by rfl, and the readers that follow fields. -/

namespace Sys2Proof.Machine

variable (p : Part)

/-! ### withMoisture -/

@[simp] theorem Part.withMoisture_moisture (x) : (p.withMoisture x).moisture = x := rfl
@[simp] theorem Part.withMoisture_substitution (x) : (p.withMoisture x).substitution = p.substitution := rfl
@[simp] theorem Part.withMoisture_climate (x) : (p.withMoisture x).climate = p.climate := rfl
@[simp] theorem Part.withMoisture_loops (x) : (p.withMoisture x).loops = p.loops := rfl
@[simp] theorem Part.withMoisture_inputs (x) : (p.withMoisture x).inputs = p.inputs := rfl
@[simp] theorem Part.withMoisture_fire (x) : (p.withMoisture x).fire = p.fire := rfl
@[simp] theorem Part.withMoisture_custody (x) : (p.withMoisture x).custody = p.custody := rfl
@[simp] theorem Part.withMoisture_hatch (x) : (p.withMoisture x).hatch = p.hatch := rfl
@[simp] theorem Part.withMoisture_exceptions (x) : (p.withMoisture x).exceptions = p.exceptions := rfl
@[simp] theorem Part.withMoisture_bus (x) : (p.withMoisture x).bus = p.bus := rfl
@[simp] theorem Part.withMoisture_peers (x) : (p.withMoisture x).peers = p.peers := rfl
@[simp] theorem Part.withMoisture_clock (x) : (p.withMoisture x).clock = p.clock := rfl
@[simp] theorem Part.withMoisture_outputs (x) : (p.withMoisture x).outputs = p.outputs := rfl
@[simp] theorem Part.withMoisture_occupancy (x) : (p.withMoisture x).occupancy = p.occupancy := rfl
@[simp] theorem Part.withMoisture_startUp (x) : (p.withMoisture x).startUp = p.startUp := rfl
@[simp] theorem Part.withMoisture_freeDraws (x) : (p.withMoisture x).freeDraws = p.freeDraws := rfl

/-! ### withSubstitution -/

@[simp] theorem Part.withSubstitution_moisture (x) : (p.withSubstitution x).moisture = p.moisture := rfl
@[simp] theorem Part.withSubstitution_substitution (x) : (p.withSubstitution x).substitution = x := rfl
@[simp] theorem Part.withSubstitution_climate (x) : (p.withSubstitution x).climate = p.climate := rfl
@[simp] theorem Part.withSubstitution_loops (x) : (p.withSubstitution x).loops = p.loops := rfl
@[simp] theorem Part.withSubstitution_inputs (x) : (p.withSubstitution x).inputs = p.inputs := rfl
@[simp] theorem Part.withSubstitution_fire (x) : (p.withSubstitution x).fire = p.fire := rfl
@[simp] theorem Part.withSubstitution_custody (x) : (p.withSubstitution x).custody = p.custody := rfl
@[simp] theorem Part.withSubstitution_hatch (x) : (p.withSubstitution x).hatch = p.hatch := rfl
@[simp] theorem Part.withSubstitution_exceptions (x) : (p.withSubstitution x).exceptions = p.exceptions := rfl
@[simp] theorem Part.withSubstitution_bus (x) : (p.withSubstitution x).bus = p.bus := rfl
@[simp] theorem Part.withSubstitution_peers (x) : (p.withSubstitution x).peers = p.peers := rfl
@[simp] theorem Part.withSubstitution_clock (x) : (p.withSubstitution x).clock = p.clock := rfl
@[simp] theorem Part.withSubstitution_outputs (x) : (p.withSubstitution x).outputs = p.outputs := rfl
@[simp] theorem Part.withSubstitution_occupancy (x) : (p.withSubstitution x).occupancy = p.occupancy := rfl
@[simp] theorem Part.withSubstitution_startUp (x) : (p.withSubstitution x).startUp = p.startUp := rfl
@[simp] theorem Part.withSubstitution_freeDraws (x) : (p.withSubstitution x).freeDraws = p.freeDraws := rfl

/-! ### withClimate -/

@[simp] theorem Part.withClimate_moisture (x) : (p.withClimate x).moisture = p.moisture := rfl
@[simp] theorem Part.withClimate_substitution (x) : (p.withClimate x).substitution = p.substitution := rfl
@[simp] theorem Part.withClimate_climate (x) : (p.withClimate x).climate = x := rfl
@[simp] theorem Part.withClimate_loops (x) : (p.withClimate x).loops = p.loops := rfl
@[simp] theorem Part.withClimate_inputs (x) : (p.withClimate x).inputs = p.inputs := rfl
@[simp] theorem Part.withClimate_fire (x) : (p.withClimate x).fire = p.fire := rfl
@[simp] theorem Part.withClimate_custody (x) : (p.withClimate x).custody = p.custody := rfl
@[simp] theorem Part.withClimate_hatch (x) : (p.withClimate x).hatch = p.hatch := rfl
@[simp] theorem Part.withClimate_exceptions (x) : (p.withClimate x).exceptions = p.exceptions := rfl
@[simp] theorem Part.withClimate_bus (x) : (p.withClimate x).bus = p.bus := rfl
@[simp] theorem Part.withClimate_peers (x) : (p.withClimate x).peers = p.peers := rfl
@[simp] theorem Part.withClimate_clock (x) : (p.withClimate x).clock = p.clock := rfl
@[simp] theorem Part.withClimate_outputs (x) : (p.withClimate x).outputs = p.outputs := rfl
@[simp] theorem Part.withClimate_occupancy (x) : (p.withClimate x).occupancy = p.occupancy := rfl
@[simp] theorem Part.withClimate_startUp (x) : (p.withClimate x).startUp = p.startUp := rfl
@[simp] theorem Part.withClimate_freeDraws (x) : (p.withClimate x).freeDraws = p.freeDraws := rfl

/-! ### withLoops -/

@[simp] theorem Part.withLoops_moisture (x) : (p.withLoops x).moisture = p.moisture := rfl
@[simp] theorem Part.withLoops_substitution (x) : (p.withLoops x).substitution = p.substitution := rfl
@[simp] theorem Part.withLoops_climate (x) : (p.withLoops x).climate = p.climate := rfl
@[simp] theorem Part.withLoops_loops (x) : (p.withLoops x).loops = x := rfl
@[simp] theorem Part.withLoops_inputs (x) : (p.withLoops x).inputs = p.inputs := rfl
@[simp] theorem Part.withLoops_fire (x) : (p.withLoops x).fire = p.fire := rfl
@[simp] theorem Part.withLoops_custody (x) : (p.withLoops x).custody = p.custody := rfl
@[simp] theorem Part.withLoops_hatch (x) : (p.withLoops x).hatch = p.hatch := rfl
@[simp] theorem Part.withLoops_exceptions (x) : (p.withLoops x).exceptions = p.exceptions := rfl
@[simp] theorem Part.withLoops_bus (x) : (p.withLoops x).bus = p.bus := rfl
@[simp] theorem Part.withLoops_peers (x) : (p.withLoops x).peers = p.peers := rfl
@[simp] theorem Part.withLoops_clock (x) : (p.withLoops x).clock = p.clock := rfl
@[simp] theorem Part.withLoops_outputs (x) : (p.withLoops x).outputs = p.outputs := rfl
@[simp] theorem Part.withLoops_occupancy (x) : (p.withLoops x).occupancy = p.occupancy := rfl
@[simp] theorem Part.withLoops_startUp (x) : (p.withLoops x).startUp = p.startUp := rfl
@[simp] theorem Part.withLoops_freeDraws (x) : (p.withLoops x).freeDraws = p.freeDraws := rfl

/-! ### withInputs -/

@[simp] theorem Part.withInputs_moisture (x) : (p.withInputs x).moisture = p.moisture := rfl
@[simp] theorem Part.withInputs_substitution (x) : (p.withInputs x).substitution = p.substitution := rfl
@[simp] theorem Part.withInputs_climate (x) : (p.withInputs x).climate = p.climate := rfl
@[simp] theorem Part.withInputs_loops (x) : (p.withInputs x).loops = p.loops := rfl
@[simp] theorem Part.withInputs_inputs (x) : (p.withInputs x).inputs = x := rfl
@[simp] theorem Part.withInputs_fire (x) : (p.withInputs x).fire = p.fire := rfl
@[simp] theorem Part.withInputs_custody (x) : (p.withInputs x).custody = p.custody := rfl
@[simp] theorem Part.withInputs_hatch (x) : (p.withInputs x).hatch = p.hatch := rfl
@[simp] theorem Part.withInputs_exceptions (x) : (p.withInputs x).exceptions = p.exceptions := rfl
@[simp] theorem Part.withInputs_bus (x) : (p.withInputs x).bus = p.bus := rfl
@[simp] theorem Part.withInputs_peers (x) : (p.withInputs x).peers = p.peers := rfl
@[simp] theorem Part.withInputs_clock (x) : (p.withInputs x).clock = p.clock := rfl
@[simp] theorem Part.withInputs_outputs (x) : (p.withInputs x).outputs = p.outputs := rfl
@[simp] theorem Part.withInputs_occupancy (x) : (p.withInputs x).occupancy = p.occupancy := rfl
@[simp] theorem Part.withInputs_startUp (x) : (p.withInputs x).startUp = p.startUp := rfl
@[simp] theorem Part.withInputs_freeDraws (x) : (p.withInputs x).freeDraws = p.freeDraws := rfl

/-! ### withFire -/

@[simp] theorem Part.withFire_moisture (x) : (p.withFire x).moisture = p.moisture := rfl
@[simp] theorem Part.withFire_substitution (x) : (p.withFire x).substitution = p.substitution := rfl
@[simp] theorem Part.withFire_climate (x) : (p.withFire x).climate = p.climate := rfl
@[simp] theorem Part.withFire_loops (x) : (p.withFire x).loops = p.loops := rfl
@[simp] theorem Part.withFire_inputs (x) : (p.withFire x).inputs = p.inputs := rfl
@[simp] theorem Part.withFire_fire (x) : (p.withFire x).fire = x := rfl
@[simp] theorem Part.withFire_custody (x) : (p.withFire x).custody = p.custody := rfl
@[simp] theorem Part.withFire_hatch (x) : (p.withFire x).hatch = p.hatch := rfl
@[simp] theorem Part.withFire_exceptions (x) : (p.withFire x).exceptions = p.exceptions := rfl
@[simp] theorem Part.withFire_bus (x) : (p.withFire x).bus = p.bus := rfl
@[simp] theorem Part.withFire_peers (x) : (p.withFire x).peers = p.peers := rfl
@[simp] theorem Part.withFire_clock (x) : (p.withFire x).clock = p.clock := rfl
@[simp] theorem Part.withFire_outputs (x) : (p.withFire x).outputs = p.outputs := rfl
@[simp] theorem Part.withFire_occupancy (x) : (p.withFire x).occupancy = p.occupancy := rfl
@[simp] theorem Part.withFire_startUp (x) : (p.withFire x).startUp = p.startUp := rfl
@[simp] theorem Part.withFire_freeDraws (x) : (p.withFire x).freeDraws = p.freeDraws := rfl

/-! ### withCustody -/

@[simp] theorem Part.withCustody_moisture (x) : (p.withCustody x).moisture = p.moisture := rfl
@[simp] theorem Part.withCustody_substitution (x) : (p.withCustody x).substitution = p.substitution := rfl
@[simp] theorem Part.withCustody_climate (x) : (p.withCustody x).climate = p.climate := rfl
@[simp] theorem Part.withCustody_loops (x) : (p.withCustody x).loops = p.loops := rfl
@[simp] theorem Part.withCustody_inputs (x) : (p.withCustody x).inputs = p.inputs := rfl
@[simp] theorem Part.withCustody_fire (x) : (p.withCustody x).fire = p.fire := rfl
@[simp] theorem Part.withCustody_custody (x) : (p.withCustody x).custody = x := rfl
@[simp] theorem Part.withCustody_hatch (x) : (p.withCustody x).hatch = p.hatch := rfl
@[simp] theorem Part.withCustody_exceptions (x) : (p.withCustody x).exceptions = p.exceptions := rfl
@[simp] theorem Part.withCustody_bus (x) : (p.withCustody x).bus = p.bus := rfl
@[simp] theorem Part.withCustody_peers (x) : (p.withCustody x).peers = p.peers := rfl
@[simp] theorem Part.withCustody_clock (x) : (p.withCustody x).clock = p.clock := rfl
@[simp] theorem Part.withCustody_outputs (x) : (p.withCustody x).outputs = p.outputs := rfl
@[simp] theorem Part.withCustody_occupancy (x) : (p.withCustody x).occupancy = p.occupancy := rfl
@[simp] theorem Part.withCustody_startUp (x) : (p.withCustody x).startUp = p.startUp := rfl
@[simp] theorem Part.withCustody_freeDraws (x) : (p.withCustody x).freeDraws = p.freeDraws := rfl

/-! ### withHatch -/

@[simp] theorem Part.withHatch_moisture (x) : (p.withHatch x).moisture = p.moisture := rfl
@[simp] theorem Part.withHatch_substitution (x) : (p.withHatch x).substitution = p.substitution := rfl
@[simp] theorem Part.withHatch_climate (x) : (p.withHatch x).climate = p.climate := rfl
@[simp] theorem Part.withHatch_loops (x) : (p.withHatch x).loops = p.loops := rfl
@[simp] theorem Part.withHatch_inputs (x) : (p.withHatch x).inputs = p.inputs := rfl
@[simp] theorem Part.withHatch_fire (x) : (p.withHatch x).fire = p.fire := rfl
@[simp] theorem Part.withHatch_custody (x) : (p.withHatch x).custody = p.custody := rfl
@[simp] theorem Part.withHatch_hatch (x) : (p.withHatch x).hatch = x := rfl
@[simp] theorem Part.withHatch_exceptions (x) : (p.withHatch x).exceptions = p.exceptions := rfl
@[simp] theorem Part.withHatch_bus (x) : (p.withHatch x).bus = p.bus := rfl
@[simp] theorem Part.withHatch_peers (x) : (p.withHatch x).peers = p.peers := rfl
@[simp] theorem Part.withHatch_clock (x) : (p.withHatch x).clock = p.clock := rfl
@[simp] theorem Part.withHatch_outputs (x) : (p.withHatch x).outputs = p.outputs := rfl
@[simp] theorem Part.withHatch_occupancy (x) : (p.withHatch x).occupancy = p.occupancy := rfl
@[simp] theorem Part.withHatch_startUp (x) : (p.withHatch x).startUp = p.startUp := rfl
@[simp] theorem Part.withHatch_freeDraws (x) : (p.withHatch x).freeDraws = p.freeDraws := rfl

/-! ### withExceptions -/

@[simp] theorem Part.withExceptions_moisture (x) : (p.withExceptions x).moisture = p.moisture := rfl
@[simp] theorem Part.withExceptions_substitution (x) : (p.withExceptions x).substitution = p.substitution := rfl
@[simp] theorem Part.withExceptions_climate (x) : (p.withExceptions x).climate = p.climate := rfl
@[simp] theorem Part.withExceptions_loops (x) : (p.withExceptions x).loops = p.loops := rfl
@[simp] theorem Part.withExceptions_inputs (x) : (p.withExceptions x).inputs = p.inputs := rfl
@[simp] theorem Part.withExceptions_fire (x) : (p.withExceptions x).fire = p.fire := rfl
@[simp] theorem Part.withExceptions_custody (x) : (p.withExceptions x).custody = p.custody := rfl
@[simp] theorem Part.withExceptions_hatch (x) : (p.withExceptions x).hatch = p.hatch := rfl
@[simp] theorem Part.withExceptions_exceptions (x) : (p.withExceptions x).exceptions = x := rfl
@[simp] theorem Part.withExceptions_bus (x) : (p.withExceptions x).bus = p.bus := rfl
@[simp] theorem Part.withExceptions_peers (x) : (p.withExceptions x).peers = p.peers := rfl
@[simp] theorem Part.withExceptions_clock (x) : (p.withExceptions x).clock = p.clock := rfl
@[simp] theorem Part.withExceptions_outputs (x) : (p.withExceptions x).outputs = p.outputs := rfl
@[simp] theorem Part.withExceptions_occupancy (x) : (p.withExceptions x).occupancy = p.occupancy := rfl
@[simp] theorem Part.withExceptions_startUp (x) : (p.withExceptions x).startUp = p.startUp := rfl
@[simp] theorem Part.withExceptions_freeDraws (x) : (p.withExceptions x).freeDraws = p.freeDraws := rfl

/-! ### withBus -/

@[simp] theorem Part.withBus_moisture (x) : (p.withBus x).moisture = p.moisture := rfl
@[simp] theorem Part.withBus_substitution (x) : (p.withBus x).substitution = p.substitution := rfl
@[simp] theorem Part.withBus_climate (x) : (p.withBus x).climate = p.climate := rfl
@[simp] theorem Part.withBus_loops (x) : (p.withBus x).loops = p.loops := rfl
@[simp] theorem Part.withBus_inputs (x) : (p.withBus x).inputs = p.inputs := rfl
@[simp] theorem Part.withBus_fire (x) : (p.withBus x).fire = p.fire := rfl
@[simp] theorem Part.withBus_custody (x) : (p.withBus x).custody = p.custody := rfl
@[simp] theorem Part.withBus_hatch (x) : (p.withBus x).hatch = p.hatch := rfl
@[simp] theorem Part.withBus_exceptions (x) : (p.withBus x).exceptions = p.exceptions := rfl
@[simp] theorem Part.withBus_bus (x) : (p.withBus x).bus = x := rfl
@[simp] theorem Part.withBus_peers (x) : (p.withBus x).peers = p.peers := rfl
@[simp] theorem Part.withBus_clock (x) : (p.withBus x).clock = p.clock := rfl
@[simp] theorem Part.withBus_outputs (x) : (p.withBus x).outputs = p.outputs := rfl
@[simp] theorem Part.withBus_occupancy (x) : (p.withBus x).occupancy = p.occupancy := rfl
@[simp] theorem Part.withBus_startUp (x) : (p.withBus x).startUp = p.startUp := rfl
@[simp] theorem Part.withBus_freeDraws (x) : (p.withBus x).freeDraws = p.freeDraws := rfl

/-! ### withPeers -/

@[simp] theorem Part.withPeers_moisture (x) : (p.withPeers x).moisture = p.moisture := rfl
@[simp] theorem Part.withPeers_substitution (x) : (p.withPeers x).substitution = p.substitution := rfl
@[simp] theorem Part.withPeers_climate (x) : (p.withPeers x).climate = p.climate := rfl
@[simp] theorem Part.withPeers_loops (x) : (p.withPeers x).loops = p.loops := rfl
@[simp] theorem Part.withPeers_inputs (x) : (p.withPeers x).inputs = p.inputs := rfl
@[simp] theorem Part.withPeers_fire (x) : (p.withPeers x).fire = p.fire := rfl
@[simp] theorem Part.withPeers_custody (x) : (p.withPeers x).custody = p.custody := rfl
@[simp] theorem Part.withPeers_hatch (x) : (p.withPeers x).hatch = p.hatch := rfl
@[simp] theorem Part.withPeers_exceptions (x) : (p.withPeers x).exceptions = p.exceptions := rfl
@[simp] theorem Part.withPeers_bus (x) : (p.withPeers x).bus = p.bus := rfl
@[simp] theorem Part.withPeers_peers (x) : (p.withPeers x).peers = x := rfl
@[simp] theorem Part.withPeers_clock (x) : (p.withPeers x).clock = p.clock := rfl
@[simp] theorem Part.withPeers_outputs (x) : (p.withPeers x).outputs = p.outputs := rfl
@[simp] theorem Part.withPeers_occupancy (x) : (p.withPeers x).occupancy = p.occupancy := rfl
@[simp] theorem Part.withPeers_startUp (x) : (p.withPeers x).startUp = p.startUp := rfl
@[simp] theorem Part.withPeers_freeDraws (x) : (p.withPeers x).freeDraws = p.freeDraws := rfl

/-! ### withClock -/

@[simp] theorem Part.withClock_moisture (x) : (p.withClock x).moisture = p.moisture := rfl
@[simp] theorem Part.withClock_substitution (x) : (p.withClock x).substitution = p.substitution := rfl
@[simp] theorem Part.withClock_climate (x) : (p.withClock x).climate = p.climate := rfl
@[simp] theorem Part.withClock_loops (x) : (p.withClock x).loops = p.loops := rfl
@[simp] theorem Part.withClock_inputs (x) : (p.withClock x).inputs = p.inputs := rfl
@[simp] theorem Part.withClock_fire (x) : (p.withClock x).fire = p.fire := rfl
@[simp] theorem Part.withClock_custody (x) : (p.withClock x).custody = p.custody := rfl
@[simp] theorem Part.withClock_hatch (x) : (p.withClock x).hatch = p.hatch := rfl
@[simp] theorem Part.withClock_exceptions (x) : (p.withClock x).exceptions = p.exceptions := rfl
@[simp] theorem Part.withClock_bus (x) : (p.withClock x).bus = p.bus := rfl
@[simp] theorem Part.withClock_peers (x) : (p.withClock x).peers = p.peers := rfl
@[simp] theorem Part.withClock_clock (x) : (p.withClock x).clock = x := rfl
@[simp] theorem Part.withClock_outputs (x) : (p.withClock x).outputs = p.outputs := rfl
@[simp] theorem Part.withClock_occupancy (x) : (p.withClock x).occupancy = p.occupancy := rfl
@[simp] theorem Part.withClock_startUp (x) : (p.withClock x).startUp = p.startUp := rfl
@[simp] theorem Part.withClock_freeDraws (x) : (p.withClock x).freeDraws = p.freeDraws := rfl

/-! ### withOutputs -/

@[simp] theorem Part.withOutputs_moisture (x) : (p.withOutputs x).moisture = p.moisture := rfl
@[simp] theorem Part.withOutputs_substitution (x) : (p.withOutputs x).substitution = p.substitution := rfl
@[simp] theorem Part.withOutputs_climate (x) : (p.withOutputs x).climate = p.climate := rfl
@[simp] theorem Part.withOutputs_loops (x) : (p.withOutputs x).loops = p.loops := rfl
@[simp] theorem Part.withOutputs_inputs (x) : (p.withOutputs x).inputs = p.inputs := rfl
@[simp] theorem Part.withOutputs_fire (x) : (p.withOutputs x).fire = p.fire := rfl
@[simp] theorem Part.withOutputs_custody (x) : (p.withOutputs x).custody = p.custody := rfl
@[simp] theorem Part.withOutputs_hatch (x) : (p.withOutputs x).hatch = p.hatch := rfl
@[simp] theorem Part.withOutputs_exceptions (x) : (p.withOutputs x).exceptions = p.exceptions := rfl
@[simp] theorem Part.withOutputs_bus (x) : (p.withOutputs x).bus = p.bus := rfl
@[simp] theorem Part.withOutputs_peers (x) : (p.withOutputs x).peers = p.peers := rfl
@[simp] theorem Part.withOutputs_clock (x) : (p.withOutputs x).clock = p.clock := rfl
@[simp] theorem Part.withOutputs_outputs (x) : (p.withOutputs x).outputs = x := rfl
@[simp] theorem Part.withOutputs_occupancy (x) : (p.withOutputs x).occupancy = p.occupancy := rfl
@[simp] theorem Part.withOutputs_startUp (x) : (p.withOutputs x).startUp = p.startUp := rfl
@[simp] theorem Part.withOutputs_freeDraws (x) : (p.withOutputs x).freeDraws = p.freeDraws := rfl

/-! ### withOccupancy -/

@[simp] theorem Part.withOccupancy_moisture (x) : (p.withOccupancy x).moisture = p.moisture := rfl
@[simp] theorem Part.withOccupancy_substitution (x) : (p.withOccupancy x).substitution = p.substitution := rfl
@[simp] theorem Part.withOccupancy_climate (x) : (p.withOccupancy x).climate = p.climate := rfl
@[simp] theorem Part.withOccupancy_loops (x) : (p.withOccupancy x).loops = p.loops := rfl
@[simp] theorem Part.withOccupancy_inputs (x) : (p.withOccupancy x).inputs = p.inputs := rfl
@[simp] theorem Part.withOccupancy_fire (x) : (p.withOccupancy x).fire = p.fire := rfl
@[simp] theorem Part.withOccupancy_custody (x) : (p.withOccupancy x).custody = p.custody := rfl
@[simp] theorem Part.withOccupancy_hatch (x) : (p.withOccupancy x).hatch = p.hatch := rfl
@[simp] theorem Part.withOccupancy_exceptions (x) : (p.withOccupancy x).exceptions = p.exceptions := rfl
@[simp] theorem Part.withOccupancy_bus (x) : (p.withOccupancy x).bus = p.bus := rfl
@[simp] theorem Part.withOccupancy_peers (x) : (p.withOccupancy x).peers = p.peers := rfl
@[simp] theorem Part.withOccupancy_clock (x) : (p.withOccupancy x).clock = p.clock := rfl
@[simp] theorem Part.withOccupancy_outputs (x) : (p.withOccupancy x).outputs = p.outputs := rfl
@[simp] theorem Part.withOccupancy_occupancy (x) : (p.withOccupancy x).occupancy = x := rfl
@[simp] theorem Part.withOccupancy_startUp (x) : (p.withOccupancy x).startUp = p.startUp := rfl
@[simp] theorem Part.withOccupancy_freeDraws (x) : (p.withOccupancy x).freeDraws = p.freeDraws := rfl

/-! ### withStartUp -/

@[simp] theorem Part.withStartUp_moisture (x) : (p.withStartUp x).moisture = p.moisture := rfl
@[simp] theorem Part.withStartUp_substitution (x) : (p.withStartUp x).substitution = p.substitution := rfl
@[simp] theorem Part.withStartUp_climate (x) : (p.withStartUp x).climate = p.climate := rfl
@[simp] theorem Part.withStartUp_loops (x) : (p.withStartUp x).loops = p.loops := rfl
@[simp] theorem Part.withStartUp_inputs (x) : (p.withStartUp x).inputs = p.inputs := rfl
@[simp] theorem Part.withStartUp_fire (x) : (p.withStartUp x).fire = p.fire := rfl
@[simp] theorem Part.withStartUp_custody (x) : (p.withStartUp x).custody = p.custody := rfl
@[simp] theorem Part.withStartUp_hatch (x) : (p.withStartUp x).hatch = p.hatch := rfl
@[simp] theorem Part.withStartUp_exceptions (x) : (p.withStartUp x).exceptions = p.exceptions := rfl
@[simp] theorem Part.withStartUp_bus (x) : (p.withStartUp x).bus = p.bus := rfl
@[simp] theorem Part.withStartUp_peers (x) : (p.withStartUp x).peers = p.peers := rfl
@[simp] theorem Part.withStartUp_clock (x) : (p.withStartUp x).clock = p.clock := rfl
@[simp] theorem Part.withStartUp_outputs (x) : (p.withStartUp x).outputs = p.outputs := rfl
@[simp] theorem Part.withStartUp_occupancy (x) : (p.withStartUp x).occupancy = p.occupancy := rfl
@[simp] theorem Part.withStartUp_startUp (x) : (p.withStartUp x).startUp = x := rfl
@[simp] theorem Part.withStartUp_freeDraws (x) : (p.withStartUp x).freeDraws = p.freeDraws := rfl

/-! ### withFreeDraws -/

@[simp] theorem Part.withFreeDraws_moisture (x) : (p.withFreeDraws x).moisture = p.moisture := rfl
@[simp] theorem Part.withFreeDraws_substitution (x) : (p.withFreeDraws x).substitution = p.substitution := rfl
@[simp] theorem Part.withFreeDraws_climate (x) : (p.withFreeDraws x).climate = p.climate := rfl
@[simp] theorem Part.withFreeDraws_loops (x) : (p.withFreeDraws x).loops = p.loops := rfl
@[simp] theorem Part.withFreeDraws_inputs (x) : (p.withFreeDraws x).inputs = p.inputs := rfl
@[simp] theorem Part.withFreeDraws_fire (x) : (p.withFreeDraws x).fire = p.fire := rfl
@[simp] theorem Part.withFreeDraws_custody (x) : (p.withFreeDraws x).custody = p.custody := rfl
@[simp] theorem Part.withFreeDraws_hatch (x) : (p.withFreeDraws x).hatch = p.hatch := rfl
@[simp] theorem Part.withFreeDraws_exceptions (x) : (p.withFreeDraws x).exceptions = p.exceptions := rfl
@[simp] theorem Part.withFreeDraws_bus (x) : (p.withFreeDraws x).bus = p.bus := rfl
@[simp] theorem Part.withFreeDraws_peers (x) : (p.withFreeDraws x).peers = p.peers := rfl
@[simp] theorem Part.withFreeDraws_clock (x) : (p.withFreeDraws x).clock = p.clock := rfl
@[simp] theorem Part.withFreeDraws_outputs (x) : (p.withFreeDraws x).outputs = p.outputs := rfl
@[simp] theorem Part.withFreeDraws_occupancy (x) : (p.withFreeDraws x).occupancy = p.occupancy := rfl
@[simp] theorem Part.withFreeDraws_startUp (x) : (p.withFreeDraws x).startUp = p.startUp := rfl
@[simp] theorem Part.withFreeDraws_freeDraws (x) : (p.withFreeDraws x).freeDraws = x := rfl

/-! ### Readers of the part -/

theorem Part.now_eq : p.now = p.clock.localTime := rfl
theorem Part.minute_eq : p.minute = p.clock.minute := rfl
theorem Part.settings_eq : p.settings = p.startUp.settings := rfl
theorem Part.listenOnly_eq : p.listenOnly = p.bus.station.isNone := rfl
theorem Part.running_eq :
    p.running = (p.startUp.mainOn && !p.startUp.resetAsserted && p.startUp.inProgress.isNone) := rfl
theorem Part.starting_eq :
    p.starting = (p.startUp.mainOn && !p.startUp.resetAsserted && p.startUp.inProgress.isSome) := rfl

/-! ### The fixed tables -/

@[simp] theorem PerGroup.get_set_same {α : Type} (v : PerGroup α) (g : Group) (x : α) : (v.set g x).get g = x := by
  cases g <;> rfl

theorem PerGroup.get_set_other {α : Type} (v : PerGroup α) {g h : Group} (x : α) (ne : h ≠ g) :
    (v.set g x).get h = v.get h := by
  cases g <;> cases h <;> first | rfl | exact absurd rfl ne

@[simp] theorem PerGroup.get_of {α : Type} (f : Group → α) (g : Group) : (PerGroup.of f).get g = f g := by
  cases g <;> rfl

@[simp] theorem PerPlace.get_set_same {α : Type} (v : PerPlace α) (q : Place) (x : α) : (v.set q x).get q = x := by
  cases q <;> rfl

theorem PerPlace.get_set_other {α : Type} (v : PerPlace α) {q r : Place} (x : α) (ne : r ≠ q) :
    (v.set q x).get r = v.get r := by
  cases q <;> cases r <;> first | rfl | exact absurd rfl ne

@[simp] theorem PerPlace.get_of {α : Type} (f : Place → α) (q : Place) : (PerPlace.of f).get q = f q := by
  cases q <;> rfl

@[simp] theorem PerLoop.get_set_same {α : Type} (v : PerLoop α) (l : LoopId) (x : α) : (v.set l x).get l = x := by
  cases l <;> rfl

theorem PerLoop.get_set_other {α : Type} (v : PerLoop α) {l m : LoopId} (x : α) (ne : m ≠ l) :
    (v.set l x).get m = v.get m := by
  cases l <;> cases m <;> first | rfl | exact absurd rfl ne

@[simp] theorem PerInput.get_set_same {α : Type} (v : PerInput α) (i : InputId) (x : α) :
    (v.set i x).get i = x := by
  cases i <;> rfl

theorem PerInput.get_set_other {α : Type} (v : PerInput α) {i j : InputId} (x : α) (ne : j ≠ i) :
    (v.set i x).get j = v.get j := by
  cases i <;> cases j <;> first | rfl | exact absurd rfl ne

@[simp] theorem PerInput.get_of {α : Type} (f : InputId → α) (i : InputId) : (PerInput.of f).get i = f i := by
  cases i <;> rfl

@[simp] theorem PerLeaf.get_set_same {α : Type} (v : PerLeaf α) (l : Leaf) (x : α) : (v.set l x).get l = x := by
  cases l <;> rfl

@[simp] theorem PerLeaf.get_set_otherLeaf {α : Type} (v : PerLeaf α) (l : Leaf) (x : α) :
    (v.set l x).get (otherLeaf l) = v.get (otherLeaf l) := by
  cases l <;> rfl

@[simp] theorem OutputDriver.get_set_same (d : OutputDriver) (o : OutputId) (x : DigitalOutput) :
    (d.set o x).get o = x := by
  cases o <;> rfl

theorem OutputDriver.get_set_other (d : OutputDriver) {o r : OutputId} (x : DigitalOutput) (ne : r ≠ o) :
    (d.set o x).get r = d.get r := by
  cases o <;> cases r <;> first | rfl | exact absurd rfl ne

@[simp] theorem OutputDriver.set_out5 (d : OutputDriver) (o : OutputId) (x : DigitalOutput) :
    (d.set o x).out5 = d.out5 := by
  cases o <;> rfl

end Sys2Proof.Machine
end

