-- ==== Sys2Proof/Laws/Frames.lean ====
section
/-! SUPPORT. What each operation of the part leaves unchanged: one lemma per operation, naming every block it does not
touch. -/

namespace Sys2Proof.Machine

variable (p : Part)

/-! ### Ops -/

@[simp] theorem Part.requestOutput_frame (o : OutputId) (r : OutputRequest) :
    (p.requestOutput o r).moisture = p.moisture ∧ (p.requestOutput o r).substitution = p.substitution ∧
    (p.requestOutput o r).climate = p.climate ∧ (p.requestOutput o r).loops = p.loops ∧
    (p.requestOutput o r).inputs = p.inputs ∧ (p.requestOutput o r).fire = p.fire ∧
    (p.requestOutput o r).custody = p.custody ∧ (p.requestOutput o r).hatch = p.hatch ∧
    (p.requestOutput o r).exceptions = p.exceptions ∧ (p.requestOutput o r).bus = p.bus ∧
    (p.requestOutput o r).peers = p.peers ∧ (p.requestOutput o r).clock = p.clock ∧
    (p.requestOutput o r).occupancy = p.occupancy ∧ (p.requestOutput o r).startUp = p.startUp ∧
    (p.requestOutput o r).freeDraws = p.freeDraws := by
  simp [Part.requestOutput]

@[simp] theorem Part.requestOpening_frame (n : Nat) :
    (p.requestOpening n).moisture = p.moisture ∧ (p.requestOpening n).substitution = p.substitution ∧
    (p.requestOpening n).climate = p.climate ∧ (p.requestOpening n).loops = p.loops ∧
    (p.requestOpening n).inputs = p.inputs ∧ (p.requestOpening n).fire = p.fire ∧
    (p.requestOpening n).custody = p.custody ∧ (p.requestOpening n).hatch = p.hatch ∧
    (p.requestOpening n).exceptions = p.exceptions ∧ (p.requestOpening n).bus = p.bus ∧
    (p.requestOpening n).peers = p.peers ∧ (p.requestOpening n).clock = p.clock ∧
    (p.requestOpening n).occupancy = p.occupancy ∧ (p.requestOpening n).startUp = p.startUp ∧
    (p.requestOpening n).freeDraws = p.freeDraws := by
  simp [Part.requestOpening]

@[simp] theorem Part.handFrame_frame (f : TxFrame) :
    (p.handFrame f).moisture = p.moisture ∧ (p.handFrame f).substitution = p.substitution ∧
    (p.handFrame f).climate = p.climate ∧ (p.handFrame f).loops = p.loops ∧ (p.handFrame f).inputs = p.inputs ∧
    (p.handFrame f).fire = p.fire ∧ (p.handFrame f).custody = p.custody ∧ (p.handFrame f).hatch = p.hatch ∧
    (p.handFrame f).exceptions = p.exceptions ∧ (p.handFrame f).peers = p.peers ∧ (p.handFrame f).clock = p.clock ∧
    (p.handFrame f).outputs = p.outputs ∧ (p.handFrame f).occupancy = p.occupancy ∧
    (p.handFrame f).startUp = p.startUp ∧ (p.handFrame f).freeDraws = p.freeDraws := by
  unfold Part.handFrame
  split <;> simp

@[simp] theorem Part.reply_frame (a : Asker) (st : Status) (d : ReplyData) :
    (p.reply a st d).moisture = p.moisture ∧ (p.reply a st d).substitution = p.substitution ∧
    (p.reply a st d).climate = p.climate ∧ (p.reply a st d).loops = p.loops ∧ (p.reply a st d).inputs = p.inputs ∧
    (p.reply a st d).fire = p.fire ∧ (p.reply a st d).custody = p.custody ∧ (p.reply a st d).hatch = p.hatch ∧
    (p.reply a st d).exceptions = p.exceptions ∧ (p.reply a st d).peers = p.peers ∧
    (p.reply a st d).clock = p.clock ∧ (p.reply a st d).outputs = p.outputs ∧
    (p.reply a st d).occupancy = p.occupancy ∧ (p.reply a st d).startUp = p.startUp ∧
    (p.reply a st d).freeDraws = p.freeDraws := by
  simp [Part.reply]

@[simp] theorem Part.raise_frame (k : ExceptionKind) (x : ExceptionSubject) :
    (p.raise k x).moisture = p.moisture ∧ (p.raise k x).substitution = p.substitution ∧
    (p.raise k x).climate = p.climate ∧ (p.raise k x).loops = p.loops ∧ (p.raise k x).inputs = p.inputs ∧
    (p.raise k x).fire = p.fire ∧ (p.raise k x).custody = p.custody ∧ (p.raise k x).hatch = p.hatch ∧
    (p.raise k x).bus = p.bus ∧ (p.raise k x).peers = p.peers ∧ (p.raise k x).clock = p.clock ∧
    (p.raise k x).outputs = p.outputs ∧ (p.raise k x).occupancy = p.occupancy ∧ (p.raise k x).startUp = p.startUp ∧
    (p.raise k x).freeDraws = p.freeDraws := by
  simp [Part.raise]

@[simp] theorem Part.draw_frame :
    p.draw.moisture = p.moisture ∧ p.draw.substitution = p.substitution ∧ p.draw.climate = p.climate ∧
    p.draw.loops = p.loops ∧ p.draw.inputs = p.inputs ∧ p.draw.fire = p.fire ∧ p.draw.custody = p.custody ∧
    p.draw.hatch = p.hatch ∧ p.draw.exceptions = p.exceptions ∧ p.draw.bus = p.bus ∧ p.draw.peers = p.peers ∧
    p.draw.clock = p.clock ∧ p.draw.outputs = p.outputs ∧ p.draw.occupancy = p.occupancy ∧
    p.draw.startUp = p.startUp := by
  simp [Part.draw]

@[simp] theorem Part.handFireState_frame :
    p.handFireState.moisture = p.moisture ∧ p.handFireState.substitution = p.substitution ∧
    p.handFireState.climate = p.climate ∧ p.handFireState.loops = p.loops ∧ p.handFireState.inputs = p.inputs ∧
    p.handFireState.fire = p.fire ∧ p.handFireState.custody = p.custody ∧ p.handFireState.hatch = p.hatch ∧
    p.handFireState.exceptions = p.exceptions ∧ p.handFireState.peers = p.peers ∧ p.handFireState.clock = p.clock ∧
    p.handFireState.outputs = p.outputs ∧ p.handFireState.occupancy = p.occupancy ∧
    p.handFireState.startUp = p.startUp ∧ p.handFireState.freeDraws = p.freeDraws := by
  simp [Part.handFireState]

@[simp] theorem Part.handStatus_frame :
    p.handStatus.moisture = p.moisture ∧ p.handStatus.substitution = p.substitution ∧
    p.handStatus.climate = p.climate ∧ p.handStatus.loops = p.loops ∧ p.handStatus.inputs = p.inputs ∧
    p.handStatus.fire = p.fire ∧ p.handStatus.custody = p.custody ∧ p.handStatus.hatch = p.hatch ∧
    p.handStatus.exceptions = p.exceptions ∧ p.handStatus.peers = p.peers ∧ p.handStatus.clock = p.clock ∧
    p.handStatus.outputs = p.outputs ∧ p.handStatus.occupancy = p.occupancy ∧ p.handStatus.startUp = p.startUp ∧
    p.handStatus.freeDraws = p.freeDraws := by
  simp [Part.handStatus]

/-! ### Climate -/

@[simp] theorem Part.setDamperFault_frame (b : Bool) :
    (p.setDamperFault b).moisture = p.moisture ∧ (p.setDamperFault b).substitution = p.substitution ∧
    (p.setDamperFault b).loops = p.loops ∧ (p.setDamperFault b).inputs = p.inputs ∧
    (p.setDamperFault b).fire = p.fire ∧ (p.setDamperFault b).custody = p.custody ∧
    (p.setDamperFault b).hatch = p.hatch ∧ (p.setDamperFault b).exceptions = p.exceptions ∧
    (p.setDamperFault b).peers = p.peers ∧ (p.setDamperFault b).clock = p.clock ∧
    (p.setDamperFault b).outputs = p.outputs ∧ (p.setDamperFault b).occupancy = p.occupancy ∧
    (p.setDamperFault b).startUp = p.startUp ∧ (p.setDamperFault b).freeDraws = p.freeDraws := by
  unfold Part.setDamperFault
  split <;> simp

@[simp] theorem Part.startConfirmation_frame :
    p.startConfirmation.moisture = p.moisture ∧ p.startConfirmation.substitution = p.substitution ∧
    p.startConfirmation.loops = p.loops ∧ p.startConfirmation.inputs = p.inputs ∧
    p.startConfirmation.fire = p.fire ∧ p.startConfirmation.custody = p.custody ∧
    p.startConfirmation.hatch = p.hatch ∧ p.startConfirmation.exceptions = p.exceptions ∧
    p.startConfirmation.bus = p.bus ∧ p.startConfirmation.peers = p.peers ∧ p.startConfirmation.clock = p.clock ∧
    p.startConfirmation.outputs = p.outputs ∧ p.startConfirmation.occupancy = p.occupancy ∧
    p.startConfirmation.startUp = p.startUp ∧ p.startConfirmation.freeDraws = p.freeDraws := by
  unfold Part.startConfirmation
  split <;> simp

@[simp] theorem Part.endConfirmation_frame :
    p.endConfirmation.moisture = p.moisture ∧ p.endConfirmation.substitution = p.substitution ∧
    p.endConfirmation.loops = p.loops ∧ p.endConfirmation.inputs = p.inputs ∧ p.endConfirmation.fire = p.fire ∧
    p.endConfirmation.custody = p.custody ∧ p.endConfirmation.hatch = p.hatch ∧
    p.endConfirmation.exceptions = p.exceptions ∧ p.endConfirmation.bus = p.bus ∧
    p.endConfirmation.peers = p.peers ∧ p.endConfirmation.clock = p.clock ∧ p.endConfirmation.outputs = p.outputs ∧
    p.endConfirmation.occupancy = p.occupancy ∧ p.endConfirmation.startUp = p.startUp ∧
    p.endConfirmation.freeDraws = p.freeDraws := by
  simp [Part.endConfirmation]

@[simp] theorem Part.superviseCommand_frame (n : Nat) :
    (p.superviseCommand n).moisture = p.moisture ∧ (p.superviseCommand n).substitution = p.substitution ∧
    (p.superviseCommand n).loops = p.loops ∧ (p.superviseCommand n).inputs = p.inputs ∧
    (p.superviseCommand n).fire = p.fire ∧ (p.superviseCommand n).custody = p.custody ∧
    (p.superviseCommand n).hatch = p.hatch ∧ (p.superviseCommand n).exceptions = p.exceptions ∧
    (p.superviseCommand n).peers = p.peers ∧ (p.superviseCommand n).clock = p.clock ∧
    (p.superviseCommand n).outputs = p.outputs ∧ (p.superviseCommand n).occupancy = p.occupancy ∧
    (p.superviseCommand n).startUp = p.startUp ∧ (p.superviseCommand n).freeDraws = p.freeDraws := by
  unfold Part.superviseCommand
  (repeat' split) <;> simp

@[simp] theorem Part.superviseSwitch_frame (b : Bool) :
    (p.superviseSwitch b).moisture = p.moisture ∧ (p.superviseSwitch b).substitution = p.substitution ∧
    (p.superviseSwitch b).loops = p.loops ∧ (p.superviseSwitch b).inputs = p.inputs ∧
    (p.superviseSwitch b).fire = p.fire ∧ (p.superviseSwitch b).custody = p.custody ∧
    (p.superviseSwitch b).hatch = p.hatch ∧ (p.superviseSwitch b).exceptions = p.exceptions ∧
    (p.superviseSwitch b).peers = p.peers ∧ (p.superviseSwitch b).clock = p.clock ∧
    (p.superviseSwitch b).outputs = p.outputs ∧ (p.superviseSwitch b).occupancy = p.occupancy ∧
    (p.superviseSwitch b).startUp = p.startUp ∧ (p.superviseSwitch b).freeDraws = p.freeDraws := by
  unfold Part.superviseSwitch
  (repeat' split) <;> simp

@[simp] theorem Part.handClimate_frame :
    p.handClimate.moisture = p.moisture ∧ p.handClimate.substitution = p.substitution ∧
    p.handClimate.climate = p.climate ∧ p.handClimate.loops = p.loops ∧ p.handClimate.inputs = p.inputs ∧
    p.handClimate.fire = p.fire ∧ p.handClimate.custody = p.custody ∧ p.handClimate.hatch = p.hatch ∧
    p.handClimate.exceptions = p.exceptions ∧ p.handClimate.peers = p.peers ∧ p.handClimate.clock = p.clock ∧
    p.handClimate.outputs = p.outputs ∧ p.handClimate.occupancy = p.occupancy ∧ p.handClimate.startUp = p.startUp ∧
    p.handClimate.freeDraws = p.freeDraws := by
  simp [Part.handClimate]

@[simp] theorem Part.offerClimate_frame :
    p.offerClimate.moisture = p.moisture ∧ p.offerClimate.substitution = p.substitution ∧
    p.offerClimate.climate = p.climate ∧ p.offerClimate.loops = p.loops ∧ p.offerClimate.inputs = p.inputs ∧
    p.offerClimate.fire = p.fire ∧ p.offerClimate.custody = p.custody ∧ p.offerClimate.hatch = p.hatch ∧
    p.offerClimate.exceptions = p.exceptions ∧ p.offerClimate.peers = p.peers ∧ p.offerClimate.clock = p.clock ∧
    p.offerClimate.outputs = p.outputs ∧ p.offerClimate.occupancy = p.occupancy ∧
    p.offerClimate.startUp = p.startUp ∧ p.offerClimate.freeDraws = p.freeDraws := by
  unfold Part.offerClimate
  split <;> simp

@[simp] theorem Part.takeChoice_frame (e g : Nat) (c : AirPathChoice) :
    (p.takeChoice e g c).moisture = p.moisture ∧ (p.takeChoice e g c).substitution = p.substitution ∧
    (p.takeChoice e g c).loops = p.loops ∧ (p.takeChoice e g c).inputs = p.inputs ∧
    (p.takeChoice e g c).fire = p.fire ∧ (p.takeChoice e g c).custody = p.custody ∧
    (p.takeChoice e g c).hatch = p.hatch ∧ (p.takeChoice e g c).exceptions = p.exceptions ∧
    (p.takeChoice e g c).peers = p.peers ∧ (p.takeChoice e g c).clock = p.clock ∧
    (p.takeChoice e g c).occupancy = p.occupancy ∧ (p.takeChoice e g c).startUp = p.startUp ∧
    (p.takeChoice e g c).freeDraws = p.freeDraws := by
  simp [Part.takeChoice]

@[simp] theorem Part.resolveAirPath_frame :
    p.resolveAirPath.moisture = p.moisture ∧ p.resolveAirPath.substitution = p.substitution ∧
    p.resolveAirPath.loops = p.loops ∧ p.resolveAirPath.inputs = p.inputs ∧ p.resolveAirPath.fire = p.fire ∧
    p.resolveAirPath.custody = p.custody ∧ p.resolveAirPath.hatch = p.hatch ∧
    p.resolveAirPath.exceptions = p.exceptions ∧ p.resolveAirPath.peers = p.peers ∧
    p.resolveAirPath.clock = p.clock ∧ p.resolveAirPath.occupancy = p.occupancy ∧
    p.resolveAirPath.startUp = p.startUp ∧ p.resolveAirPath.freeDraws = p.freeDraws := by
  simp [Part.resolveAirPath]

@[simp] theorem Part.evaluate_frame :
    p.evaluate.moisture = p.moisture ∧ p.evaluate.substitution = p.substitution ∧ p.evaluate.loops = p.loops ∧
    p.evaluate.inputs = p.inputs ∧ p.evaluate.fire = p.fire ∧ p.evaluate.custody = p.custody ∧
    p.evaluate.hatch = p.hatch ∧ p.evaluate.exceptions = p.exceptions ∧ p.evaluate.peers = p.peers ∧
    p.evaluate.clock = p.clock ∧ p.evaluate.occupancy = p.occupancy ∧ p.evaluate.startUp = p.startUp ∧
    p.evaluate.freeDraws = p.freeDraws := by
  unfold Part.evaluate
  dsimp only
  split <;> simp

@[simp] theorem Part.climateHandOff_frame (x : Option Nat) :
    (p.climateHandOff x).moisture = p.moisture ∧ (p.climateHandOff x).substitution = p.substitution ∧
    (p.climateHandOff x).loops = p.loops ∧ (p.climateHandOff x).inputs = p.inputs ∧
    (p.climateHandOff x).fire = p.fire ∧ (p.climateHandOff x).custody = p.custody ∧
    (p.climateHandOff x).hatch = p.hatch ∧ (p.climateHandOff x).exceptions = p.exceptions ∧
    (p.climateHandOff x).peers = p.peers ∧ (p.climateHandOff x).clock = p.clock ∧
    (p.climateHandOff x).occupancy = p.occupancy ∧ (p.climateHandOff x).startUp = p.startUp ∧
    (p.climateHandOff x).freeDraws = p.freeDraws := by
  simp [Part.climateHandOff]

@[simp] theorem Part.takePlantInput_frame (b : Bool) :
    (p.takePlantInput b).moisture = p.moisture ∧ (p.takePlantInput b).substitution = p.substitution ∧
    (p.takePlantInput b).loops = p.loops ∧ (p.takePlantInput b).inputs = p.inputs ∧
    (p.takePlantInput b).fire = p.fire ∧ (p.takePlantInput b).custody = p.custody ∧
    (p.takePlantInput b).hatch = p.hatch ∧ (p.takePlantInput b).exceptions = p.exceptions ∧
    (p.takePlantInput b).peers = p.peers ∧ (p.takePlantInput b).clock = p.clock ∧
    (p.takePlantInput b).occupancy = p.occupancy ∧ (p.takePlantInput b).startUp = p.startUp ∧
    (p.takePlantInput b).freeDraws = p.freeDraws := by
  simp [Part.takePlantInput]

@[simp] theorem Part.confirmationExpires_frame :
    p.confirmationExpires.moisture = p.moisture ∧ p.confirmationExpires.substitution = p.substitution ∧
    p.confirmationExpires.loops = p.loops ∧ p.confirmationExpires.inputs = p.inputs ∧
    p.confirmationExpires.fire = p.fire ∧ p.confirmationExpires.custody = p.custody ∧
    p.confirmationExpires.hatch = p.hatch ∧ p.confirmationExpires.exceptions = p.exceptions ∧
    p.confirmationExpires.peers = p.peers ∧ p.confirmationExpires.clock = p.clock ∧
    p.confirmationExpires.outputs = p.outputs ∧ p.confirmationExpires.occupancy = p.occupancy ∧
    p.confirmationExpires.startUp = p.startUp ∧ p.confirmationExpires.freeDraws = p.freeDraws := by
  unfold Part.confirmationExpires
  split <;> simp

/-! ### Custody -/

@[simp] theorem Part.takeCheckout_frame (a : Asker) (n : Nat) (ls : List Label) :
    (p.takeCheckout a n ls).moisture = p.moisture ∧ (p.takeCheckout a n ls).substitution = p.substitution ∧
    (p.takeCheckout a n ls).climate = p.climate ∧ (p.takeCheckout a n ls).loops = p.loops ∧
    (p.takeCheckout a n ls).inputs = p.inputs ∧ (p.takeCheckout a n ls).fire = p.fire ∧
    (p.takeCheckout a n ls).hatch = p.hatch ∧ (p.takeCheckout a n ls).exceptions = p.exceptions ∧
    (p.takeCheckout a n ls).peers = p.peers ∧ (p.takeCheckout a n ls).clock = p.clock ∧
    (p.takeCheckout a n ls).outputs = p.outputs ∧ (p.takeCheckout a n ls).occupancy = p.occupancy ∧
    (p.takeCheckout a n ls).startUp = p.startUp ∧ (p.takeCheckout a n ls).freeDraws = p.freeDraws := by
  unfold Part.takeCheckout
  split <;> simp

@[simp] theorem Part.takeCancel_frame (a : Asker) (l : Label) (n : Nat) :
    (p.takeCancel a l n).moisture = p.moisture ∧ (p.takeCancel a l n).substitution = p.substitution ∧
    (p.takeCancel a l n).climate = p.climate ∧ (p.takeCancel a l n).loops = p.loops ∧
    (p.takeCancel a l n).inputs = p.inputs ∧ (p.takeCancel a l n).fire = p.fire ∧
    (p.takeCancel a l n).hatch = p.hatch ∧ (p.takeCancel a l n).exceptions = p.exceptions ∧
    (p.takeCancel a l n).peers = p.peers ∧ (p.takeCancel a l n).clock = p.clock ∧
    (p.takeCancel a l n).outputs = p.outputs ∧ (p.takeCancel a l n).occupancy = p.occupancy ∧
    (p.takeCancel a l n).startUp = p.startUp ∧ (p.takeCancel a l n).freeDraws = p.freeDraws := by
  simp only [Part.takeCancel, Part.conditional]
  (repeat' split) <;> simp

@[simp] theorem Part.takeExtend_frame (a : Asker) (l : Label) (n m : Nat) :
    (p.takeExtend a l n m).moisture = p.moisture ∧ (p.takeExtend a l n m).substitution = p.substitution ∧
    (p.takeExtend a l n m).climate = p.climate ∧ (p.takeExtend a l n m).loops = p.loops ∧
    (p.takeExtend a l n m).inputs = p.inputs ∧ (p.takeExtend a l n m).fire = p.fire ∧
    (p.takeExtend a l n m).hatch = p.hatch ∧ (p.takeExtend a l n m).exceptions = p.exceptions ∧
    (p.takeExtend a l n m).peers = p.peers ∧ (p.takeExtend a l n m).clock = p.clock ∧
    (p.takeExtend a l n m).outputs = p.outputs ∧ (p.takeExtend a l n m).occupancy = p.occupancy ∧
    (p.takeExtend a l n m).startUp = p.startUp ∧ (p.takeExtend a l n m).freeDraws = p.freeDraws := by
  simp only [Part.takeExtend, Part.conditional]
  (repeat' split) <;> simp

@[simp] theorem Part.takeShelved_frame (a : Asker) (l : Label) (n : Nat) :
    (p.takeShelved a l n).moisture = p.moisture ∧ (p.takeShelved a l n).substitution = p.substitution ∧
    (p.takeShelved a l n).climate = p.climate ∧ (p.takeShelved a l n).loops = p.loops ∧
    (p.takeShelved a l n).inputs = p.inputs ∧ (p.takeShelved a l n).fire = p.fire ∧
    (p.takeShelved a l n).hatch = p.hatch ∧ (p.takeShelved a l n).exceptions = p.exceptions ∧
    (p.takeShelved a l n).peers = p.peers ∧ (p.takeShelved a l n).clock = p.clock ∧
    (p.takeShelved a l n).outputs = p.outputs ∧ (p.takeShelved a l n).occupancy = p.occupancy ∧
    (p.takeShelved a l n).startUp = p.startUp ∧ (p.takeShelved a l n).freeDraws = p.freeDraws := by
  simp only [Part.takeShelved, Part.conditional]
  (repeat' split) <;> simp

@[simp] theorem Part.takeQuery_frame (a : Asker) (l : Label) :
    (p.takeQuery a l).moisture = p.moisture ∧ (p.takeQuery a l).substitution = p.substitution ∧
    (p.takeQuery a l).climate = p.climate ∧ (p.takeQuery a l).loops = p.loops ∧
    (p.takeQuery a l).inputs = p.inputs ∧ (p.takeQuery a l).fire = p.fire ∧ (p.takeQuery a l).custody = p.custody ∧
    (p.takeQuery a l).hatch = p.hatch ∧ (p.takeQuery a l).exceptions = p.exceptions ∧
    (p.takeQuery a l).peers = p.peers ∧ (p.takeQuery a l).clock = p.clock ∧ (p.takeQuery a l).outputs = p.outputs ∧
    (p.takeQuery a l).occupancy = p.occupancy ∧ (p.takeQuery a l).startUp = p.startUp ∧
    (p.takeQuery a l).freeDraws = p.freeDraws := by
  unfold Part.takeQuery
  split <;> simp

@[simp] theorem Part.takeList_frame (a : Asker) (n : Nat) :
    (p.takeList a n).moisture = p.moisture ∧ (p.takeList a n).substitution = p.substitution ∧
    (p.takeList a n).climate = p.climate ∧ (p.takeList a n).loops = p.loops ∧ (p.takeList a n).inputs = p.inputs ∧
    (p.takeList a n).fire = p.fire ∧ (p.takeList a n).custody = p.custody ∧ (p.takeList a n).hatch = p.hatch ∧
    (p.takeList a n).exceptions = p.exceptions ∧ (p.takeList a n).peers = p.peers ∧
    (p.takeList a n).clock = p.clock ∧ (p.takeList a n).outputs = p.outputs ∧
    (p.takeList a n).occupancy = p.occupancy ∧ (p.takeList a n).startUp = p.startUp ∧
    (p.takeList a n).freeDraws = p.freeDraws := by
  simp [Part.takeList]

@[simp] theorem Part.minuteCheck_frame :
    p.minuteCheck.moisture = p.moisture ∧ p.minuteCheck.substitution = p.substitution ∧
    p.minuteCheck.climate = p.climate ∧ p.minuteCheck.loops = p.loops ∧ p.minuteCheck.inputs = p.inputs ∧
    p.minuteCheck.fire = p.fire ∧ p.minuteCheck.hatch = p.hatch ∧ p.minuteCheck.exceptions = p.exceptions ∧
    p.minuteCheck.bus = p.bus ∧ p.minuteCheck.peers = p.peers ∧ p.minuteCheck.clock = p.clock ∧
    p.minuteCheck.outputs = p.outputs ∧ p.minuteCheck.occupancy = p.occupancy ∧ p.minuteCheck.startUp = p.startUp ∧
    p.minuteCheck.freeDraws = p.freeDraws := by
  simp [Part.minuteCheck]

/-! ### Hatch -/

@[simp] theorem Part.setHatchState_frame (st : HatchState) :
    (p.setHatchState st).moisture = p.moisture ∧ (p.setHatchState st).substitution = p.substitution ∧
    (p.setHatchState st).climate = p.climate ∧ (p.setHatchState st).loops = p.loops ∧
    (p.setHatchState st).inputs = p.inputs ∧ (p.setHatchState st).fire = p.fire ∧
    (p.setHatchState st).custody = p.custody ∧ (p.setHatchState st).exceptions = p.exceptions ∧
    (p.setHatchState st).bus = p.bus ∧ (p.setHatchState st).peers = p.peers ∧
    (p.setHatchState st).clock = p.clock ∧ (p.setHatchState st).outputs = p.outputs ∧
    (p.setHatchState st).occupancy = p.occupancy ∧ (p.setHatchState st).startUp = p.startUp ∧
    (p.setHatchState st).freeDraws = p.freeDraws := by
  simp [Part.setHatchState]

@[simp] theorem Part.setLock_frame (l : Leaf) (b : Bool) :
    (p.setLock l b).moisture = p.moisture ∧ (p.setLock l b).substitution = p.substitution ∧
    (p.setLock l b).climate = p.climate ∧ (p.setLock l b).loops = p.loops ∧ (p.setLock l b).inputs = p.inputs ∧
    (p.setLock l b).fire = p.fire ∧ (p.setLock l b).custody = p.custody ∧
    (p.setLock l b).exceptions = p.exceptions ∧ (p.setLock l b).bus = p.bus ∧ (p.setLock l b).peers = p.peers ∧
    (p.setLock l b).clock = p.clock ∧ (p.setLock l b).occupancy = p.occupancy ∧
    (p.setLock l b).startUp = p.startUp ∧ (p.setLock l b).freeDraws = p.freeDraws := by
  simp [Part.setLock]

@[simp] theorem Part.clearWindow_frame (l : Leaf) :
    (p.clearWindow l).moisture = p.moisture ∧ (p.clearWindow l).substitution = p.substitution ∧
    (p.clearWindow l).climate = p.climate ∧ (p.clearWindow l).loops = p.loops ∧
    (p.clearWindow l).inputs = p.inputs ∧ (p.clearWindow l).fire = p.fire ∧ (p.clearWindow l).custody = p.custody ∧
    (p.clearWindow l).exceptions = p.exceptions ∧ (p.clearWindow l).bus = p.bus ∧
    (p.clearWindow l).peers = p.peers ∧ (p.clearWindow l).clock = p.clock ∧ (p.clearWindow l).outputs = p.outputs ∧
    (p.clearWindow l).occupancy = p.occupancy ∧ (p.clearWindow l).startUp = p.startUp ∧
    (p.clearWindow l).freeDraws = p.freeDraws := by
  simp [Part.clearWindow]

@[simp] theorem Part.lockBoth_frame :
    p.lockBoth.moisture = p.moisture ∧ p.lockBoth.substitution = p.substitution ∧ p.lockBoth.climate = p.climate ∧
    p.lockBoth.loops = p.loops ∧ p.lockBoth.inputs = p.inputs ∧ p.lockBoth.fire = p.fire ∧
    p.lockBoth.custody = p.custody ∧ p.lockBoth.exceptions = p.exceptions ∧ p.lockBoth.bus = p.bus ∧
    p.lockBoth.peers = p.peers ∧ p.lockBoth.clock = p.clock ∧ p.lockBoth.occupancy = p.occupancy ∧
    p.lockBoth.startUp = p.startUp ∧ p.lockBoth.freeDraws = p.freeDraws := by
  simp [Part.lockBoth]

@[simp] theorem Part.unlock_frame (l : Leaf) :
    (p.unlock l).moisture = p.moisture ∧ (p.unlock l).substitution = p.substitution ∧
    (p.unlock l).climate = p.climate ∧ (p.unlock l).loops = p.loops ∧ (p.unlock l).inputs = p.inputs ∧
    (p.unlock l).fire = p.fire ∧ (p.unlock l).custody = p.custody ∧ (p.unlock l).exceptions = p.exceptions ∧
    (p.unlock l).bus = p.bus ∧ (p.unlock l).peers = p.peers ∧ (p.unlock l).clock = p.clock ∧
    (p.unlock l).occupancy = p.occupancy ∧ (p.unlock l).startUp = p.startUp ∧ (p.unlock l).freeDraws = p.freeDraws := by
  unfold Part.unlock
  split <;> simp

@[simp] theorem Part.handNotices_frame (xs : List Station) (t : NoticeType) (d : Option Direction) (b : Option Nat) (c : Option Cause) :
    (p.handNotices xs t d b c).moisture = p.moisture ∧ (p.handNotices xs t d b c).substitution = p.substitution ∧
    (p.handNotices xs t d b c).climate = p.climate ∧ (p.handNotices xs t d b c).loops = p.loops ∧
    (p.handNotices xs t d b c).inputs = p.inputs ∧ (p.handNotices xs t d b c).fire = p.fire ∧
    (p.handNotices xs t d b c).custody = p.custody ∧ (p.handNotices xs t d b c).hatch = p.hatch ∧
    (p.handNotices xs t d b c).exceptions = p.exceptions ∧ (p.handNotices xs t d b c).peers = p.peers ∧
    (p.handNotices xs t d b c).clock = p.clock ∧ (p.handNotices xs t d b c).outputs = p.outputs ∧
    (p.handNotices xs t d b c).occupancy = p.occupancy ∧ (p.handNotices xs t d b c).startUp = p.startUp ∧
    (p.handNotices xs t d b c).freeDraws = p.freeDraws := by
  unfold Part.handNotices
  generalize p.hatch.state = st
  induction xs generalizing p with
  | nil => simp
  | cons x xs ih =>
      simp only [List.foldl_cons]
      have h := ih (p.handFrame (newFrame .handover x (.notice
        { noticeType := t, direction := d.getD .out, batch := b.getD 0, hatch := st, cause := c })))
      simpa using h

@[simp] theorem Part.unlockWithNotice_frame (l : Leaf) (t : NoticeType) (xs : List Station) :
    (p.unlockWithNotice l t xs).moisture = p.moisture ∧ (p.unlockWithNotice l t xs).substitution = p.substitution ∧
    (p.unlockWithNotice l t xs).climate = p.climate ∧ (p.unlockWithNotice l t xs).loops = p.loops ∧
    (p.unlockWithNotice l t xs).inputs = p.inputs ∧ (p.unlockWithNotice l t xs).fire = p.fire ∧
    (p.unlockWithNotice l t xs).custody = p.custody ∧ (p.unlockWithNotice l t xs).exceptions = p.exceptions ∧
    (p.unlockWithNotice l t xs).peers = p.peers ∧ (p.unlockWithNotice l t xs).clock = p.clock ∧
    (p.unlockWithNotice l t xs).occupancy = p.occupancy ∧ (p.unlockWithNotice l t xs).startUp = p.startUp ∧
    (p.unlockWithNotice l t xs).freeDraws = p.freeDraws := by
  unfold Part.unlockWithNotice
  split <;> simp

@[simp] theorem Part.endPurge_frame :
    p.endPurge.moisture = p.moisture ∧ p.endPurge.substitution = p.substitution ∧ p.endPurge.loops = p.loops ∧
    p.endPurge.inputs = p.inputs ∧ p.endPurge.fire = p.fire ∧ p.endPurge.custody = p.custody ∧
    p.endPurge.exceptions = p.exceptions ∧ p.endPurge.peers = p.peers ∧ p.endPurge.clock = p.clock ∧
    p.endPurge.occupancy = p.occupancy ∧ p.endPurge.startUp = p.startUp ∧ p.endPurge.freeDraws = p.freeDraws := by
  unfold Part.endPurge
  split <;> simp

@[simp] theorem Part.abandonStage_frame :
    p.abandonStage.moisture = p.moisture ∧ p.abandonStage.substitution = p.substitution ∧
    p.abandonStage.loops = p.loops ∧ p.abandonStage.inputs = p.inputs ∧ p.abandonStage.fire = p.fire ∧
    p.abandonStage.exceptions = p.exceptions ∧ p.abandonStage.peers = p.peers ∧ p.abandonStage.clock = p.clock ∧
    p.abandonStage.occupancy = p.occupancy ∧ p.abandonStage.startUp = p.startUp ∧
    p.abandonStage.freeDraws = p.freeDraws := by
  unfold Part.abandonStage
  split <;> simp

@[simp] theorem Part.returnAccess_frame (b : Bool) :
    (p.returnAccess b).moisture = p.moisture ∧ (p.returnAccess b).substitution = p.substitution ∧
    (p.returnAccess b).climate = p.climate ∧ (p.returnAccess b).loops = p.loops ∧
    (p.returnAccess b).inputs = p.inputs ∧ (p.returnAccess b).fire = p.fire ∧
    (p.returnAccess b).custody = p.custody ∧ (p.returnAccess b).exceptions = p.exceptions ∧
    (p.returnAccess b).bus = p.bus ∧ (p.returnAccess b).peers = p.peers ∧ (p.returnAccess b).clock = p.clock ∧
    (p.returnAccess b).outputs = p.outputs ∧ (p.returnAccess b).occupancy = p.occupancy ∧
    (p.returnAccess b).startUp = p.startUp ∧ (p.returnAccess b).freeDraws = p.freeDraws := by
  unfold Part.returnAccess
  split <;> simp

@[simp] theorem Part.abandonHatchState_frame (h : HatchContext) :
    (p.abandonHatchState h).moisture = p.moisture ∧ (p.abandonHatchState h).substitution = p.substitution ∧
    (p.abandonHatchState h).climate = p.climate ∧ (p.abandonHatchState h).loops = p.loops ∧
    (p.abandonHatchState h).inputs = p.inputs ∧ (p.abandonHatchState h).fire = p.fire ∧
    (p.abandonHatchState h).custody = p.custody ∧ (p.abandonHatchState h).exceptions = p.exceptions ∧
    (p.abandonHatchState h).bus = p.bus ∧ (p.abandonHatchState h).peers = p.peers ∧
    (p.abandonHatchState h).clock = p.clock ∧ (p.abandonHatchState h).outputs = p.outputs ∧
    (p.abandonHatchState h).occupancy = p.occupancy ∧ (p.abandonHatchState h).startUp = p.startUp ∧
    (p.abandonHatchState h).freeDraws = p.freeDraws := by
  unfold Part.abandonHatchState
  (repeat' split) <;> simp

@[simp] theorem Part.abandonCore_frame :
    p.abandonCore.moisture = p.moisture ∧ p.abandonCore.substitution = p.substitution ∧
    p.abandonCore.loops = p.loops ∧ p.abandonCore.inputs = p.inputs ∧ p.abandonCore.fire = p.fire ∧
    p.abandonCore.exceptions = p.exceptions ∧ p.abandonCore.peers = p.peers ∧ p.abandonCore.clock = p.clock ∧
    p.abandonCore.occupancy = p.occupancy ∧ p.abandonCore.startUp = p.startUp ∧
    p.abandonCore.freeDraws = p.freeDraws := by
  simp [Part.abandonCore]

@[simp] theorem Part.abandon_frame (c : Cause) :
    (p.abandon c).moisture = p.moisture ∧ (p.abandon c).substitution = p.substitution ∧
    (p.abandon c).loops = p.loops ∧ (p.abandon c).inputs = p.inputs ∧ (p.abandon c).fire = p.fire ∧
    (p.abandon c).exceptions = p.exceptions ∧ (p.abandon c).peers = p.peers ∧ (p.abandon c).clock = p.clock ∧
    (p.abandon c).occupancy = p.occupancy ∧ (p.abandon c).startUp = p.startUp ∧
    (p.abandon c).freeDraws = p.freeDraws := by
  simp [Part.abandon, Part.abandonWith]

@[simp] theorem Part.forceLeaf_frame (l : Leaf) :
    (p.forceLeaf l).moisture = p.moisture ∧ (p.forceLeaf l).substitution = p.substitution ∧
    (p.forceLeaf l).climate = p.climate ∧ (p.forceLeaf l).loops = p.loops ∧ (p.forceLeaf l).inputs = p.inputs ∧
    (p.forceLeaf l).fire = p.fire ∧ (p.forceLeaf l).custody = p.custody ∧
    (p.forceLeaf l).exceptions = p.exceptions ∧ (p.forceLeaf l).bus = p.bus ∧ (p.forceLeaf l).peers = p.peers ∧
    (p.forceLeaf l).clock = p.clock ∧ (p.forceLeaf l).occupancy = p.occupancy ∧
    (p.forceLeaf l).startUp = p.startUp ∧ (p.forceLeaf l).freeDraws = p.freeDraws := by
  simp [Part.forceLeaf]

@[simp] theorem Part.forced_frame (l : Leaf) :
    (p.forced l).moisture = p.moisture ∧ (p.forced l).substitution = p.substitution ∧
    (p.forced l).loops = p.loops ∧ (p.forced l).inputs = p.inputs ∧ (p.forced l).fire = p.fire ∧
    (p.forced l).exceptions = p.exceptions ∧ (p.forced l).peers = p.peers ∧ (p.forced l).clock = p.clock ∧
    (p.forced l).occupancy = p.occupancy ∧ (p.forced l).startUp = p.startUp ∧ (p.forced l).freeDraws = p.freeDraws := by
  unfold Part.forced
  split <;> simp [Part.abandonWith]

@[simp] theorem Part.discardTally_frame (l : Leaf) :
    (p.discardTally l).moisture = p.moisture ∧ (p.discardTally l).substitution = p.substitution ∧
    (p.discardTally l).climate = p.climate ∧ (p.discardTally l).loops = p.loops ∧
    (p.discardTally l).inputs = p.inputs ∧ (p.discardTally l).fire = p.fire ∧
    (p.discardTally l).custody = p.custody ∧ (p.discardTally l).exceptions = p.exceptions ∧
    (p.discardTally l).bus = p.bus ∧ (p.discardTally l).peers = p.peers ∧ (p.discardTally l).clock = p.clock ∧
    (p.discardTally l).outputs = p.outputs ∧ (p.discardTally l).occupancy = p.occupancy ∧
    (p.discardTally l).startUp = p.startUp ∧ (p.discardTally l).freeDraws = p.freeDraws := by
  unfold Part.discardTally
  split <;> simp

@[simp] theorem Part.leafOpens_frame (l : Leaf) :
    (p.leafOpens l).moisture = p.moisture ∧ (p.leafOpens l).substitution = p.substitution ∧
    (p.leafOpens l).loops = p.loops ∧ (p.leafOpens l).inputs = p.inputs ∧ (p.leafOpens l).fire = p.fire ∧
    (p.leafOpens l).exceptions = p.exceptions ∧ (p.leafOpens l).peers = p.peers ∧ (p.leafOpens l).clock = p.clock ∧
    (p.leafOpens l).occupancy = p.occupancy ∧ (p.leafOpens l).startUp = p.startUp ∧
    (p.leafOpens l).freeDraws = p.freeDraws := by
  unfold Part.leafOpens
  split <;> simp

@[simp] theorem Part.startTallyAt_frame (l : Leaf) :
    (p.startTallyAt l).moisture = p.moisture ∧ (p.startTallyAt l).substitution = p.substitution ∧
    (p.startTallyAt l).climate = p.climate ∧ (p.startTallyAt l).loops = p.loops ∧
    (p.startTallyAt l).inputs = p.inputs ∧ (p.startTallyAt l).fire = p.fire ∧
    (p.startTallyAt l).custody = p.custody ∧ (p.startTallyAt l).exceptions = p.exceptions ∧
    (p.startTallyAt l).bus = p.bus ∧ (p.startTallyAt l).peers = p.peers ∧ (p.startTallyAt l).clock = p.clock ∧
    (p.startTallyAt l).outputs = p.outputs ∧ (p.startTallyAt l).occupancy = p.occupancy ∧
    (p.startTallyAt l).startUp = p.startUp ∧ (p.startTallyAt l).freeDraws = p.freeDraws := by
  simp [Part.startTallyAt]

@[simp] theorem Part.leafCloses_frame (l : Leaf) :
    (p.leafCloses l).moisture = p.moisture ∧ (p.leafCloses l).substitution = p.substitution ∧
    (p.leafCloses l).climate = p.climate ∧ (p.leafCloses l).loops = p.loops ∧ (p.leafCloses l).inputs = p.inputs ∧
    (p.leafCloses l).fire = p.fire ∧ (p.leafCloses l).custody = p.custody ∧
    (p.leafCloses l).exceptions = p.exceptions ∧ (p.leafCloses l).bus = p.bus ∧ (p.leafCloses l).peers = p.peers ∧
    (p.leafCloses l).clock = p.clock ∧ (p.leafCloses l).occupancy = p.occupancy ∧
    (p.leafCloses l).startUp = p.startUp ∧ (p.leafCloses l).freeDraws = p.freeDraws := by
  unfold Part.leafCloses
  dsimp only
  split <;> simp

@[simp] theorem Part.takeLeaf_frame (l : Leaf) (b : Bool) :
    (p.takeLeaf l b).moisture = p.moisture ∧ (p.takeLeaf l b).substitution = p.substitution ∧
    (p.takeLeaf l b).loops = p.loops ∧ (p.takeLeaf l b).inputs = p.inputs ∧ (p.takeLeaf l b).fire = p.fire ∧
    (p.takeLeaf l b).exceptions = p.exceptions ∧ (p.takeLeaf l b).peers = p.peers ∧
    (p.takeLeaf l b).clock = p.clock ∧ (p.takeLeaf l b).occupancy = p.occupancy ∧
    (p.takeLeaf l b).startUp = p.startUp ∧ (p.takeLeaf l b).freeDraws = p.freeDraws := by
  unfold Part.takeLeaf
  split <;> simp

@[simp] theorem Part.stagingTally_frame (t : TagReport) :
    (p.stagingTally t).moisture = p.moisture ∧ (p.stagingTally t).substitution = p.substitution ∧
    (p.stagingTally t).climate = p.climate ∧ (p.stagingTally t).loops = p.loops ∧
    (p.stagingTally t).inputs = p.inputs ∧ (p.stagingTally t).fire = p.fire ∧
    (p.stagingTally t).exceptions = p.exceptions ∧ (p.stagingTally t).bus = p.bus ∧
    (p.stagingTally t).peers = p.peers ∧ (p.stagingTally t).clock = p.clock ∧
    (p.stagingTally t).outputs = p.outputs ∧ (p.stagingTally t).occupancy = p.occupancy ∧
    (p.stagingTally t).startUp = p.startUp ∧ (p.stagingTally t).freeDraws = p.freeDraws := by
  unfold Part.stagingTally
  dsimp only
  (repeat' split) <;> simp

@[simp] theorem Part.departureTally_frame (t : TagReport) :
    (p.departureTally t).moisture = p.moisture ∧ (p.departureTally t).substitution = p.substitution ∧
    (p.departureTally t).climate = p.climate ∧ (p.departureTally t).loops = p.loops ∧
    (p.departureTally t).inputs = p.inputs ∧ (p.departureTally t).fire = p.fire ∧
    (p.departureTally t).exceptions = p.exceptions ∧ (p.departureTally t).peers = p.peers ∧
    (p.departureTally t).clock = p.clock ∧ (p.departureTally t).outputs = p.outputs ∧
    (p.departureTally t).occupancy = p.occupancy ∧ (p.departureTally t).startUp = p.startUp ∧
    (p.departureTally t).freeDraws = p.freeDraws := by
  unfold Part.departureTally
  dsimp only
  (repeat' split) <;> simp

@[simp] theorem Part.comparisonTally_frame (t : TagReport) :
    (p.comparisonTally t).moisture = p.moisture ∧ (p.comparisonTally t).substitution = p.substitution ∧
    (p.comparisonTally t).loops = p.loops ∧ (p.comparisonTally t).inputs = p.inputs ∧
    (p.comparisonTally t).fire = p.fire ∧ (p.comparisonTally t).exceptions = p.exceptions ∧
    (p.comparisonTally t).peers = p.peers ∧ (p.comparisonTally t).clock = p.clock ∧
    (p.comparisonTally t).occupancy = p.occupancy ∧ (p.comparisonTally t).startUp = p.startUp ∧
    (p.comparisonTally t).freeDraws = p.freeDraws := by
  unfold Part.comparisonTally
  dsimp only
  split <;> simp [Part.abandonWith]

@[simp] theorem Part.retrieveTally_frame (t : TagReport) :
    (p.retrieveTally t).moisture = p.moisture ∧ (p.retrieveTally t).substitution = p.substitution ∧
    (p.retrieveTally t).climate = p.climate ∧ (p.retrieveTally t).loops = p.loops ∧
    (p.retrieveTally t).inputs = p.inputs ∧ (p.retrieveTally t).fire = p.fire ∧
    (p.retrieveTally t).custody = p.custody ∧ (p.retrieveTally t).exceptions = p.exceptions ∧
    (p.retrieveTally t).peers = p.peers ∧ (p.retrieveTally t).clock = p.clock ∧
    (p.retrieveTally t).occupancy = p.occupancy ∧ (p.retrieveTally t).startUp = p.startUp ∧
    (p.retrieveTally t).freeDraws = p.freeDraws := by
  unfold Part.retrieveTally
  split <;> simp

@[simp] theorem Part.releaseExceptions_frame (t : TagReport) (rs : List CustodyRecord) :
    (p.releaseExceptions t rs).moisture = p.moisture ∧ (p.releaseExceptions t rs).substitution = p.substitution ∧
    (p.releaseExceptions t rs).climate = p.climate ∧ (p.releaseExceptions t rs).loops = p.loops ∧
    (p.releaseExceptions t rs).inputs = p.inputs ∧ (p.releaseExceptions t rs).fire = p.fire ∧
    (p.releaseExceptions t rs).custody = p.custody ∧ (p.releaseExceptions t rs).hatch = p.hatch ∧
    (p.releaseExceptions t rs).bus = p.bus ∧ (p.releaseExceptions t rs).peers = p.peers ∧
    (p.releaseExceptions t rs).clock = p.clock ∧ (p.releaseExceptions t rs).outputs = p.outputs ∧
    (p.releaseExceptions t rs).occupancy = p.occupancy ∧ (p.releaseExceptions t rs).startUp = p.startUp ∧
    (p.releaseExceptions t rs).freeDraws = p.freeDraws := by
  unfold Part.releaseExceptions
  dsimp only
  (repeat' split) <;> simp

@[simp] theorem Part.releaseTally_frame (t : TagReport) :
    (p.releaseTally t).moisture = p.moisture ∧ (p.releaseTally t).substitution = p.substitution ∧
    (p.releaseTally t).climate = p.climate ∧ (p.releaseTally t).loops = p.loops ∧
    (p.releaseTally t).inputs = p.inputs ∧ (p.releaseTally t).fire = p.fire ∧ (p.releaseTally t).peers = p.peers ∧
    (p.releaseTally t).clock = p.clock ∧ (p.releaseTally t).occupancy = p.occupancy ∧
    (p.releaseTally t).startUp = p.startUp ∧ (p.releaseTally t).freeDraws = p.freeDraws := by
  unfold Part.releaseTally
  dsimp only
  (repeat' split) <;> simp

@[simp] theorem Part.applyTally_frame (o : TallyOutcome) (t : TagReport) :
    (p.applyTally o t).moisture = p.moisture ∧ (p.applyTally o t).substitution = p.substitution ∧
    (p.applyTally o t).loops = p.loops ∧ (p.applyTally o t).inputs = p.inputs ∧ (p.applyTally o t).fire = p.fire ∧
    (p.applyTally o t).peers = p.peers ∧ (p.applyTally o t).clock = p.clock ∧
    (p.applyTally o t).occupancy = p.occupancy ∧ (p.applyTally o t).startUp = p.startUp ∧
    (p.applyTally o t).freeDraws = p.freeDraws := by
  unfold Part.applyTally
  split <;> simp

@[simp] theorem Part.tallyCompletes_frame (t : TagReport) :
    (p.tallyCompletes t).moisture = p.moisture ∧ (p.tallyCompletes t).substitution = p.substitution ∧
    (p.tallyCompletes t).loops = p.loops ∧ (p.tallyCompletes t).inputs = p.inputs ∧
    (p.tallyCompletes t).fire = p.fire ∧ (p.tallyCompletes t).peers = p.peers ∧
    (p.tallyCompletes t).clock = p.clock ∧ (p.tallyCompletes t).occupancy = p.occupancy ∧
    (p.tallyCompletes t).startUp = p.startUp ∧ (p.tallyCompletes t).freeDraws = p.freeDraws := by
  unfold Part.tallyCompletes
  split <;> simp

@[simp] theorem Part.windowExpires_frame (l : Leaf) :
    (p.windowExpires l).moisture = p.moisture ∧ (p.windowExpires l).substitution = p.substitution ∧
    (p.windowExpires l).loops = p.loops ∧ (p.windowExpires l).inputs = p.inputs ∧
    (p.windowExpires l).fire = p.fire ∧ (p.windowExpires l).exceptions = p.exceptions ∧
    (p.windowExpires l).peers = p.peers ∧ (p.windowExpires l).clock = p.clock ∧
    (p.windowExpires l).occupancy = p.occupancy ∧ (p.windowExpires l).startUp = p.startUp ∧
    (p.windowExpires l).freeDraws = p.freeDraws := by
  unfold Part.windowExpires
  dsimp only
  (repeat' split) <;> simp

@[simp] theorem Part.stepTimeoutExpires_frame :
    p.stepTimeoutExpires.moisture = p.moisture ∧ p.stepTimeoutExpires.substitution = p.substitution ∧
    p.stepTimeoutExpires.loops = p.loops ∧ p.stepTimeoutExpires.inputs = p.inputs ∧
    p.stepTimeoutExpires.fire = p.fire ∧ p.stepTimeoutExpires.exceptions = p.exceptions ∧
    p.stepTimeoutExpires.peers = p.peers ∧ p.stepTimeoutExpires.clock = p.clock ∧
    p.stepTimeoutExpires.occupancy = p.occupancy ∧ p.stepTimeoutExpires.startUp = p.startUp ∧
    p.stepTimeoutExpires.freeDraws = p.freeDraws := by
  unfold Part.stepTimeoutExpires
  dsimp only
  (repeat' split) <;> simp

@[simp] theorem Part.hatchTakesFire_frame (old : FireState) :
    (p.hatchTakesFire old).moisture = p.moisture ∧ (p.hatchTakesFire old).substitution = p.substitution ∧
    (p.hatchTakesFire old).loops = p.loops ∧ (p.hatchTakesFire old).inputs = p.inputs ∧
    (p.hatchTakesFire old).fire = p.fire ∧ (p.hatchTakesFire old).exceptions = p.exceptions ∧
    (p.hatchTakesFire old).peers = p.peers ∧ (p.hatchTakesFire old).clock = p.clock ∧
    (p.hatchTakesFire old).occupancy = p.occupancy ∧ (p.hatchTakesFire old).startUp = p.startUp ∧
    (p.hatchTakesFire old).freeDraws = p.freeDraws := by
  unfold Part.hatchTakesFire
  dsimp only
  (repeat' split) <;> simp

@[simp] theorem Part.completePurge_frame (b : Bool) :
    (p.completePurge b).moisture = p.moisture ∧ (p.completePurge b).substitution = p.substitution ∧
    (p.completePurge b).loops = p.loops ∧ (p.completePurge b).inputs = p.inputs ∧
    (p.completePurge b).fire = p.fire ∧ (p.completePurge b).custody = p.custody ∧
    (p.completePurge b).peers = p.peers ∧ (p.completePurge b).clock = p.clock ∧
    (p.completePurge b).occupancy = p.occupancy ∧ (p.completePurge b).startUp = p.startUp ∧
    (p.completePurge b).freeDraws = p.freeDraws := by
  unfold Part.completePurge
  split <;> simp

@[simp] theorem Part.purgeSecond_frame :
    p.purgeSecond.moisture = p.moisture ∧ p.purgeSecond.substitution = p.substitution ∧
    p.purgeSecond.loops = p.loops ∧ p.purgeSecond.inputs = p.inputs ∧ p.purgeSecond.fire = p.fire ∧
    p.purgeSecond.custody = p.custody ∧ p.purgeSecond.peers = p.peers ∧ p.purgeSecond.clock = p.clock ∧
    p.purgeSecond.occupancy = p.occupancy ∧ p.purgeSecond.startUp = p.startUp ∧
    p.purgeSecond.freeDraws = p.freeDraws := by
  unfold Part.purgeSecond
  dsimp only
  (repeat' split) <;> simp

@[simp] theorem Part.accumulateDose_frame (x y : Option Nat) :
    (p.accumulateDose x y).moisture = p.moisture ∧ (p.accumulateDose x y).substitution = p.substitution ∧
    (p.accumulateDose x y).climate = p.climate ∧ (p.accumulateDose x y).loops = p.loops ∧
    (p.accumulateDose x y).inputs = p.inputs ∧ (p.accumulateDose x y).fire = p.fire ∧
    (p.accumulateDose x y).custody = p.custody ∧ (p.accumulateDose x y).bus = p.bus ∧
    (p.accumulateDose x y).peers = p.peers ∧ (p.accumulateDose x y).clock = p.clock ∧
    (p.accumulateDose x y).outputs = p.outputs ∧ (p.accumulateDose x y).occupancy = p.occupancy ∧
    (p.accumulateDose x y).startUp = p.startUp ∧ (p.accumulateDose x y).freeDraws = p.freeDraws := by
  unfold Part.accumulateDose
  dsimp only
  (repeat' split) <;> simp

@[simp] theorem Part.toleranceHandOff_frame (x y : Option Nat) :
    (p.toleranceHandOff x y).moisture = p.moisture ∧ (p.toleranceHandOff x y).substitution = p.substitution ∧
    (p.toleranceHandOff x y).loops = p.loops ∧ (p.toleranceHandOff x y).inputs = p.inputs ∧
    (p.toleranceHandOff x y).fire = p.fire ∧ (p.toleranceHandOff x y).custody = p.custody ∧
    (p.toleranceHandOff x y).peers = p.peers ∧ (p.toleranceHandOff x y).clock = p.clock ∧
    (p.toleranceHandOff x y).occupancy = p.occupancy ∧ (p.toleranceHandOff x y).startUp = p.startUp ∧
    (p.toleranceHandOff x y).freeDraws = p.freeDraws := by
  unfold Part.toleranceHandOff
  dsimp only
  (repeat' split) <;> simp

@[simp] theorem Part.hatchHandOff_frame (x y : Option Nat) :
    (p.hatchHandOff x y).moisture = p.moisture ∧ (p.hatchHandOff x y).substitution = p.substitution ∧
    (p.hatchHandOff x y).loops = p.loops ∧ (p.hatchHandOff x y).inputs = p.inputs ∧
    (p.hatchHandOff x y).fire = p.fire ∧ (p.hatchHandOff x y).custody = p.custody ∧
    (p.hatchHandOff x y).peers = p.peers ∧ (p.hatchHandOff x y).clock = p.clock ∧
    (p.hatchHandOff x y).occupancy = p.occupancy ∧ (p.hatchHandOff x y).startUp = p.startUp ∧
    (p.hatchHandOff x y).freeDraws = p.freeDraws := by
  simp [Part.hatchHandOff]

/-! ### Handover -/

@[simp] theorem Part.takeOpenInner_frame (a : Asker) :
    (p.takeOpenInner a).moisture = p.moisture ∧ (p.takeOpenInner a).substitution = p.substitution ∧
    (p.takeOpenInner a).climate = p.climate ∧ (p.takeOpenInner a).loops = p.loops ∧
    (p.takeOpenInner a).inputs = p.inputs ∧ (p.takeOpenInner a).fire = p.fire ∧
    (p.takeOpenInner a).custody = p.custody ∧ (p.takeOpenInner a).exceptions = p.exceptions ∧
    (p.takeOpenInner a).peers = p.peers ∧ (p.takeOpenInner a).clock = p.clock ∧
    (p.takeOpenInner a).occupancy = p.occupancy ∧ (p.takeOpenInner a).startUp = p.startUp ∧
    (p.takeOpenInner a).freeDraws = p.freeDraws := by
  unfold Part.takeOpenInner
  dsimp only
  (repeat' split) <;> simp

@[simp] theorem Part.refuseSequence_frame (a : Asker) (h : HatchContext) :
    (p.refuseSequence a h).moisture = p.moisture ∧ (p.refuseSequence a h).substitution = p.substitution ∧
    (p.refuseSequence a h).climate = p.climate ∧ (p.refuseSequence a h).loops = p.loops ∧
    (p.refuseSequence a h).inputs = p.inputs ∧ (p.refuseSequence a h).fire = p.fire ∧
    (p.refuseSequence a h).custody = p.custody ∧ (p.refuseSequence a h).hatch = p.hatch ∧
    (p.refuseSequence a h).exceptions = p.exceptions ∧ (p.refuseSequence a h).peers = p.peers ∧
    (p.refuseSequence a h).clock = p.clock ∧ (p.refuseSequence a h).outputs = p.outputs ∧
    (p.refuseSequence a h).occupancy = p.occupancy ∧ (p.refuseSequence a h).startUp = p.startUp ∧
    (p.refuseSequence a h).freeDraws = p.freeDraws := by
  simp [Part.refuseSequence]

@[simp] theorem Part.takeOutboundAttest_frame (a : Asker) (r : HandoverRequest) :
    (p.takeOutboundAttest a r).moisture = p.moisture ∧ (p.takeOutboundAttest a r).substitution = p.substitution ∧
    (p.takeOutboundAttest a r).climate = p.climate ∧ (p.takeOutboundAttest a r).loops = p.loops ∧
    (p.takeOutboundAttest a r).inputs = p.inputs ∧ (p.takeOutboundAttest a r).fire = p.fire ∧
    (p.takeOutboundAttest a r).custody = p.custody ∧ (p.takeOutboundAttest a r).exceptions = p.exceptions ∧
    (p.takeOutboundAttest a r).peers = p.peers ∧ (p.takeOutboundAttest a r).clock = p.clock ∧
    (p.takeOutboundAttest a r).outputs = p.outputs ∧ (p.takeOutboundAttest a r).occupancy = p.occupancy ∧
    (p.takeOutboundAttest a r).startUp = p.startUp ∧ (p.takeOutboundAttest a r).freeDraws = p.freeDraws := by
  simp [Part.takeOutboundAttest]

@[simp] theorem Part.takeOutboundAccept_frame (a : Asker) (r : HandoverRequest) :
    (p.takeOutboundAccept a r).moisture = p.moisture ∧ (p.takeOutboundAccept a r).substitution = p.substitution ∧
    (p.takeOutboundAccept a r).climate = p.climate ∧ (p.takeOutboundAccept a r).loops = p.loops ∧
    (p.takeOutboundAccept a r).inputs = p.inputs ∧ (p.takeOutboundAccept a r).fire = p.fire ∧
    (p.takeOutboundAccept a r).custody = p.custody ∧ (p.takeOutboundAccept a r).exceptions = p.exceptions ∧
    (p.takeOutboundAccept a r).peers = p.peers ∧ (p.takeOutboundAccept a r).clock = p.clock ∧
    (p.takeOutboundAccept a r).occupancy = p.occupancy ∧ (p.takeOutboundAccept a r).startUp = p.startUp ∧
    (p.takeOutboundAccept a r).freeDraws = p.freeDraws := by
  simp [Part.takeOutboundAccept]

@[simp] theorem Part.takeInboundAttest_frame (a : Asker) (r : HandoverRequest) :
    (p.takeInboundAttest a r).moisture = p.moisture ∧ (p.takeInboundAttest a r).substitution = p.substitution ∧
    (p.takeInboundAttest a r).loops = p.loops ∧ (p.takeInboundAttest a r).inputs = p.inputs ∧
    (p.takeInboundAttest a r).fire = p.fire ∧ (p.takeInboundAttest a r).custody = p.custody ∧
    (p.takeInboundAttest a r).exceptions = p.exceptions ∧ (p.takeInboundAttest a r).peers = p.peers ∧
    (p.takeInboundAttest a r).clock = p.clock ∧ (p.takeInboundAttest a r).occupancy = p.occupancy ∧
    (p.takeInboundAttest a r).startUp = p.startUp ∧ (p.takeInboundAttest a r).freeDraws = p.freeDraws := by
  simp [Part.takeInboundAttest]

@[simp] theorem Part.takeStep_frame (a : Asker) (r : HandoverRequest) :
    (p.takeStep a r).moisture = p.moisture ∧ (p.takeStep a r).substitution = p.substitution ∧
    (p.takeStep a r).loops = p.loops ∧ (p.takeStep a r).inputs = p.inputs ∧ (p.takeStep a r).fire = p.fire ∧
    (p.takeStep a r).custody = p.custody ∧ (p.takeStep a r).exceptions = p.exceptions ∧
    (p.takeStep a r).peers = p.peers ∧ (p.takeStep a r).clock = p.clock ∧
    (p.takeStep a r).occupancy = p.occupancy ∧ (p.takeStep a r).startUp = p.startUp ∧
    (p.takeStep a r).freeDraws = p.freeDraws := by
  unfold Part.takeStep
  split <;> simp

@[simp] theorem Part.takeWhileOpen_frame (a : Asker) (r : HandoverRequest) :
    (p.takeWhileOpen a r).moisture = p.moisture ∧ (p.takeWhileOpen a r).substitution = p.substitution ∧
    (p.takeWhileOpen a r).loops = p.loops ∧ (p.takeWhileOpen a r).inputs = p.inputs ∧
    (p.takeWhileOpen a r).fire = p.fire ∧ (p.takeWhileOpen a r).exceptions = p.exceptions ∧
    (p.takeWhileOpen a r).peers = p.peers ∧ (p.takeWhileOpen a r).clock = p.clock ∧
    (p.takeWhileOpen a r).occupancy = p.occupancy ∧ (p.takeWhileOpen a r).startUp = p.startUp ∧
    (p.takeWhileOpen a r).freeDraws = p.freeDraws := by
  unfold Part.takeWhileOpen
  (repeat' split) <;> simp

@[simp] theorem Part.takePresentOut_frame (a : Asker) (b n c : Nat) :
    (p.takePresentOut a b n c).moisture = p.moisture ∧ (p.takePresentOut a b n c).substitution = p.substitution ∧
    (p.takePresentOut a b n c).climate = p.climate ∧ (p.takePresentOut a b n c).loops = p.loops ∧
    (p.takePresentOut a b n c).inputs = p.inputs ∧ (p.takePresentOut a b n c).fire = p.fire ∧
    (p.takePresentOut a b n c).custody = p.custody ∧ (p.takePresentOut a b n c).exceptions = p.exceptions ∧
    (p.takePresentOut a b n c).peers = p.peers ∧ (p.takePresentOut a b n c).clock = p.clock ∧
    (p.takePresentOut a b n c).outputs = p.outputs ∧ (p.takePresentOut a b n c).occupancy = p.occupancy ∧
    (p.takePresentOut a b n c).startUp = p.startUp ∧ (p.takePresentOut a b n c).freeDraws = p.freeDraws := by
  unfold Part.takePresentOut
  dsimp only
  (repeat' split) <;> simp

@[simp] theorem Part.takePresentIn_frame (a : Asker) (b n c : Nat) :
    (p.takePresentIn a b n c).moisture = p.moisture ∧ (p.takePresentIn a b n c).substitution = p.substitution ∧
    (p.takePresentIn a b n c).climate = p.climate ∧ (p.takePresentIn a b n c).loops = p.loops ∧
    (p.takePresentIn a b n c).inputs = p.inputs ∧ (p.takePresentIn a b n c).fire = p.fire ∧
    (p.takePresentIn a b n c).exceptions = p.exceptions ∧ (p.takePresentIn a b n c).peers = p.peers ∧
    (p.takePresentIn a b n c).clock = p.clock ∧ (p.takePresentIn a b n c).occupancy = p.occupancy ∧
    (p.takePresentIn a b n c).startUp = p.startUp ∧ (p.takePresentIn a b n c).freeDraws = p.freeDraws := by
  unfold Part.takePresentIn
  dsimp only
  (repeat' split) <;> simp

@[simp] theorem Part.takeResumption_frame (a : Asker) (r : HandoverRequest) :
    (p.takeResumption a r).moisture = p.moisture ∧ (p.takeResumption a r).substitution = p.substitution ∧
    (p.takeResumption a r).loops = p.loops ∧ (p.takeResumption a r).inputs = p.inputs ∧
    (p.takeResumption a r).fire = p.fire ∧ (p.takeResumption a r).custody = p.custody ∧
    (p.takeResumption a r).exceptions = p.exceptions ∧ (p.takeResumption a r).peers = p.peers ∧
    (p.takeResumption a r).clock = p.clock ∧ (p.takeResumption a r).occupancy = p.occupancy ∧
    (p.takeResumption a r).startUp = p.startUp ∧ (p.takeResumption a r).freeDraws = p.freeDraws := by
  unfold Part.takeResumption
  dsimp only
  (repeat' split) <;> simp

@[simp] theorem Part.takeRetrieveAccept_frame (a : Asker) (b : Nat) :
    (p.takeRetrieveAccept a b).moisture = p.moisture ∧ (p.takeRetrieveAccept a b).substitution = p.substitution ∧
    (p.takeRetrieveAccept a b).climate = p.climate ∧ (p.takeRetrieveAccept a b).loops = p.loops ∧
    (p.takeRetrieveAccept a b).inputs = p.inputs ∧ (p.takeRetrieveAccept a b).fire = p.fire ∧
    (p.takeRetrieveAccept a b).custody = p.custody ∧ (p.takeRetrieveAccept a b).exceptions = p.exceptions ∧
    (p.takeRetrieveAccept a b).peers = p.peers ∧ (p.takeRetrieveAccept a b).clock = p.clock ∧
    (p.takeRetrieveAccept a b).occupancy = p.occupancy ∧ (p.takeRetrieveAccept a b).startUp = p.startUp ∧
    (p.takeRetrieveAccept a b).freeDraws = p.freeDraws := by
  unfold Part.takeRetrieveAccept
  dsimp only
  (repeat' split) <;> simp

@[simp] theorem Part.takeWhileClosed_frame (a : Asker) (r : HandoverRequest) :
    (p.takeWhileClosed a r).moisture = p.moisture ∧ (p.takeWhileClosed a r).substitution = p.substitution ∧
    (p.takeWhileClosed a r).loops = p.loops ∧ (p.takeWhileClosed a r).inputs = p.inputs ∧
    (p.takeWhileClosed a r).fire = p.fire ∧ (p.takeWhileClosed a r).exceptions = p.exceptions ∧
    (p.takeWhileClosed a r).peers = p.peers ∧ (p.takeWhileClosed a r).clock = p.clock ∧
    (p.takeWhileClosed a r).occupancy = p.occupancy ∧ (p.takeWhileClosed a r).startUp = p.startUp ∧
    (p.takeWhileClosed a r).freeDraws = p.freeDraws := by
  unfold Part.takeWhileClosed
  split <;> simp

@[simp] theorem Part.takeHandover_frame (a : Asker) (r : HandoverRequest) :
    (p.takeHandover a r).moisture = p.moisture ∧ (p.takeHandover a r).substitution = p.substitution ∧
    (p.takeHandover a r).loops = p.loops ∧ (p.takeHandover a r).inputs = p.inputs ∧
    (p.takeHandover a r).fire = p.fire ∧ (p.takeHandover a r).exceptions = p.exceptions ∧
    (p.takeHandover a r).peers = p.peers ∧ (p.takeHandover a r).clock = p.clock ∧
    (p.takeHandover a r).occupancy = p.occupancy ∧ (p.takeHandover a r).startUp = p.startUp ∧
    (p.takeHandover a r).freeDraws = p.freeDraws := by
  unfold Part.takeHandover
  (repeat' split) <;> simp

/-! ### Fire -/

@[simp] theorem Part.requestSignals_frame :
    p.requestSignals.moisture = p.moisture ∧ p.requestSignals.substitution = p.substitution ∧
    p.requestSignals.climate = p.climate ∧ p.requestSignals.loops = p.loops ∧ p.requestSignals.inputs = p.inputs ∧
    p.requestSignals.fire = p.fire ∧ p.requestSignals.custody = p.custody ∧ p.requestSignals.hatch = p.hatch ∧
    p.requestSignals.exceptions = p.exceptions ∧ p.requestSignals.bus = p.bus ∧ p.requestSignals.peers = p.peers ∧
    p.requestSignals.clock = p.clock ∧ p.requestSignals.occupancy = p.occupancy ∧
    p.requestSignals.startUp = p.startUp ∧ p.requestSignals.freeDraws = p.freeDraws := by
  simp [Part.requestSignals]

@[simp] theorem Part.changeFire_frame (f : FireSequencer) :
    (p.changeFire f).moisture = p.moisture ∧ (p.changeFire f).substitution = p.substitution ∧
    (p.changeFire f).loops = p.loops ∧ (p.changeFire f).inputs = p.inputs ∧
    (p.changeFire f).exceptions = p.exceptions ∧ (p.changeFire f).peers = p.peers ∧
    (p.changeFire f).clock = p.clock ∧ (p.changeFire f).occupancy = p.occupancy ∧
    (p.changeFire f).startUp = p.startUp ∧ (p.changeFire f).freeDraws = p.freeDraws := by
  simp [Part.changeFire]

@[simp] theorem Part.updateFire_frame (f : FireSequencer) :
    (p.updateFire f).moisture = p.moisture ∧ (p.updateFire f).substitution = p.substitution ∧
    (p.updateFire f).climate = p.climate ∧ (p.updateFire f).loops = p.loops ∧ (p.updateFire f).inputs = p.inputs ∧
    (p.updateFire f).custody = p.custody ∧ (p.updateFire f).hatch = p.hatch ∧
    (p.updateFire f).exceptions = p.exceptions ∧ (p.updateFire f).peers = p.peers ∧
    (p.updateFire f).clock = p.clock ∧ (p.updateFire f).outputs = p.outputs ∧
    (p.updateFire f).occupancy = p.occupancy ∧ (p.updateFire f).startUp = p.startUp ∧
    (p.updateFire f).freeDraws = p.freeDraws := by
  simp [Part.updateFire]

@[simp] theorem Part.discharge_frame :
    p.discharge.moisture = p.moisture ∧ p.discharge.substitution = p.substitution ∧ p.discharge.loops = p.loops ∧
    p.discharge.inputs = p.inputs ∧ p.discharge.exceptions = p.exceptions ∧ p.discharge.peers = p.peers ∧
    p.discharge.clock = p.clock ∧ p.discharge.occupancy = p.occupancy ∧ p.discharge.startUp = p.startUp ∧
    p.discharge.freeDraws = p.freeDraws := by
  simp [Part.discharge]

@[simp] theorem Part.expireAtZero_frame :
    p.expireAtZero.moisture = p.moisture ∧ p.expireAtZero.substitution = p.substitution ∧
    p.expireAtZero.loops = p.loops ∧ p.expireAtZero.inputs = p.inputs ∧ p.expireAtZero.exceptions = p.exceptions ∧
    p.expireAtZero.peers = p.peers ∧ p.expireAtZero.clock = p.clock ∧ p.expireAtZero.occupancy = p.occupancy ∧
    p.expireAtZero.startUp = p.startUp ∧ p.expireAtZero.freeDraws = p.freeDraws := by
  unfold Part.expireAtZero
  split <;> simp

@[simp] theorem Part.enterPreDischarge_frame (n : Nat) (x : Option AlarmRecord) :
    (p.enterPreDischarge n x).moisture = p.moisture ∧ (p.enterPreDischarge n x).substitution = p.substitution ∧
    (p.enterPreDischarge n x).loops = p.loops ∧ (p.enterPreDischarge n x).inputs = p.inputs ∧
    (p.enterPreDischarge n x).exceptions = p.exceptions ∧ (p.enterPreDischarge n x).peers = p.peers ∧
    (p.enterPreDischarge n x).clock = p.clock ∧ (p.enterPreDischarge n x).occupancy = p.occupancy ∧
    (p.enterPreDischarge n x).startUp = p.startUp ∧ (p.enterPreDischarge n x).freeDraws = p.freeDraws := by
  simp [Part.enterPreDischarge]

@[simp] theorem Part.confirmFire_frame :
    p.confirmFire.moisture = p.moisture ∧ p.confirmFire.substitution = p.substitution ∧
    p.confirmFire.loops = p.loops ∧ p.confirmFire.inputs = p.inputs ∧ p.confirmFire.exceptions = p.exceptions ∧
    p.confirmFire.peers = p.peers ∧ p.confirmFire.clock = p.clock ∧ p.confirmFire.occupancy = p.occupancy ∧
    p.confirmFire.startUp = p.startUp ∧ p.confirmFire.freeDraws = p.freeDraws := by
  simp [Part.confirmFire]

@[simp] theorem Part.enterHold_frame (b : Bool) :
    (p.enterHold b).moisture = p.moisture ∧ (p.enterHold b).substitution = p.substitution ∧
    (p.enterHold b).loops = p.loops ∧ (p.enterHold b).inputs = p.inputs ∧
    (p.enterHold b).exceptions = p.exceptions ∧ (p.enterHold b).peers = p.peers ∧ (p.enterHold b).clock = p.clock ∧
    (p.enterHold b).occupancy = p.occupancy ∧ (p.enterHold b).startUp = p.startUp ∧
    (p.enterHold b).freeDraws = p.freeDraws := by
  simp [Part.enterHold]

@[simp] theorem Part.pulseEnds_frame :
    p.pulseEnds.moisture = p.moisture ∧ p.pulseEnds.substitution = p.substitution ∧ p.pulseEnds.loops = p.loops ∧
    p.pulseEnds.inputs = p.inputs ∧ p.pulseEnds.exceptions = p.exceptions ∧ p.pulseEnds.peers = p.peers ∧
    p.pulseEnds.clock = p.clock ∧ p.pulseEnds.occupancy = p.occupancy ∧ p.pulseEnds.startUp = p.startUp ∧
    p.pulseEnds.freeDraws = p.freeDraws := by
  unfold Part.pulseEnds
  split <;> simp

@[simp] theorem Part.confirmationEnds_frame :
    p.confirmationEnds.moisture = p.moisture ∧ p.confirmationEnds.substitution = p.substitution ∧
    p.confirmationEnds.loops = p.loops ∧ p.confirmationEnds.inputs = p.inputs ∧
    p.confirmationEnds.exceptions = p.exceptions ∧ p.confirmationEnds.peers = p.peers ∧
    p.confirmationEnds.clock = p.clock ∧ p.confirmationEnds.occupancy = p.occupancy ∧
    p.confirmationEnds.startUp = p.startUp ∧ p.confirmationEnds.freeDraws = p.freeDraws := by
  simp [Part.confirmationEnds]

@[simp] theorem Part.holdEnds_frame :
    p.holdEnds.moisture = p.moisture ∧ p.holdEnds.substitution = p.substitution ∧ p.holdEnds.loops = p.loops ∧
    p.holdEnds.inputs = p.inputs ∧ p.holdEnds.exceptions = p.exceptions ∧ p.holdEnds.peers = p.peers ∧
    p.holdEnds.clock = p.clock ∧ p.holdEnds.occupancy = p.occupancy ∧ p.holdEnds.startUp = p.startUp ∧
    p.holdEnds.freeDraws = p.freeDraws := by
  simp [Part.holdEnds]

@[simp] theorem Part.countdownSecond_frame :
    p.countdownSecond.moisture = p.moisture ∧ p.countdownSecond.substitution = p.substitution ∧
    p.countdownSecond.loops = p.loops ∧ p.countdownSecond.inputs = p.inputs ∧
    p.countdownSecond.exceptions = p.exceptions ∧ p.countdownSecond.peers = p.peers ∧
    p.countdownSecond.clock = p.clock ∧ p.countdownSecond.occupancy = p.occupancy ∧
    p.countdownSecond.startUp = p.startUp ∧ p.countdownSecond.freeDraws = p.freeDraws := by
  unfold Part.countdownSecond
  split <;> simp

@[simp] theorem Part.enterAlert_frame (x : AlarmRecord) :
    (p.enterAlert x).moisture = p.moisture ∧ (p.enterAlert x).substitution = p.substitution ∧
    (p.enterAlert x).loops = p.loops ∧ (p.enterAlert x).inputs = p.inputs ∧
    (p.enterAlert x).exceptions = p.exceptions ∧ (p.enterAlert x).peers = p.peers ∧
    (p.enterAlert x).clock = p.clock ∧ (p.enterAlert x).occupancy = p.occupancy ∧
    (p.enterAlert x).startUp = p.startUp ∧ (p.enterAlert x).freeDraws = p.freeDraws := by
  unfold Part.enterAlert
  dsimp only
  split <;> simp

@[simp] theorem Part.takeLoopChange_frame (l : LoopId) (x y : LoopClass) :
    (p.takeLoopChange l x y).moisture = p.moisture ∧ (p.takeLoopChange l x y).substitution = p.substitution ∧
    (p.takeLoopChange l x y).loops = p.loops ∧ (p.takeLoopChange l x y).inputs = p.inputs ∧
    (p.takeLoopChange l x y).exceptions = p.exceptions ∧ (p.takeLoopChange l x y).peers = p.peers ∧
    (p.takeLoopChange l x y).clock = p.clock ∧ (p.takeLoopChange l x y).occupancy = p.occupancy ∧
    (p.takeLoopChange l x y).startUp = p.startUp ∧ (p.takeLoopChange l x y).freeDraws = p.freeDraws := by
  unfold Part.takeLoopChange
  dsimp only
  (repeat' split) <;> simp

@[simp] theorem Part.takeNeighbourChange_frame (st : FireState) :
    (p.takeNeighbourChange st).moisture = p.moisture ∧ (p.takeNeighbourChange st).substitution = p.substitution ∧
    (p.takeNeighbourChange st).loops = p.loops ∧ (p.takeNeighbourChange st).inputs = p.inputs ∧
    (p.takeNeighbourChange st).exceptions = p.exceptions ∧ (p.takeNeighbourChange st).peers = p.peers ∧
    (p.takeNeighbourChange st).clock = p.clock ∧ (p.takeNeighbourChange st).occupancy = p.occupancy ∧
    (p.takeNeighbourChange st).startUp = p.startUp ∧ (p.takeNeighbourChange st).freeDraws = p.freeDraws := by
  unfold Part.takeNeighbourChange
  split <;> simp

@[simp] theorem Part.manualRelease_frame :
    p.manualRelease.moisture = p.moisture ∧ p.manualRelease.substitution = p.substitution ∧
    p.manualRelease.loops = p.loops ∧ p.manualRelease.inputs = p.inputs ∧
    p.manualRelease.exceptions = p.exceptions ∧ p.manualRelease.peers = p.peers ∧ p.manualRelease.clock = p.clock ∧
    p.manualRelease.occupancy = p.occupancy ∧ p.manualRelease.startUp = p.startUp ∧
    p.manualRelease.freeDraws = p.freeDraws := by
  unfold Part.manualRelease
  dsimp only
  (repeat' split) <;> simp

@[simp] theorem Part.takeAbort_frame (b : Bool) :
    (p.takeAbort b).moisture = p.moisture ∧ (p.takeAbort b).substitution = p.substitution ∧
    (p.takeAbort b).climate = p.climate ∧ (p.takeAbort b).loops = p.loops ∧ (p.takeAbort b).inputs = p.inputs ∧
    (p.takeAbort b).custody = p.custody ∧ (p.takeAbort b).hatch = p.hatch ∧
    (p.takeAbort b).exceptions = p.exceptions ∧ (p.takeAbort b).peers = p.peers ∧ (p.takeAbort b).clock = p.clock ∧
    (p.takeAbort b).outputs = p.outputs ∧ (p.takeAbort b).occupancy = p.occupancy ∧
    (p.takeAbort b).startUp = p.startUp ∧ (p.takeAbort b).freeDraws = p.freeDraws := by
  unfold Part.takeAbort
  dsimp only
  (repeat' split) <;> simp

@[simp] theorem Part.setCylinderLow_frame (b : Bool) :
    (p.setCylinderLow b).moisture = p.moisture ∧ (p.setCylinderLow b).substitution = p.substitution ∧
    (p.setCylinderLow b).climate = p.climate ∧ (p.setCylinderLow b).loops = p.loops ∧
    (p.setCylinderLow b).inputs = p.inputs ∧ (p.setCylinderLow b).custody = p.custody ∧
    (p.setCylinderLow b).hatch = p.hatch ∧ (p.setCylinderLow b).exceptions = p.exceptions ∧
    (p.setCylinderLow b).peers = p.peers ∧ (p.setCylinderLow b).clock = p.clock ∧
    (p.setCylinderLow b).outputs = p.outputs ∧ (p.setCylinderLow b).occupancy = p.occupancy ∧
    (p.setCylinderLow b).startUp = p.startUp ∧ (p.setCylinderLow b).freeDraws = p.freeDraws := by
  unfold Part.setCylinderLow
  split <;> simp

@[simp] theorem Part.takePressure_frame (b : Bool) :
    (p.takePressure b).moisture = p.moisture ∧ (p.takePressure b).substitution = p.substitution ∧
    (p.takePressure b).loops = p.loops ∧ (p.takePressure b).inputs = p.inputs ∧
    (p.takePressure b).exceptions = p.exceptions ∧ (p.takePressure b).peers = p.peers ∧
    (p.takePressure b).clock = p.clock ∧ (p.takePressure b).occupancy = p.occupancy ∧
    (p.takePressure b).startUp = p.startUp ∧ (p.takePressure b).freeDraws = p.freeDraws := by
  unfold Part.takePressure
  dsimp only
  (repeat' split) <;> simp

@[simp] theorem Part.takeCancelDischarge_frame (a : Asker) :
    (p.takeCancelDischarge a).moisture = p.moisture ∧ (p.takeCancelDischarge a).substitution = p.substitution ∧
    (p.takeCancelDischarge a).loops = p.loops ∧ (p.takeCancelDischarge a).inputs = p.inputs ∧
    (p.takeCancelDischarge a).exceptions = p.exceptions ∧ (p.takeCancelDischarge a).peers = p.peers ∧
    (p.takeCancelDischarge a).clock = p.clock ∧ (p.takeCancelDischarge a).occupancy = p.occupancy ∧
    (p.takeCancelDischarge a).startUp = p.startUp ∧ (p.takeCancelDischarge a).freeDraws = p.freeDraws := by
  unfold Part.takeCancelDischarge
  dsimp only
  (repeat' split) <;> simp

@[simp] theorem Part.takeResetFire_frame (a : Asker) :
    (p.takeResetFire a).moisture = p.moisture ∧ (p.takeResetFire a).substitution = p.substitution ∧
    (p.takeResetFire a).loops = p.loops ∧ (p.takeResetFire a).inputs = p.inputs ∧
    (p.takeResetFire a).exceptions = p.exceptions ∧ (p.takeResetFire a).peers = p.peers ∧
    (p.takeResetFire a).clock = p.clock ∧ (p.takeResetFire a).occupancy = p.occupancy ∧
    (p.takeResetFire a).startUp = p.startUp ∧ (p.takeResetFire a).freeDraws = p.freeDraws := by
  unfold Part.takeResetFire
  split <;> simp

/-! ### Substitution -/

@[simp] theorem Part.replyRemap_frame (a : Asker) (st : Status) (g : Group) :
    (p.replyRemap a st g).moisture = p.moisture ∧ (p.replyRemap a st g).substitution = p.substitution ∧
    (p.replyRemap a st g).climate = p.climate ∧ (p.replyRemap a st g).loops = p.loops ∧
    (p.replyRemap a st g).inputs = p.inputs ∧ (p.replyRemap a st g).fire = p.fire ∧
    (p.replyRemap a st g).custody = p.custody ∧ (p.replyRemap a st g).hatch = p.hatch ∧
    (p.replyRemap a st g).exceptions = p.exceptions ∧ (p.replyRemap a st g).peers = p.peers ∧
    (p.replyRemap a st g).clock = p.clock ∧ (p.replyRemap a st g).outputs = p.outputs ∧
    (p.replyRemap a st g).occupancy = p.occupancy ∧ (p.replyRemap a st g).startUp = p.startUp ∧
    (p.replyRemap a st g).freeDraws = p.freeDraws := by
  simp [Part.replyRemap]

@[simp] theorem Part.setSoft_frame (g : Group) (x : Option Position) :
    (p.setSoft g x).moisture = p.moisture ∧ (p.setSoft g x).climate = p.climate ∧ (p.setSoft g x).loops = p.loops ∧
    (p.setSoft g x).inputs = p.inputs ∧ (p.setSoft g x).fire = p.fire ∧ (p.setSoft g x).custody = p.custody ∧
    (p.setSoft g x).hatch = p.hatch ∧ (p.setSoft g x).exceptions = p.exceptions ∧ (p.setSoft g x).bus = p.bus ∧
    (p.setSoft g x).peers = p.peers ∧ (p.setSoft g x).clock = p.clock ∧ (p.setSoft g x).outputs = p.outputs ∧
    (p.setSoft g x).occupancy = p.occupancy ∧ (p.setSoft g x).startUp = p.startUp ∧
    (p.setSoft g x).freeDraws = p.freeDraws := by
  simp [Part.setSoft]

@[simp] theorem Part.takeRemapSoft_frame (a : Asker) (g : Group) (x : Position) :
    (p.takeRemapSoft a g x).moisture = p.moisture ∧ (p.takeRemapSoft a g x).climate = p.climate ∧
    (p.takeRemapSoft a g x).loops = p.loops ∧ (p.takeRemapSoft a g x).inputs = p.inputs ∧
    (p.takeRemapSoft a g x).fire = p.fire ∧ (p.takeRemapSoft a g x).custody = p.custody ∧
    (p.takeRemapSoft a g x).hatch = p.hatch ∧ (p.takeRemapSoft a g x).exceptions = p.exceptions ∧
    (p.takeRemapSoft a g x).peers = p.peers ∧ (p.takeRemapSoft a g x).clock = p.clock ∧
    (p.takeRemapSoft a g x).outputs = p.outputs ∧ (p.takeRemapSoft a g x).occupancy = p.occupancy ∧
    (p.takeRemapSoft a g x).startUp = p.startUp ∧ (p.takeRemapSoft a g x).freeDraws = p.freeDraws := by
  unfold Part.takeRemapSoft
  (repeat' split) <;> simp

@[simp] theorem Part.takeRemapClear_frame (a : Asker) (g : Group) :
    (p.takeRemapClear a g).moisture = p.moisture ∧ (p.takeRemapClear a g).climate = p.climate ∧
    (p.takeRemapClear a g).loops = p.loops ∧ (p.takeRemapClear a g).inputs = p.inputs ∧
    (p.takeRemapClear a g).fire = p.fire ∧ (p.takeRemapClear a g).custody = p.custody ∧
    (p.takeRemapClear a g).hatch = p.hatch ∧ (p.takeRemapClear a g).exceptions = p.exceptions ∧
    (p.takeRemapClear a g).peers = p.peers ∧ (p.takeRemapClear a g).clock = p.clock ∧
    (p.takeRemapClear a g).outputs = p.outputs ∧ (p.takeRemapClear a g).occupancy = p.occupancy ∧
    (p.takeRemapClear a g).startUp = p.startUp ∧ (p.takeRemapClear a g).freeDraws = p.freeDraws := by
  unfold Part.takeRemapClear
  split <;> simp

@[simp] theorem Part.beginBurn_frame (g : Group) (x : Position) :
    (p.beginBurn g x).moisture = p.moisture ∧ (p.beginBurn g x).climate = p.climate ∧
    (p.beginBurn g x).loops = p.loops ∧ (p.beginBurn g x).inputs = p.inputs ∧ (p.beginBurn g x).fire = p.fire ∧
    (p.beginBurn g x).custody = p.custody ∧ (p.beginBurn g x).hatch = p.hatch ∧
    (p.beginBurn g x).exceptions = p.exceptions ∧ (p.beginBurn g x).bus = p.bus ∧
    (p.beginBurn g x).peers = p.peers ∧ (p.beginBurn g x).clock = p.clock ∧ (p.beginBurn g x).outputs = p.outputs ∧
    (p.beginBurn g x).occupancy = p.occupancy ∧ (p.beginBurn g x).startUp = p.startUp ∧
    (p.beginBurn g x).freeDraws = p.freeDraws := by
  simp [Part.beginBurn]

@[simp] theorem Part.takeRemapHard_frame (a : Asker) (g : Group) (x : Position) :
    (p.takeRemapHard a g x).moisture = p.moisture ∧ (p.takeRemapHard a g x).climate = p.climate ∧
    (p.takeRemapHard a g x).loops = p.loops ∧ (p.takeRemapHard a g x).inputs = p.inputs ∧
    (p.takeRemapHard a g x).fire = p.fire ∧ (p.takeRemapHard a g x).custody = p.custody ∧
    (p.takeRemapHard a g x).hatch = p.hatch ∧ (p.takeRemapHard a g x).exceptions = p.exceptions ∧
    (p.takeRemapHard a g x).peers = p.peers ∧ (p.takeRemapHard a g x).clock = p.clock ∧
    (p.takeRemapHard a g x).outputs = p.outputs ∧ (p.takeRemapHard a g x).occupancy = p.occupancy ∧
    (p.takeRemapHard a g x).startUp = p.startUp ∧ (p.takeRemapHard a g x).freeDraws = p.freeDraws := by
  unfold Part.takeRemapHard
  (repeat' split) <;> simp

@[simp] theorem Part.burnCompletes_frame :
    p.burnCompletes.moisture = p.moisture ∧ p.burnCompletes.climate = p.climate ∧ p.burnCompletes.loops = p.loops ∧
    p.burnCompletes.inputs = p.inputs ∧ p.burnCompletes.fire = p.fire ∧ p.burnCompletes.custody = p.custody ∧
    p.burnCompletes.hatch = p.hatch ∧ p.burnCompletes.exceptions = p.exceptions ∧ p.burnCompletes.bus = p.bus ∧
    p.burnCompletes.peers = p.peers ∧ p.burnCompletes.clock = p.clock ∧ p.burnCompletes.outputs = p.outputs ∧
    p.burnCompletes.occupancy = p.occupancy ∧ p.burnCompletes.startUp = p.startUp ∧
    p.burnCompletes.freeDraws = p.freeDraws := by
  unfold Part.burnCompletes
  split <;> simp

/-! ### Moisture -/

@[simp] theorem Part.stalenessExpires_frame (g : Group) :
    (p.stalenessExpires g).substitution = p.substitution ∧ (p.stalenessExpires g).climate = p.climate ∧
    (p.stalenessExpires g).loops = p.loops ∧ (p.stalenessExpires g).inputs = p.inputs ∧
    (p.stalenessExpires g).fire = p.fire ∧ (p.stalenessExpires g).custody = p.custody ∧
    (p.stalenessExpires g).hatch = p.hatch ∧ (p.stalenessExpires g).exceptions = p.exceptions ∧
    (p.stalenessExpires g).bus = p.bus ∧ (p.stalenessExpires g).peers = p.peers ∧
    (p.stalenessExpires g).clock = p.clock ∧ (p.stalenessExpires g).outputs = p.outputs ∧
    (p.stalenessExpires g).occupancy = p.occupancy ∧ (p.stalenessExpires g).startUp = p.startUp ∧
    (p.stalenessExpires g).freeDraws = p.freeDraws := by
  simp [Part.stalenessExpires]

@[simp] theorem Part.beginScan_frame :
    p.beginScan.substitution = p.substitution ∧ p.beginScan.climate = p.climate ∧ p.beginScan.loops = p.loops ∧
    p.beginScan.inputs = p.inputs ∧ p.beginScan.fire = p.fire ∧ p.beginScan.custody = p.custody ∧
    p.beginScan.hatch = p.hatch ∧ p.beginScan.exceptions = p.exceptions ∧ p.beginScan.bus = p.bus ∧
    p.beginScan.peers = p.peers ∧ p.beginScan.clock = p.clock ∧ p.beginScan.outputs = p.outputs ∧
    p.beginScan.occupancy = p.occupancy ∧ p.beginScan.startUp = p.startUp ∧ p.beginScan.freeDraws = p.freeDraws := by
  simp [Part.beginScan]

@[simp] theorem Part.rescheduleScan_frame :
    p.rescheduleScan.substitution = p.substitution ∧ p.rescheduleScan.climate = p.climate ∧
    p.rescheduleScan.loops = p.loops ∧ p.rescheduleScan.inputs = p.inputs ∧ p.rescheduleScan.fire = p.fire ∧
    p.rescheduleScan.custody = p.custody ∧ p.rescheduleScan.hatch = p.hatch ∧
    p.rescheduleScan.exceptions = p.exceptions ∧ p.rescheduleScan.bus = p.bus ∧ p.rescheduleScan.peers = p.peers ∧
    p.rescheduleScan.clock = p.clock ∧ p.rescheduleScan.outputs = p.outputs ∧
    p.rescheduleScan.occupancy = p.occupancy ∧ p.rescheduleScan.startUp = p.startUp ∧
    p.rescheduleScan.freeDraws = p.freeDraws := by
  simp [Part.rescheduleScan]

@[simp] theorem Part.handScan_frame :
    p.handScan.moisture = p.moisture ∧ p.handScan.substitution = p.substitution ∧ p.handScan.loops = p.loops ∧
    p.handScan.inputs = p.inputs ∧ p.handScan.fire = p.fire ∧ p.handScan.custody = p.custody ∧
    p.handScan.peers = p.peers ∧ p.handScan.clock = p.clock ∧ p.handScan.occupancy = p.occupancy ∧
    p.handScan.startUp = p.startUp ∧ p.handScan.freeDraws = p.freeDraws := by
  simp [Part.handScan]

@[simp] theorem Part.scanCompletes_frame :
    p.scanCompletes.substitution = p.substitution ∧ p.scanCompletes.loops = p.loops ∧
    p.scanCompletes.inputs = p.inputs ∧ p.scanCompletes.fire = p.fire ∧ p.scanCompletes.custody = p.custody ∧
    p.scanCompletes.peers = p.peers ∧ p.scanCompletes.clock = p.clock ∧ p.scanCompletes.occupancy = p.occupancy ∧
    p.scanCompletes.startUp = p.startUp ∧ p.scanCompletes.freeDraws = p.freeDraws := by
  simp [Part.scanCompletes]

@[simp] theorem Part.decideChannel_frame (s : Scan) (g : Group) (x : Place) :
    (p.decideChannel s g x).substitution = p.substitution ∧ (p.decideChannel s g x).loops = p.loops ∧
    (p.decideChannel s g x).inputs = p.inputs ∧ (p.decideChannel s g x).fire = p.fire ∧
    (p.decideChannel s g x).custody = p.custody ∧ (p.decideChannel s g x).peers = p.peers ∧
    (p.decideChannel s g x).clock = p.clock ∧ (p.decideChannel s g x).occupancy = p.occupancy ∧
    (p.decideChannel s g x).startUp = p.startUp ∧ (p.decideChannel s g x).freeDraws = p.freeDraws := by
  unfold Part.decideChannel
  dsimp only
  split <;> simp

@[simp] theorem Part.channelMisses_frame (s : Scan) (g : Group) (x : Place) :
    (p.channelMisses s g x).substitution = p.substitution ∧ (p.channelMisses s g x).loops = p.loops ∧
    (p.channelMisses s g x).inputs = p.inputs ∧ (p.channelMisses s g x).fire = p.fire ∧
    (p.channelMisses s g x).custody = p.custody ∧ (p.channelMisses s g x).peers = p.peers ∧
    (p.channelMisses s g x).clock = p.clock ∧ (p.channelMisses s g x).occupancy = p.occupancy ∧
    (p.channelMisses s g x).startUp = p.startUp ∧ (p.channelMisses s g x).freeDraws = p.freeDraws := by
  simp [Part.channelMisses]

@[simp] theorem Part.channelReads_frame (s : Scan) (g : Group) (x : Place) (t : Int) (n : Nat) :
    (p.channelReads s g x t n).substitution = p.substitution ∧ (p.channelReads s g x t n).loops = p.loops ∧
    (p.channelReads s g x t n).inputs = p.inputs ∧ (p.channelReads s g x t n).fire = p.fire ∧
    (p.channelReads s g x t n).custody = p.custody ∧ (p.channelReads s g x t n).peers = p.peers ∧
    (p.channelReads s g x t n).clock = p.clock ∧ (p.channelReads s g x t n).occupancy = p.occupancy ∧
    (p.channelReads s g x t n).startUp = p.startUp ∧ (p.channelReads s g x t n).freeDraws = p.freeDraws := by
  unfold Part.channelReads
  split <;> simp

@[simp] theorem Part.takeAnswer_frame (g : Group) (x : Place) (t : Int) (n : Nat) (b : Bool) :
    (p.takeAnswer g x t n b).substitution = p.substitution ∧ (p.takeAnswer g x t n b).loops = p.loops ∧
    (p.takeAnswer g x t n b).inputs = p.inputs ∧ (p.takeAnswer g x t n b).fire = p.fire ∧
    (p.takeAnswer g x t n b).custody = p.custody ∧ (p.takeAnswer g x t n b).peers = p.peers ∧
    (p.takeAnswer g x t n b).clock = p.clock ∧ (p.takeAnswer g x t n b).occupancy = p.occupancy ∧
    (p.takeAnswer g x t n b).startUp = p.startUp ∧ (p.takeAnswer g x t n b).freeDraws = p.freeDraws := by
  unfold Part.takeAnswer
  (repeat' split) <;> simp

@[simp] theorem Part.windowCloses_frame (g : Group) (x : Place) :
    (p.windowCloses g x).substitution = p.substitution ∧ (p.windowCloses g x).loops = p.loops ∧
    (p.windowCloses g x).inputs = p.inputs ∧ (p.windowCloses g x).fire = p.fire ∧
    (p.windowCloses g x).custody = p.custody ∧ (p.windowCloses g x).peers = p.peers ∧
    (p.windowCloses g x).clock = p.clock ∧ (p.windowCloses g x).occupancy = p.occupancy ∧
    (p.windowCloses g x).startUp = p.startUp ∧ (p.windowCloses g x).freeDraws = p.freeDraws := by
  unfold Part.windowCloses
  split <;> simp

/-! ### Inputs -/

@[simp] theorem Part.takeLoopReading_frame (l : LoopId) (n : Nat) :
    (p.takeLoopReading l n).moisture = p.moisture ∧ (p.takeLoopReading l n).substitution = p.substitution ∧
    (p.takeLoopReading l n).inputs = p.inputs ∧ (p.takeLoopReading l n).exceptions = p.exceptions ∧
    (p.takeLoopReading l n).peers = p.peers ∧ (p.takeLoopReading l n).clock = p.clock ∧
    (p.takeLoopReading l n).occupancy = p.occupancy ∧ (p.takeLoopReading l n).startUp = p.startUp ∧
    (p.takeLoopReading l n).freeDraws = p.freeDraws := by
  unfold Part.takeLoopReading
  dsimp only
  (repeat' split) <;> simp

@[simp] theorem Part.takeLevelChange_frame (i : InputId) (b : Bool) :
    (p.takeLevelChange i b).moisture = p.moisture ∧ (p.takeLevelChange i b).substitution = p.substitution ∧
    (p.takeLevelChange i b).climate = p.climate ∧ (p.takeLevelChange i b).loops = p.loops ∧
    (p.takeLevelChange i b).fire = p.fire ∧ (p.takeLevelChange i b).custody = p.custody ∧
    (p.takeLevelChange i b).hatch = p.hatch ∧ (p.takeLevelChange i b).exceptions = p.exceptions ∧
    (p.takeLevelChange i b).bus = p.bus ∧ (p.takeLevelChange i b).peers = p.peers ∧
    (p.takeLevelChange i b).clock = p.clock ∧ (p.takeLevelChange i b).outputs = p.outputs ∧
    (p.takeLevelChange i b).occupancy = p.occupancy ∧ (p.takeLevelChange i b).startUp = p.startUp ∧
    (p.takeLevelChange i b).freeDraws = p.freeDraws := by
  simp [Part.takeLevelChange]

@[simp] theorem Part.wireChanges_frame (i : InputId) (b : Bool) :
    (p.wireChanges i b).moisture = p.moisture ∧ (p.wireChanges i b).substitution = p.substitution ∧
    (p.wireChanges i b).climate = p.climate ∧ (p.wireChanges i b).loops = p.loops ∧
    (p.wireChanges i b).fire = p.fire ∧ (p.wireChanges i b).custody = p.custody ∧
    (p.wireChanges i b).hatch = p.hatch ∧ (p.wireChanges i b).exceptions = p.exceptions ∧
    (p.wireChanges i b).bus = p.bus ∧ (p.wireChanges i b).peers = p.peers ∧ (p.wireChanges i b).clock = p.clock ∧
    (p.wireChanges i b).outputs = p.outputs ∧ (p.wireChanges i b).occupancy = p.occupancy ∧
    (p.wireChanges i b).startUp = p.startUp ∧ (p.wireChanges i b).freeDraws = p.freeDraws := by
  simp [Part.wireChanges]

@[simp] theorem Part.handInput_frame (i : InputId) (b : Bool) :
    (p.handInput i b).moisture = p.moisture ∧ (p.handInput i b).substitution = p.substitution ∧
    (p.handInput i b).loops = p.loops ∧ (p.handInput i b).inputs = p.inputs ∧
    (p.handInput i b).exceptions = p.exceptions ∧ (p.handInput i b).peers = p.peers ∧
    (p.handInput i b).clock = p.clock ∧ (p.handInput i b).occupancy = p.occupancy ∧
    (p.handInput i b).startUp = p.startUp ∧ (p.handInput i b).freeDraws = p.freeDraws := by
  unfold Part.handInput
  (repeat' split) <;> simp

@[simp] theorem Part.acceptInput_frame (i : InputId) :
    (p.acceptInput i).moisture = p.moisture ∧ (p.acceptInput i).substitution = p.substitution ∧
    (p.acceptInput i).loops = p.loops ∧ (p.acceptInput i).exceptions = p.exceptions ∧
    (p.acceptInput i).peers = p.peers ∧ (p.acceptInput i).clock = p.clock ∧
    (p.acceptInput i).occupancy = p.occupancy ∧ (p.acceptInput i).startUp = p.startUp ∧
    (p.acceptInput i).freeDraws = p.freeDraws := by
  unfold Part.acceptInput
  dsimp only
  (repeat' split) <;> simp

@[simp] theorem Part.clearLatches_frame (x : Byte) :
    (p.clearLatches x).moisture = p.moisture ∧ (p.clearLatches x).substitution = p.substitution ∧
    (p.clearLatches x).climate = p.climate ∧ (p.clearLatches x).loops = p.loops ∧
    (p.clearLatches x).fire = p.fire ∧ (p.clearLatches x).custody = p.custody ∧
    (p.clearLatches x).hatch = p.hatch ∧ (p.clearLatches x).exceptions = p.exceptions ∧
    (p.clearLatches x).bus = p.bus ∧ (p.clearLatches x).peers = p.peers ∧ (p.clearLatches x).clock = p.clock ∧
    (p.clearLatches x).outputs = p.outputs ∧ (p.clearLatches x).occupancy = p.occupancy ∧
    (p.clearLatches x).startUp = p.startUp ∧ (p.clearLatches x).freeDraws = p.freeDraws := by
  simp [Part.clearLatches]

@[simp] theorem Part.acknowledgeFaults_frame :
    p.acknowledgeFaults.moisture = p.moisture ∧ p.acknowledgeFaults.climate = p.climate ∧
    p.acknowledgeFaults.loops = p.loops ∧ p.acknowledgeFaults.inputs = p.inputs ∧
    p.acknowledgeFaults.fire = p.fire ∧ p.acknowledgeFaults.exceptions = p.exceptions ∧
    p.acknowledgeFaults.bus = p.bus ∧ p.acknowledgeFaults.peers = p.peers ∧ p.acknowledgeFaults.clock = p.clock ∧
    p.acknowledgeFaults.outputs = p.outputs ∧ p.acknowledgeFaults.occupancy = p.occupancy ∧
    p.acknowledgeFaults.startUp = p.startUp ∧ p.acknowledgeFaults.freeDraws = p.freeDraws := by
  simp [Part.acknowledgeFaults]

@[simp] theorem Part.takeAckEvents_frame (a : Asker) (x : Byte) :
    (p.takeAckEvents a x).moisture = p.moisture ∧ (p.takeAckEvents a x).climate = p.climate ∧
    (p.takeAckEvents a x).loops = p.loops ∧ (p.takeAckEvents a x).fire = p.fire ∧
    (p.takeAckEvents a x).exceptions = p.exceptions ∧ (p.takeAckEvents a x).peers = p.peers ∧
    (p.takeAckEvents a x).clock = p.clock ∧ (p.takeAckEvents a x).outputs = p.outputs ∧
    (p.takeAckEvents a x).occupancy = p.occupancy ∧ (p.takeAckEvents a x).startUp = p.startUp ∧
    (p.takeAckEvents a x).freeDraws = p.freeDraws := by
  simp [Part.takeAckEvents]

/-! ### Peer -/

@[simp] theorem Part.handPeerChange_frame (o : Option PeerEntry) (e : PeerEntry) :
    (p.handPeerChange o e).moisture = p.moisture ∧ (p.handPeerChange o e).substitution = p.substitution ∧
    (p.handPeerChange o e).loops = p.loops ∧ (p.handPeerChange o e).inputs = p.inputs ∧
    (p.handPeerChange o e).exceptions = p.exceptions ∧ (p.handPeerChange o e).peers = p.peers ∧
    (p.handPeerChange o e).clock = p.clock ∧ (p.handPeerChange o e).occupancy = p.occupancy ∧
    (p.handPeerChange o e).startUp = p.startUp ∧ (p.handPeerChange o e).freeDraws = p.freeDraws := by
  unfold Part.handPeerChange
  dsimp only
  (repeat' split) <;> simp

@[simp] theorem Part.hearFrame_frame (f : RxFrame) :
    (p.hearFrame f).moisture = p.moisture ∧ (p.hearFrame f).substitution = p.substitution ∧
    (p.hearFrame f).loops = p.loops ∧ (p.hearFrame f).inputs = p.inputs ∧
    (p.hearFrame f).exceptions = p.exceptions ∧ (p.hearFrame f).clock = p.clock ∧
    (p.hearFrame f).occupancy = p.occupancy ∧ (p.hearFrame f).startUp = p.startUp ∧
    (p.hearFrame f).freeDraws = p.freeDraws := by
  unfold Part.hearFrame
  dsimp only
  split <;> simp

@[simp] theorem Part.adoptMinute_frame (m : Option Minute) :
    (p.adoptMinute m).moisture = p.moisture ∧ (p.adoptMinute m).substitution = p.substitution ∧
    (p.adoptMinute m).climate = p.climate ∧ (p.adoptMinute m).loops = p.loops ∧
    (p.adoptMinute m).inputs = p.inputs ∧ (p.adoptMinute m).fire = p.fire ∧ (p.adoptMinute m).custody = p.custody ∧
    (p.adoptMinute m).hatch = p.hatch ∧ (p.adoptMinute m).exceptions = p.exceptions ∧
    (p.adoptMinute m).bus = p.bus ∧ (p.adoptMinute m).peers = p.peers ∧ (p.adoptMinute m).outputs = p.outputs ∧
    (p.adoptMinute m).occupancy = p.occupancy ∧ (p.adoptMinute m).startUp = p.startUp ∧
    (p.adoptMinute m).freeDraws = p.freeDraws := by
  unfold Part.adoptMinute
  dsimp only
  (repeat' split) <;> simp

@[simp] theorem Part.peerEntryExpires_frame (s : Station) :
    (p.peerEntryExpires s).moisture = p.moisture ∧ (p.peerEntryExpires s).substitution = p.substitution ∧
    (p.peerEntryExpires s).loops = p.loops ∧ (p.peerEntryExpires s).inputs = p.inputs ∧
    (p.peerEntryExpires s).fire = p.fire ∧ (p.peerEntryExpires s).custody = p.custody ∧
    (p.peerEntryExpires s).hatch = p.hatch ∧ (p.peerEntryExpires s).exceptions = p.exceptions ∧
    (p.peerEntryExpires s).clock = p.clock ∧ (p.peerEntryExpires s).occupancy = p.occupancy ∧
    (p.peerEntryExpires s).startUp = p.startUp ∧ (p.peerEntryExpires s).freeDraws = p.freeDraws := by
  simp [Part.peerEntryExpires]

@[simp] theorem Part.watchExpires_frame (s : Station) :
    (p.watchExpires s).moisture = p.moisture ∧ (p.watchExpires s).substitution = p.substitution ∧
    (p.watchExpires s).climate = p.climate ∧ (p.watchExpires s).loops = p.loops ∧
    (p.watchExpires s).inputs = p.inputs ∧ (p.watchExpires s).fire = p.fire ∧
    (p.watchExpires s).custody = p.custody ∧ (p.watchExpires s).hatch = p.hatch ∧
    (p.watchExpires s).exceptions = p.exceptions ∧ (p.watchExpires s).bus = p.bus ∧
    (p.watchExpires s).clock = p.clock ∧ (p.watchExpires s).outputs = p.outputs ∧
    (p.watchExpires s).occupancy = p.occupancy ∧ (p.watchExpires s).startUp = p.startUp ∧
    (p.watchExpires s).freeDraws = p.freeDraws := by
  simp [Part.watchExpires]

/-! ### Requests -/

@[simp] theorem Part.takeExceptionList_frame (a : Asker) :
    (p.takeExceptionList a).moisture = p.moisture ∧ (p.takeExceptionList a).substitution = p.substitution ∧
    (p.takeExceptionList a).climate = p.climate ∧ (p.takeExceptionList a).loops = p.loops ∧
    (p.takeExceptionList a).inputs = p.inputs ∧ (p.takeExceptionList a).fire = p.fire ∧
    (p.takeExceptionList a).custody = p.custody ∧ (p.takeExceptionList a).hatch = p.hatch ∧
    (p.takeExceptionList a).exceptions = p.exceptions ∧ (p.takeExceptionList a).peers = p.peers ∧
    (p.takeExceptionList a).clock = p.clock ∧ (p.takeExceptionList a).outputs = p.outputs ∧
    (p.takeExceptionList a).occupancy = p.occupancy ∧ (p.takeExceptionList a).startUp = p.startUp ∧
    (p.takeExceptionList a).freeDraws = p.freeDraws := by
  simp [Part.takeExceptionList]

@[simp] theorem Part.takeClearExceptions_frame (a : Asker) :
    (p.takeClearExceptions a).moisture = p.moisture ∧ (p.takeClearExceptions a).substitution = p.substitution ∧
    (p.takeClearExceptions a).climate = p.climate ∧ (p.takeClearExceptions a).loops = p.loops ∧
    (p.takeClearExceptions a).inputs = p.inputs ∧ (p.takeClearExceptions a).fire = p.fire ∧
    (p.takeClearExceptions a).custody = p.custody ∧ (p.takeClearExceptions a).hatch = p.hatch ∧
    (p.takeClearExceptions a).peers = p.peers ∧ (p.takeClearExceptions a).clock = p.clock ∧
    (p.takeClearExceptions a).outputs = p.outputs ∧ (p.takeClearExceptions a).occupancy = p.occupancy ∧
    (p.takeClearExceptions a).startUp = p.startUp ∧ (p.takeClearExceptions a).freeDraws = p.freeDraws := by
  simp [Part.takeClearExceptions]

@[simp] theorem Part.takeSetOccupancy_frame (a : Asker) (o : Occupancy) :
    (p.takeSetOccupancy a o).substitution = p.substitution ∧ (p.takeSetOccupancy a o).climate = p.climate ∧
    (p.takeSetOccupancy a o).loops = p.loops ∧ (p.takeSetOccupancy a o).inputs = p.inputs ∧
    (p.takeSetOccupancy a o).fire = p.fire ∧ (p.takeSetOccupancy a o).custody = p.custody ∧
    (p.takeSetOccupancy a o).hatch = p.hatch ∧ (p.takeSetOccupancy a o).exceptions = p.exceptions ∧
    (p.takeSetOccupancy a o).peers = p.peers ∧ (p.takeSetOccupancy a o).clock = p.clock ∧
    (p.takeSetOccupancy a o).outputs = p.outputs ∧ (p.takeSetOccupancy a o).startUp = p.startUp ∧
    (p.takeSetOccupancy a o).freeDraws = p.freeDraws := by
  unfold Part.takeSetOccupancy
  (repeat' split) <;> simp

@[simp] theorem Part.takeRestart_frame (a : Asker) :
    (p.takeRestart a).moisture = p.moisture ∧ (p.takeRestart a).substitution = p.substitution ∧
    (p.takeRestart a).climate = p.climate ∧ (p.takeRestart a).loops = p.loops ∧
    (p.takeRestart a).inputs = p.inputs ∧ (p.takeRestart a).fire = p.fire ∧ (p.takeRestart a).custody = p.custody ∧
    (p.takeRestart a).hatch = p.hatch ∧ (p.takeRestart a).exceptions = p.exceptions ∧
    (p.takeRestart a).peers = p.peers ∧ (p.takeRestart a).clock = p.clock ∧ (p.takeRestart a).outputs = p.outputs ∧
    (p.takeRestart a).occupancy = p.occupancy ∧ (p.takeRestart a).freeDraws = p.freeDraws := by
  unfold Part.takeRestart
  split <;> simp

@[simp] theorem Part.handToOwner_frame (a : Asker) (r : Request) :
    (p.handToOwner a r).loops = p.loops ∧ (p.handToOwner a r).peers = p.peers ∧
    (p.handToOwner a r).clock = p.clock ∧ (p.handToOwner a r).freeDraws = p.freeDraws := by
  unfold Part.handToOwner
  split <;> simp

@[simp] theorem Part.refuseLength_frame (a : Asker) :
    (p.refuseLength a).moisture = p.moisture ∧ (p.refuseLength a).substitution = p.substitution ∧
    (p.refuseLength a).climate = p.climate ∧ (p.refuseLength a).loops = p.loops ∧
    (p.refuseLength a).inputs = p.inputs ∧ (p.refuseLength a).fire = p.fire ∧
    (p.refuseLength a).custody = p.custody ∧ (p.refuseLength a).hatch = p.hatch ∧
    (p.refuseLength a).exceptions = p.exceptions ∧ (p.refuseLength a).peers = p.peers ∧
    (p.refuseLength a).clock = p.clock ∧ (p.refuseLength a).outputs = p.outputs ∧
    (p.refuseLength a).occupancy = p.occupancy ∧ (p.refuseLength a).startUp = p.startUp := by
  simp [Part.refuseLength]

@[simp] theorem Part.answer_frame (a : Asker) (x : Role) (r : Request) :
    (p.answer a x r).loops = p.loops ∧ (p.answer a x r).peers = p.peers ∧ (p.answer a x r).clock = p.clock := by
  unfold Part.answer
  (repeat' split) <;> simp

@[simp] theorem Part.takeRequest_frame (s : Station) (x : Role) (r : Request) :
    (p.takeRequest s x r).loops = p.loops ∧ (p.takeRequest s x r).peers = p.peers ∧
    (p.takeRequest s x r).clock = p.clock := by
  unfold Part.takeRequest
  split <;> simp

@[simp] theorem Part.dispatch_frame (f : RxFrame) :
    (p.dispatch f).loops = p.loops ∧ (p.dispatch f).peers = p.peers ∧ (p.dispatch f).clock = p.clock := by
  unfold Part.dispatch
  dsimp only
  (repeat' split) <;> simp

@[simp] theorem Part.receiveFrame_frame (f : RxFrame) :
    (p.receiveFrame f).loops = p.loops := by
  unfold Part.receiveFrame
  dsimp only
  (repeat' split) <;> simp

@[simp] theorem Part.onQueue_frame (g : List TxFrame → List TxFrame) :
    (p.onQueue g).moisture = p.moisture ∧ (p.onQueue g).substitution = p.substitution ∧
    (p.onQueue g).climate = p.climate ∧ (p.onQueue g).loops = p.loops ∧ (p.onQueue g).inputs = p.inputs ∧
    (p.onQueue g).fire = p.fire ∧ (p.onQueue g).custody = p.custody ∧ (p.onQueue g).hatch = p.hatch ∧
    (p.onQueue g).exceptions = p.exceptions ∧ (p.onQueue g).peers = p.peers ∧ (p.onQueue g).clock = p.clock ∧
    (p.onQueue g).outputs = p.outputs ∧ (p.onQueue g).occupancy = p.occupancy ∧ (p.onQueue g).startUp = p.startUp ∧
    (p.onQueue g).freeDraws = p.freeDraws := by
  simp [Part.onQueue]

/-! ### StartUp and Timers -/

@[simp] theorem Part.markCustodyLost_startUp : p.markCustodyLost.startUp = p.startUp := by
  unfold Part.markCustodyLost; split <;> rfl

@[simp] theorem Part.markCustodyLost_fire : p.markCustodyLost.fire = p.fire := by
  unfold Part.markCustodyLost; split <;> rfl

@[simp] theorem Part.markCustodyLost_clock : p.markCustodyLost.clock = p.clock := by
  unfold Part.markCustodyLost; split <;> rfl

@[simp] theorem Part.endProgress_startUp :
    p.endProgress.startUp = { p.startUp with inProgress := none } := rfl

@[simp] theorem Part.markSpareLost_frame :
    p.markSpareLost.moisture = p.moisture ∧ p.markSpareLost.climate = p.climate ∧ p.markSpareLost.loops = p.loops ∧
    p.markSpareLost.inputs = p.inputs ∧ p.markSpareLost.fire = p.fire ∧ p.markSpareLost.custody = p.custody ∧
    p.markSpareLost.hatch = p.hatch ∧ p.markSpareLost.exceptions = p.exceptions ∧ p.markSpareLost.bus = p.bus ∧
    p.markSpareLost.peers = p.peers ∧ p.markSpareLost.clock = p.clock ∧ p.markSpareLost.outputs = p.outputs ∧
    p.markSpareLost.occupancy = p.occupancy ∧ p.markSpareLost.startUp = p.startUp ∧
    p.markSpareLost.freeDraws = p.freeDraws := by
  simp [Part.markSpareLost]

/-- What the first event of a start leaves: everything but the start-up state and, at a power start, the outputs. -/
@[simp] theorem Part.beginStart_frame (run : StartInProgress) :
    (p.beginStart run).moisture = p.moisture ∧ (p.beginStart run).substitution = p.substitution ∧
    (p.beginStart run).climate = p.climate ∧ (p.beginStart run).loops = p.loops ∧
    (p.beginStart run).inputs = p.inputs ∧ (p.beginStart run).fire = p.fire ∧
    (p.beginStart run).custody = p.custody ∧ (p.beginStart run).hatch = p.hatch ∧
    (p.beginStart run).exceptions = p.exceptions ∧ (p.beginStart run).bus = p.bus ∧
    (p.beginStart run).peers = p.peers ∧ (p.beginStart run).clock = p.clock ∧
    (p.beginStart run).occupancy = p.occupancy ∧ (p.beginStart run).freeDraws = p.freeDraws := by
  cases run <;> simp [Part.beginStart]

@[simp] theorem Part.beginStart_startUp (run : StartInProgress) :
    (p.beginStart run).startUp = { p.startUp with
      mainOn := true, resetAsserted := false, heldStart := none, inProgress := some run, restartDeadline := none } := by
  cases run <;> rfl

@[simp] theorem Part.beginStart_starting (run : StartInProgress) : (p.beginStart run).starting = true := by
  cases run <;> rfl

/-! ### The stages of a start: what each leaves, and each from the one before it (R186) -/

@[simp] theorem Part.abandonInFlight_frame :
    p.abandonInFlight.custody = p.custody ∧ p.abandonInFlight.exceptions = p.exceptions ∧
    p.abandonInFlight.peers = p.peers ∧ p.abandonInFlight.clock = p.clock ∧
    p.abandonInFlight.occupancy = p.occupancy ∧ p.abandonInFlight.startUp = p.startUp ∧
    p.abandonInFlight.freeDraws = p.freeDraws := by
  simp [Part.abandonInFlight]

@[simp] theorem Part.readConfiguration_frame (run : StartInProgress) :
    (p.readConfiguration run).moisture = p.moisture ∧ (p.readConfiguration run).substitution = p.substitution ∧
    (p.readConfiguration run).climate = p.climate ∧ (p.readConfiguration run).loops = p.loops ∧
    (p.readConfiguration run).inputs = p.inputs ∧ (p.readConfiguration run).fire = p.fire ∧
    (p.readConfiguration run).custody = p.custody ∧ (p.readConfiguration run).hatch = p.hatch ∧
    (p.readConfiguration run).exceptions = p.exceptions ∧ (p.readConfiguration run).peers = p.peers ∧
    (p.readConfiguration run).clock = p.clock ∧ (p.readConfiguration run).outputs = p.outputs ∧
    (p.readConfiguration run).occupancy = p.occupancy ∧ (p.readConfiguration run).freeDraws = p.freeDraws := by
  simp [Part.readConfiguration]

@[simp] theorem Part.writeBackup_frame (run : StartInProgress) :
    (p.writeBackup run).moisture = p.moisture ∧ (p.writeBackup run).substitution = p.substitution ∧
    (p.writeBackup run).climate = p.climate ∧ (p.writeBackup run).loops = p.loops ∧
    (p.writeBackup run).inputs = p.inputs ∧ (p.writeBackup run).exceptions = p.exceptions ∧
    (p.writeBackup run).bus = p.bus ∧ (p.writeBackup run).peers = p.peers ∧
    (p.writeBackup run).outputs = p.outputs ∧ (p.writeBackup run).occupancy = p.occupancy ∧
    (p.writeBackup run).startUp = p.startUp ∧ (p.writeBackup run).freeDraws = p.freeDraws := by
  unfold Part.writeBackup
  split <;> simp

@[simp] theorem Part.markBackup_frame (run : StartInProgress) :
    (p.markBackup run).moisture = p.moisture ∧ (p.markBackup run).substitution = p.substitution ∧
    (p.markBackup run).climate = p.climate ∧ (p.markBackup run).loops = p.loops ∧
    (p.markBackup run).inputs = p.inputs ∧ (p.markBackup run).fire = p.fire ∧
    (p.markBackup run).custody = p.custody ∧ (p.markBackup run).hatch = p.hatch ∧
    (p.markBackup run).exceptions = p.exceptions ∧ (p.markBackup run).bus = p.bus ∧
    (p.markBackup run).peers = p.peers ∧ (p.markBackup run).clock = p.clock ∧
    (p.markBackup run).outputs = p.outputs ∧ (p.markBackup run).occupancy = p.occupancy ∧
    (p.markBackup run).freeDraws = p.freeDraws := by
  unfold Part.markBackup
  split <;> simp

@[simp] theorem Part.makeOutputsSafe_frame :
    p.makeOutputsSafe.moisture = p.moisture ∧ p.makeOutputsSafe.substitution = p.substitution ∧
    p.makeOutputsSafe.climate = p.climate ∧ p.makeOutputsSafe.loops = p.loops ∧
    p.makeOutputsSafe.inputs = p.inputs ∧ p.makeOutputsSafe.fire = p.fire ∧ p.makeOutputsSafe.custody = p.custody ∧
    p.makeOutputsSafe.hatch = p.hatch ∧ p.makeOutputsSafe.exceptions = p.exceptions ∧
    p.makeOutputsSafe.bus = p.bus ∧ p.makeOutputsSafe.peers = p.peers ∧ p.makeOutputsSafe.clock = p.clock ∧
    p.makeOutputsSafe.occupancy = p.occupancy ∧ p.makeOutputsSafe.startUp = p.startUp ∧
    p.makeOutputsSafe.freeDraws = p.freeDraws := by
  simp [Part.makeOutputsSafe]

@[simp] theorem Part.takeStartValues_frame (run : StartInProgress) :
    (p.takeStartValues run).bus = p.bus ∧ (p.takeStartValues run).clock = p.clock ∧
    (p.takeStartValues run).outputs = p.outputs ∧ (p.takeStartValues run).startUp = p.startUp ∧
    (p.takeStartValues run).freeDraws = p.freeDraws := by
  simp [Part.takeStartValues]

@[simp] theorem Part.startCounting_frame :
    p.startCounting.substitution = p.substitution ∧ p.startCounting.climate = p.climate ∧
    p.startCounting.custody = p.custody ∧ p.startCounting.hatch = p.hatch ∧
    p.startCounting.exceptions = p.exceptions ∧ p.startCounting.bus = p.bus ∧ p.startCounting.outputs = p.outputs ∧
    p.startCounting.occupancy = p.occupancy ∧ p.startCounting.startUp = p.startUp ∧
    p.startCounting.freeDraws = p.freeDraws := by
  simp [Part.startCounting]

@[simp] theorem Part.readConfiguration_inProgress (run : StartInProgress) :
    (p.readConfiguration run).startUp.inProgress = p.startUp.inProgress := rfl

@[simp] theorem Part.markBackup_inProgress (run : StartInProgress) :
    (p.markBackup run).startUp.inProgress = p.startUp.inProgress := by
  unfold Part.markBackup
  split <;> rfl

section
variable (run : StartInProgress)

@[simp] theorem Part.afterStage_begun : p.afterStage run .begun = p := rfl
theorem Part.afterStage_abandoned : p.afterStage run .abandoned = p.abandonInFlight := rfl
theorem Part.afterStage_read : p.afterStage run .read = (p.afterStage run .abandoned).readConfiguration run := rfl
theorem Part.afterStage_written : p.afterStage run .written = (p.afterStage run .read).writeBackup run := rfl
theorem Part.afterStage_marked : p.afterStage run .marked = (p.afterStage run .written).markBackup run := rfl
theorem Part.afterStage_safe : p.afterStage run .safe = (p.afterStage run .marked).makeOutputsSafe := rfl
theorem Part.afterStage_valued : p.afterStage run .valued = (p.afterStage run .safe).takeStartValues run := rfl

@[simp] theorem Part.readConfiguration_restartDeadline :
    (p.readConfiguration run).startUp.restartDeadline = p.startUp.restartDeadline := rfl

@[simp] theorem Part.markBackup_restartDeadline :
    (p.markBackup run).startUp.restartDeadline = p.startUp.restartDeadline := by
  unfold Part.markBackup
  split <;> rfl

/-- No stage of a start makes a restart pending, or removes one: its first event has (R182). -/
@[simp] theorem Part.afterStage_restartDeadline (stage : StartStage) :
    (p.afterStage run stage).startUp.restartDeadline = p.startUp.restartDeadline := by
  cases stage <;> simp [Part.afterStage]

/-- Before its completion a start stays in progress, at whatever stage. -/
@[simp] theorem Part.afterStage_inProgress (stage : StartStage) :
    (p.afterStage run stage).startUp.inProgress = p.startUp.inProgress := by
  cases stage <;> simp [Part.afterStage]

end

@[simp] theorem Part.startShut_frame :
    p.startShut.moisture = p.moisture ∧ p.startShut.substitution = p.substitution ∧ p.startShut.loops = p.loops ∧
    p.startShut.inputs = p.inputs ∧ p.startShut.fire = p.fire ∧ p.startShut.custody = p.custody ∧
    p.startShut.hatch = p.hatch ∧ p.startShut.exceptions = p.exceptions ∧ p.startShut.bus = p.bus ∧
    p.startShut.peers = p.peers ∧ p.startShut.clock = p.clock ∧ p.startShut.outputs = p.outputs ∧
    p.startShut.occupancy = p.occupancy ∧ p.startShut.startUp = p.startUp ∧ p.startShut.freeDraws = p.freeDraws := by
  unfold Part.startShut
  split <;> simp

@[simp] theorem Part.countSecond_frame :
    p.countSecond.moisture = p.moisture ∧ p.countSecond.substitution = p.substitution ∧
    p.countSecond.climate = p.climate ∧ p.countSecond.loops = p.loops ∧ p.countSecond.inputs = p.inputs ∧
    p.countSecond.fire = p.fire ∧ p.countSecond.custody = p.custody ∧ p.countSecond.hatch = p.hatch ∧
    p.countSecond.exceptions = p.exceptions ∧ p.countSecond.bus = p.bus ∧ p.countSecond.peers = p.peers ∧
    p.countSecond.outputs = p.outputs ∧ p.countSecond.occupancy = p.occupancy ∧ p.countSecond.startUp = p.startUp := by
  unfold Part.countSecond
  split <;> simp

@[simp] theorem Part.advanceSecond_frame :
    p.advanceSecond.moisture = p.moisture ∧ p.advanceSecond.substitution = p.substitution ∧
    p.advanceSecond.loops = p.loops ∧ p.advanceSecond.inputs = p.inputs ∧ p.advanceSecond.peers = p.peers ∧
    p.advanceSecond.occupancy = p.occupancy ∧ p.advanceSecond.startUp = p.startUp := by
  simp [Part.advanceSecond]

@[simp] theorem Part.riseMinute_frame :
    p.riseMinute.moisture = p.moisture ∧ p.riseMinute.substitution = p.substitution ∧
    p.riseMinute.climate = p.climate ∧ p.riseMinute.loops = p.loops ∧ p.riseMinute.inputs = p.inputs ∧
    p.riseMinute.fire = p.fire ∧ p.riseMinute.hatch = p.hatch ∧ p.riseMinute.exceptions = p.exceptions ∧
    p.riseMinute.bus = p.bus ∧ p.riseMinute.peers = p.peers ∧ p.riseMinute.outputs = p.outputs ∧
    p.riseMinute.occupancy = p.occupancy ∧ p.riseMinute.startUp = p.startUp ∧ p.riseMinute.freeDraws = p.freeDraws := by
  unfold Part.riseMinute
  split <;> simp

@[simp] theorem Part.phaseEnds_frame (g : Signal) :
    (p.phaseEnds g).moisture = p.moisture ∧ (p.phaseEnds g).substitution = p.substitution ∧
    (p.phaseEnds g).climate = p.climate ∧ (p.phaseEnds g).loops = p.loops ∧ (p.phaseEnds g).inputs = p.inputs ∧
    (p.phaseEnds g).fire = p.fire ∧ (p.phaseEnds g).custody = p.custody ∧ (p.phaseEnds g).hatch = p.hatch ∧
    (p.phaseEnds g).exceptions = p.exceptions ∧ (p.phaseEnds g).bus = p.bus ∧ (p.phaseEnds g).peers = p.peers ∧
    (p.phaseEnds g).clock = p.clock ∧ (p.phaseEnds g).occupancy = p.occupancy ∧
    (p.phaseEnds g).startUp = p.startUp ∧ (p.phaseEnds g).freeDraws = p.freeDraws := by
  simp [Part.phaseEnds]

@[simp] theorem Part.purgeEnds_frame :
    p.purgeEnds.moisture = p.moisture ∧ p.purgeEnds.substitution = p.substitution ∧ p.purgeEnds.loops = p.loops ∧
    p.purgeEnds.inputs = p.inputs ∧ p.purgeEnds.fire = p.fire ∧ p.purgeEnds.custody = p.custody ∧
    p.purgeEnds.peers = p.peers ∧ p.purgeEnds.clock = p.clock ∧ p.purgeEnds.occupancy = p.occupancy ∧
    p.purgeEnds.startUp = p.startUp ∧ p.purgeEnds.freeDraws = p.freeDraws := by
  simp [Part.purgeEnds]

@[simp] theorem Part.tick_frame :
    p.tick.moisture = p.moisture ∧ p.tick.substitution = p.substitution ∧ p.tick.climate = p.climate ∧
    p.tick.loops = p.loops ∧ p.tick.inputs = p.inputs ∧ p.tick.fire = p.fire ∧ p.tick.custody = p.custody ∧
    p.tick.hatch = p.hatch ∧ p.tick.exceptions = p.exceptions ∧ p.tick.bus = p.bus ∧ p.tick.peers = p.peers ∧
    p.tick.outputs = p.outputs ∧ p.tick.occupancy = p.occupancy ∧ p.tick.startUp = p.startUp ∧
    p.tick.freeDraws = p.freeDraws := by
  simp [Part.tick]

@[simp] theorem Part.completion_startUp : p.completion.startUp = { p.startUp with inProgress := none } := by
  simp [Part.completion]

/-- A start that completes is no longer in progress. -/
@[simp] theorem Part.completeStart_inProgress : p.completeStart.startUp.inProgress = none := by
  unfold Part.completeStart
  split <;> simp [*]

/-- An unfinished start is in progress still, at whatever stage. -/
@[simp] theorem Part.unfinished_inProgress (stage : StartStage) :
    (p.unfinished stage).startUp.inProgress = p.startUp.inProgress := by
  unfold Part.unfinished
  split <;> simp_all

@[simp] theorem Part.completeStart_restartDeadline :
    p.completeStart.startUp.restartDeadline = p.startUp.restartDeadline := by
  unfold Part.completeStart
  split <;> simp

@[simp] theorem Part.unfinished_restartDeadline (stage : StartStage) :
    (p.unfinished stage).startUp.restartDeadline = p.startUp.restartDeadline := by
  unfold Part.unfinished
  split <;> simp

end Sys2Proof.Machine
end

