-- ==== Sys2Proof/Laws/Events.lean ====
section
/-! SUPPORT. What an event, a timed event and a request command do, said once: later proofs cite these lemmas and do not
unfold `Part.event`, `Part.timed` or `State.request`. -/

namespace Sys2Proof.Machine

/-! ## Events -/

theorem Part.settle_eq_self {p : Part} (kept : p.restartReplyLeft = false) : p.settle = p := by
  simp [Part.settle, kept]

theorem Part.restartReplyLeft_of_none {p : Part} (h : p.startUp.restartDeadline = none) :
    p.restartReplyLeft = false := by
  simp [Part.restartReplyLeft, h]

theorem Part.restartReplyLeft_of_mark {p : Part} (h : ∃ f ∈ p.bus.queue, f.restartReply = true) :
    p.restartReplyLeft = false := by
  simp only [Part.restartReplyLeft, List.any_eq_true.mpr h]; simp

theorem State.ready.restartReplyLeft {s : State} (h : s.ready) : s.toPart.restartReplyLeft = false := by
  obtain ⟨_, none | ⟨f, hf, mark, _⟩⟩ := h
  · exact Part.restartReplyLeft_of_none none
  · exact Part.restartReplyLeft_of_mark ⟨f, hf, mark⟩

/-- After an event no restart is left to begin (R182, log 36). -/
@[simp] theorem Part.settle_restartReplyLeft (p : Part) : p.settle.restartReplyLeft = false := by
  unfold Part.settle
  split
  · exact Part.restartReplyLeft_of_none (by simp [Part.beginRestart])
  · simp_all

theorem Part.event_eq_settle {p : Part} (run : p.running = true) (f : Part → Part) : p.event f = (f p).settle := by
  simp [Part.event, run]

/-- An event at a part that acts, after which no restart is to begin, is what the block makes of it. -/
theorem Part.event_eq {p : Part} {f : Part → Part} (run : p.running = true)
    (kept : (f p).restartReplyLeft = false) : p.event f = f p := by
  rw [Part.event_eq_settle run, Part.settle_eq_self kept]

theorem Part.event_held {p : Part} (held : p.running = false) (f : Part → Part) : p.event f = p := by
  simp [Part.event, held]

/-- A timer that has run, at a part that acts. -/
theorem Part.timed_due {p : Part} {due : Part → Bool} {f : Part → Part} (run : p.running = true)
    (ran : due p = true) (kept : (f p).restartReplyLeft = false) : p.timed due f = f p := by
  unfold Part.timed
  rw [Part.event_eq run] <;> simp [ran, kept]

/-- A timer that has not run changes nothing (log 4). -/
theorem Part.timed_early {p : Part} {due : Part → Bool} {f : Part → Part}
    (kept : p.restartReplyLeft = false) (early : due p = false) : p.timed due f = p := by
  unfold Part.timed Part.event
  split <;> simp [early, Part.settle_eq_self kept]

theorem Part.timed_held {p : Part} (held : p.running = false) (due : Part → Bool) (f : Part → Part) :
    p.timed due f = p := Part.event_held held _

/-! ## Frames handed to the bus port -/

theorem Part.handFrame_eq (p : Part) (f : TxFrame) : p.handFrame f = p.withBus (p.bus.handed f) := by
  unfold Part.handFrame BusPort.handed Part.listenOnly
  cases h : p.bus.station <;> simp [Part.withBus, h]

@[simp] theorem Part.handFrame_bus (p : Part) (f : TxFrame) : (p.handFrame f).bus = p.bus.handed f := by
  rw [Part.handFrame_eq]; rfl

@[simp] theorem BusPort.handed_station (b : BusPort) (f : TxFrame) : (b.handed f).station = b.station := by
  unfold BusPort.handed; split <;> rfl

theorem BusPort.handed_queue {b : BusPort} (f : TxFrame) (own : b.station ≠ none) :
    (b.handed f).queue = placeFrame f b.queue := by
  simp [BusPort.handed, own]

theorem Part.reply_eq (p : Part) (src : Station) (k : RequestKind) (status : Status) (data : ReplyData) :
    p.reply { station := src, cls := k.cls, kind := k.code } status data
      = p.withBus (p.bus.handed (replyFrame src k status data)) := by
  unfold Part.reply
  rw [Part.handFrame_eq]; rfl

theorem State.answered_toPart (s : State) (src : Station) (k : RequestKind) (status : Status) (data : ReplyData) :
    (s.answered src k status data).toPart
      = s.toPart.reply { station := src, cls := k.cls, kind := k.code } status data := by
  rw [Part.reply_eq]; rfl

@[simp] theorem State.answered_pending (s : State) (src : Station) (k : RequestKind) (status : Status)
    (data : ReplyData) : (s.answered src k status data).pending = s.pending := rfl

/-! ## Requests -/

theorem Part.takeRequest_eq {s : State} {src : Station} (h : s.takesFrom src) (role : Role) (r : Request) :
    s.toPart.takeRequest src role r = s.toPart.answer (requester src r) role r := by
  obtain ⟨_, some_own, other, valid⟩ := h
  have own : s.bus.station.isSome = true := by cases e : s.bus.station <;> simp_all
  simp [Part.takeRequest, own, valid, other]

theorem Part.answer_eq {p : Part} {role : Role} {r : Request} (asker : Asker) (taken : r.kind.takenFrom role = true)
    (fits : r.fits = true) (range : r.offence = none) : p.answer asker role r = p.handToOwner asker r := by
  simp [Part.answer, taken, fits, range]

theorem Part.handToOwner_startUp (p : Part) (a : Asker) {r : Request} (h : r ≠ .restart) :
    (p.handToOwner a r).startUp = p.startUp := by
  cases r <;> simp_all [Part.handToOwner]

/-! ## The machine after an event -/

theorem State.ready.inProgress {s : State} (h : s.ready) : s.startUp.inProgress = none := by
  have := h.1
  rw [Part.running_eq] at this
  simp_all

/-- After an event in which no start is in progress, the machine is the part the event makes. -/
theorem State.become_eq {s : State} {p : Part} (calm : p.startUp.inProgress = none) :
    s.become p = .next { toPart := p, pending := s.pending } := by
  simp [State.become, Part.starting_eq, calm]

/-- An event that finds a start in progress, or does not begin one, begins none here. -/
theorem State.become_self (s : State) : s.become s.toPart = .next s := by
  simp [State.become]

/-- A start that begins in an event and that no waiting command interrupts completes in the same event (R186). -/
theorem State.become_started {s : State} {p : Part} (begun : p.starting = true) (before : s.toPart.starting = false)
    (alone : s.pending.head?.any interruptsStart = false) :
    s.become p = .next { toPart := p.completeStart, pending := s.pending } := by
  simp [State.become, Part.afterBegin, begun, before, alone]

/-- A start that begins in an event and that the next waiting command interrupts: it stands at a stage, or completed
first, by a free value (R181, log 21). -/
theorem State.become_interrupted {s : State} {p : Part} (begun : p.starting = true) (before : s.toPart.starting = false)
    (cut : s.pending.head?.any interruptsStart = true) :
    s.become p = .next
      { toPart := match Config.startReaches p.freeDraws with
          | some stage => (p.withFreeDraws (p.freeDraws + 1)).unfinished stage
          | none => (p.withFreeDraws (p.freeDraws + 1)).completeStart
        pending := s.pending } := by
  simp only [State.become, Part.afterBegin, begun, before, cut]
  rfl

/-- A request that passes the tests of the bus port is what its owner makes of it (R158 step 5). -/
theorem State.request_eq {s : State} {src : Station} {role : Role} {r : Request} (h : s.takesFrom src)
    (taken : r.kind.takenFrom role = true) (fits : r.fits = true) (range : r.offence = none)
    (kept : (s.toPart.handToOwner (requester src r) r).restartReplyLeft = false)
    (calm : (s.toPart.handToOwner (requester src r) r).startUp.inProgress = none) :
    s.request src role r
      = .next { toPart := s.toPart.handToOwner (requester src r) r, pending := s.pending } := by
  unfold State.request
  have e := (Part.takeRequest_eq h role r).trans (Part.answer_eq (requester src r) taken fits range)
  rw [Part.event_eq h.1.1] <;> rw [e]
  · exact State.become_eq calm
  · exact kept

/-- A timer command whose timer has run. -/
theorem State.become_timed {s : State} {due : Part → Bool} {f : Part → Part} (h : s.ready)
    (ran : due s.toPart = true) (kept : (f s.toPart).restartReplyLeft = false)
    (calm : (f s.toPart).startUp.inProgress = none) :
    s.become (s.toPart.timed due f) = .next { toPart := f s.toPart, pending := s.pending } := by
  rw [Part.timed_due h.1 ran kept, State.become_eq calm]

/-- An event command after which no restart is to begin. -/
theorem State.become_event {s : State} {f : Part → Part} (h : s.ready)
    (kept : (f s.toPart).restartReplyLeft = false) (calm : (f s.toPart).startUp.inProgress = none) :
    s.become (s.toPart.event f) = .next { toPart := f s.toPart, pending := s.pending } := by
  rw [Part.event_eq h.1 kept, State.become_eq calm]

end Sys2Proof.Machine
end

