-- ==== Sys2Proof/Laws/Ops.lean ====
section
/-! SUPPORT. What each shared operation does, said once: lists and indexed values, the transmit queue, outputs, locks,
notices, climate evaluation, changes of the fire state, the tests of a conditional request. -/

namespace Sys2Proof.Machine

/-! ## Indexed values -/

theorem PerGroup.eq_of_get {α : Type} {v w : PerGroup α} (h : ∀ g, v.get g = w.get g) : v = w := by
  cases v; cases w
  have := h .g0; have := h .g1; have := h .g2; have := h .g3
  simp_all [PerGroup.get]

/-! ## Lists -/

@[simp] theorem changeFirst_length {α : Type} (q : α → Bool) (f : α → α) (xs : List α) :
    (changeFirst q f xs).length = xs.length := by
  induction xs with
  | nil => rfl
  | cons x xs ih => simp only [changeFirst]; split <;> simp [ih]

/-- A change of the first element that meets `q` keeps what the change keeps of every element. -/
theorem changeFirst_map {α β : Type} (q : α → Bool) (f : α → α) (k : α → β) (keeps : ∀ x, k (f x) = k x)
    (xs : List α) : (changeFirst q f xs).map k = xs.map k := by
  induction xs with
  | nil => rfl
  | cons x xs ih => simp only [changeFirst]; split <;> simp [keeps, ih]

theorem mem_changeFirst {α : Type} {q : α → Bool} {f : α → α} {xs : List α} {y : α} (h : y ∈ changeFirst q f xs) :
    y ∈ xs ∨ ∃ x ∈ xs, q x = true ∧ y = f x := by
  induction xs with
  | nil => cases h
  | cons x xs ih =>
    simp only [changeFirst] at h
    split at h
    · rename_i c
      rcases List.mem_cons.1 h with rfl | h
      · exact .inr ⟨x, by simp, c, rfl⟩
      · exact .inl (by simp [h])
    · rcases List.mem_cons.1 h with rfl | h
      · exact .inl (by simp)
      · rcases ih h with a | ⟨z, hz, a⟩
        · exact .inl (by simp [a])
        · exact .inr ⟨z, by simp [hz], a⟩

/-- An element of a list stays under a change of the first that meets `q`, changed itself if it is that one. -/
theorem changeFirst_keeps {α : Type} {q : α → Bool} {f : α → α} {xs : List α} {x : α} (h : x ∈ xs) :
    x ∈ changeFirst q f xs ∨ q x = true ∧ f x ∈ changeFirst q f xs := by
  induction xs with
  | nil => cases h
  | cons y ys ih =>
    simp only [changeFirst]
    rcases List.mem_cons.1 h with rfl | h
    · split
      · rename_i c; exact .inr ⟨c, by simp⟩
      · exact .inl (by simp)
    · split
      · exact .inl (by simp [h])
      · rcases ih h with a | ⟨c, a⟩
        · exact .inl (by simp [a])
        · exact .inr ⟨c, by simp [a]⟩

theorem moveToFront_perm {α : Type} (i : Nat) (xs : List α) : (moveToFront i xs).Perm xs := by
  unfold moveToFront
  split
  · rename_i x h
    obtain ⟨hi, rfl⟩ := List.getElem?_eq_some_iff.1 h
    exact List.getElem_cons_eraseIdx_perm hi
  · exact List.Perm.refl _

/-- Whatever the free values pick, a free order has the elements it was given (log 3). -/
theorem freeOrder_perm {α : Type} (fuel n : Nat) (xs : List α) : (freeOrder fuel n xs).Perm xs := by
  induction fuel generalizing n xs with
  | zero => exact List.Perm.refl _
  | succ k ih =>
    rcases xs with _ | ⟨x, _ | ⟨y, rest⟩⟩
    · exact List.Perm.refl _
    · exact List.Perm.refl _
    · simp only [freeOrder]
      have h := moveToFront_perm (Config.pickTogether n % (x :: y :: rest).length) (x :: y :: rest)
      split
      · rename_i e; rw [e] at h; exact h
      · rename_i z zs e; rw [e] at h; exact ((ih (n + 1) zs).cons z).trans h

/-! ## The transmit queue (R161, R162) -/

/-- The order of the queue: by class. -/
abbrev byClass (f g : TxFrame) : Prop := classCode f.cls ≤ classCode g.cls

theorem insertByClass_perm (f : TxFrame) (q : List TxFrame) : (insertByClass f q).Perm (f :: q) := by
  induction q with
  | nil => exact List.Perm.refl _
  | cons x xs ih =>
    simp only [insertByClass]
    split
    · exact List.Perm.refl _
    · exact (ih.cons x).trans (List.Perm.swap f x xs)

@[simp] theorem insertByClass_length (f : TxFrame) (q : List TxFrame) : (insertByClass f q).length = q.length + 1 := by
  simpa using (insertByClass_perm f q).length_eq

theorem insertByClass_sorted (f : TxFrame) {q : List TxFrame} (h : q.Pairwise byClass) :
    (insertByClass f q).Pairwise byClass := by
  induction q with
  | nil => simp [insertByClass]
  | cons x xs ih =>
    obtain ⟨hx, hs⟩ := List.pairwise_cons.1 h
    simp only [insertByClass]
    split
    · rename_i c
      refine List.pairwise_cons.2 ⟨fun y hy => ?_, h⟩
      rcases List.mem_cons.1 hy with rfl | hy
      · exact Nat.le_of_lt c
      · exact Nat.le_trans (Nat.le_of_lt c) (hx y hy)
    · rename_i c
      refine List.pairwise_cons.2 ⟨fun y hy => ?_, ih hs⟩
      rcases List.mem_cons.1 ((insertByClass_perm f xs).mem_iff.1 hy) with rfl | hy
      · exact Nat.le_of_not_lt c
      · exact hx y hy

/-- The queue never grows past its capacity (R161, R162). -/
theorem enterQueue_length_le (f : TxFrame) {q : List TxFrame} (h : q.length ≤ queueCapacity) :
    (enterQueue f q).length ≤ queueCapacity := by
  unfold enterQueue
  split
  · rename_i c; simpa using c
  · split
    · split
      · rename_i r
        obtain ⟨x, hx, hp⟩ := List.any_eq_true.1 r
        have := List.length_eraseP_of_mem hx hp
        have := List.length_pos_of_mem hx
        simp; omega
      · split <;> simp [h]
    · exact h

theorem placeFrame_length_le (f : TxFrame) {q : List TxFrame} (h : q.length ≤ queueCapacity) :
    (placeFrame f q).length ≤ queueCapacity := by
  unfold placeFrame
  split
  · split
    · simpa using h
    · exact enterQueue_length_le f h
  · exact enterQueue_length_le f h

/-- A frame handed to the queue leaves a marked frame there that is on the line, or any while the queue has room or the
frame handed is not of class FIRE (R161, R162). -/
theorem placeFrame_keeps {f g : TxFrame} {q : List TxFrame} (mem : g ∈ q) (mark : g.restartReply = true)
    (safe : g.onLine = true ∨ q.length < queueCapacity ∨ f.cls ≠ .fire) :
    ∃ x ∈ placeFrame f q, x.restartReply = true ∧ x.onLine = g.onLine := by
  have inserted {r : List TxFrame} (h : g ∈ r) : ∃ x ∈ insertByClass f r, x.restartReply = true ∧ x.onLine = g.onLine :=
    ⟨g, (insertByClass_perm f r).mem_iff.2 (by simp [h]), mark, rfl⟩
  have entered : ∃ x ∈ enterQueue f q, x.restartReply = true ∧ x.onLine = g.onLine := by
    unfold enterQueue
    split
    · exact inserted mem
    · rename_i full
      split
      · rename_i fire
        have on : g.onLine = true := by simpa [fire, full] using safe
        split
        · exact inserted ((List.mem_eraseP_of_neg (by simp [TxFrame.pendingRoutine, on])).2 mem)
        · split
          · rcases changeFirst_keeps (q := TxFrame.pendingOf .fireState) (f := fun _ => f) mem with h | ⟨h, _⟩
            · exact ⟨g, h, mark, rfl⟩
            · simp [TxFrame.pendingOf, on] at h
          · exact ⟨g, mem, mark, rfl⟩
      · exact ⟨g, mem, mark, rfl⟩
  unfold placeFrame
  split
  · rename_i k _
    split
    · rcases changeFirst_keeps (q := TxFrame.pendingOf k) (f := fun x => { x with body := f.body }) mem with h | ⟨_, h⟩
      · exact ⟨g, h, mark, rfl⟩
      · exact ⟨_, h, mark, rfl⟩
    · exact entered
  · exact entered

/-- A frame handed at a part that is ready leaves the marked reply of a pending restart in the queue. -/
theorem BusPort.keepsRestartReply.handed {b : BusPort} (h : b.keepsRestartReply) (f : TxFrame) :
    ∃ x ∈ (b.handed f).queue, x.restartReply = true := by
  obtain ⟨g, mem, mark, room⟩ := h
  unfold BusPort.handed
  split
  · exact ⟨g, mem, mark⟩
  · obtain ⟨x, hx, hm, _⟩ := placeFrame_keeps (f := f) mem mark (room.imp_right fun r => .inl (by unfold queueCapacity; omega))
    exact ⟨x, hx, hm⟩

/-- The one reply to a request begins no restart at a state that is ready. -/
theorem State.ready.reply_restartReplyLeft {s : State} (h : s.ready) (a : Asker) (status : Status)
    (data : ReplyData) : (s.toPart.reply a status data).restartReplyLeft = false := by
  unfold Part.reply
  rw [Part.handFrame_eq]
  obtain ⟨_, none | kept⟩ := h
  · exact Part.restartReplyLeft_of_none none
  · exact Part.restartReplyLeft_of_mark (kept.handed _)

/-! ## Outputs (R170 to R173) -/

/-- The output requested records the request and carries it out where it is fitted. -/
@[simp] theorem Part.requestOutput_self (p : Part) (o : OutputId) (r : OutputRequest) :
    (p.requestOutput o r).outputs.get o
      = (p.outputs.get o).take (outputFitted p.settings (outputNumber o)) p.now r := by
  simp [Part.requestOutput]

theorem Part.requestOutput_other (p : Part) {o u : OutputId} (r : OutputRequest) (ne : u ≠ o) :
    (p.requestOutput o r).outputs.get u = p.outputs.get u := by
  simp [Part.requestOutput, OutputDriver.get_set_other _ _ ne]

@[simp] theorem Part.requestOutput_out5 (p : Part) (o : OutputId) (r : OutputRequest) :
    (p.requestOutput o r).outputs.out5 = p.outputs.out5 := by
  simp [Part.requestOutput]

/-- An output is driven on after a request only where the request is to drive it on. -/
theorem DigitalOutput.take_drivenOn {fitted : Bool} {now : Time} {o : DigitalOutput} {r : OutputRequest}
    (h : (o.take fitted now r).state = .drivenOn) : r = .drivenOn := by
  unfold DigitalOutput.take OutputState.take at h
  cases fitted <;> cases r <;> simp at h ⊢
  split at h
  · split at h <;> simp at h
  · simp at h

/-! ## Exceptions (R148, R149) -/

@[simp] theorem Part.raise_exceptions (p : Part) (k : ExceptionKind) (x : ExceptionSubject) :
    (p.raise k x).exceptions = p.exceptions.raise p.settings.capture ⟨k, p.minute, x⟩ := rfl

/-! ## Locks and notices (R114, R115, R122) -/

/-- A lock request set: the request, its output, and nothing else of the hatch. -/
theorem Part.setLock_hatch (p : Part) (l : Leaf) (turnedOn : Bool) :
    (p.setLock l turnedOn).hatch = { p.hatch with locks := p.hatch.locks.set l turnedOn } := by
  simp [Part.setLock]

/-- A leaf is unlocked where R114 and R141 allow it, with its window of 30 s; otherwise nothing happens. -/
theorem Part.unlock_hatch (p : Part) (l : Leaf) :
    (p.unlock l).hatch =
      if p.canUnlock l then
        { p.hatch with
          locks := p.hatch.locks.set l true, windows := p.hatch.windows.set l (some (p.now + windowTime)) }
      else p.hatch := by
  unfold Part.unlock
  split <;> simp [Part.setLock_hatch]

theorem Part.handNotices_eq (p : Part) (stations : List Station) (t : NoticeType) (d : Option Direction)
    (b : Option Nat) (c : Option Cause) :
    p.handNotices stations t d b c
      = p.withBus (p.bus.notified stations t (d.getD .out) (b.getD 0) p.hatch.state c) := by
  unfold Part.handNotices BusPort.notified
  have key : ∀ (h : HatchState) (q : Part),
      stations.foldl (fun q st => q.handFrame (newFrame .handover st (.notice
        { noticeType := t, direction := d.getD .out, batch := b.getD 0, hatch := h, cause := c }))) q
      = q.withBus (stations.foldl (fun x st => x.handed (noticeFrame st t (d.getD .out) (b.getD 0) h c)) q.bus) := by
    intro h
    induction stations with
    | nil => intro q; rfl
    | cons st sts ih =>
      intro q
      simp only [List.foldl_cons, ih]
      rw [Part.handFrame_eq]; rfl
  exact key _ p

/-! ## Climate (R40, R41) -/

/-- What an evaluation makes of the governor: demand and PLANT_FAULT are kept, the choice is taken. -/
theorem Part.takeChoice_climate (p : Part) (effective grant : Nat) (c : AirPathChoice) :
    ∃ confirmation fault, (p.takeChoice effective grant c).climate =
      { p.climate with
        effective := effective, grant := grant, airPath := c.airPath, damper := c.damper, fan := c.fan
        plant := c.plant, confirmation := confirmation, damperFault := fault } := by
  unfold Part.takeChoice
  generalize hq : ((((p.withClimate _).requestOpening _).requestOutput _ _).requestOutput _ _) = q
  have hc : q.climate = { p.climate with
      effective := effective, grant := grant, airPath := c.airPath, damper := c.damper, fan := c.fan
      plant := c.plant } := by
    rw [← hq]; simp
  unfold Part.superviseCommand Part.setDamperFault Part.startConfirmation Part.endConfirmation
  rw [hc]
  split
  · exact ⟨_, _, hc⟩
  · split
    · split
      · split <;> simp
      · split <;> simp [hc]
    · split <;> simp [hc]

/-! ## Fire (R66) -/

/-- A change of the fire state leaves the sequencer as its rule says, with CYLINDER_LOW by R83. -/
theorem Part.changeFire_fire (p : Part) (f : FireSequencer) :
    (p.changeFire f).fire = f.entered (p.inactive .in4) := by
  simp [Part.changeFire]

theorem FireSequencer.entered_state (f : FireSequencer) (low : Bool) : (f.entered low).state = f.state := by
  unfold FireSequencer.entered; split <;> rfl

/-! ## Custody (R95) -/

/-- A conditional request that its tests take is what its rule makes of the record. -/
theorem Part.conditional_taken {p : Part} {label : Label} {r : CustodyRecord} (asker : Asker)
    (act : CustodyRecord → Part) (defaulted : p.startUp.defaulted = false) (found : p.custody.find label = some r) :
    p.conditional asker label r.revision.toNat r.state act = act r := by
  simp [Part.conditional, defaulted, found]

end Sys2Proof.Machine
end

