-- ==== Sys2Proof/Laws/PerInstr.lean ====
section
/-! SUPPORT. One statement about every command as syntax, with one lemma per constructor: a well-formed request comes from
a station that can send, so the bus port never discards it for its source (R157); an event command carries no request. -/

namespace Sys2Proof.Laws.Sendable

open Sys2Proof.Machine

/-- A well-formed command that carries a request names a station from 1 to 62 as its sender. -/
def Statement (i : Instr) : Prop := wellFormed i = true → ∀ q, requestOf i = some q → validStation q.1 = true

theorem scanStart : Statement (.scanStart) := by
  intro _ _ h
  cases h

theorem channelAnswer (group : Group) (place : Place) (temperature : Int) (humidity : Nat) (checkAgrees : Bool) :
    Statement (.channelAnswer group place temperature humidity checkAgrees) := by
  intro _ _ h
  cases h

theorem answerWindowExpiry (group : Group) (place : Place) : Statement (.answerWindowExpiry group place) := by
  intro _ _ h
  cases h

theorem groupStalenessExpiry (group : Group) : Statement (.groupStalenessExpiry group) := by
  intro _ _ h
  cases h

theorem remapSoft (src : Station) (role : Role) (group position : Byte) :
    Statement (.remapSoft src role group position) := by
  intro wf q h
  cases h
  exact wf

theorem remapClear (src : Station) (role : Role) (group : Byte) : Statement (.remapClear src role group) := by
  intro wf q h
  cases h
  exact wf

theorem remapHard (src : Station) (role : Role) (group position : Byte) :
    Statement (.remapHard src role group position) := by
  intro wf q h
  cases h
  exact wf

theorem burnCompletion : Statement (.burnCompletion) := by
  intro _ _ h
  cases h

theorem damperConfirmationExpiry : Statement (.damperConfirmationExpiry) := by
  intro _ _ h
  cases h

theorem loopReading (loop : LoopId) (reading : BitVec 10) : Statement (.loopReading loop reading) := by
  intro _ _ h
  cases h

theorem inputLevelChange (input : InputId) (high : Bool) : Statement (.inputLevelChange input high) := by
  intro _ _ h
  cases h

theorem inputHoldExpiry (input : InputId) : Statement (.inputHoldExpiry input) := by
  intro _ _ h
  cases h

theorem ackEvents (src : Station) (role : Role) (inputs : Byte) : Statement (.ackEvents src role inputs) := by
  intro wf q h
  cases h
  exact wf

theorem localSecondAdvance : Statement (.localSecondAdvance) := by
  intro _ _ h
  cases h

theorem countdownExpiry : Statement (.countdownExpiry) := by
  intro _ _ h
  cases h

theorem releasePulseEnd : Statement (.releasePulseEnd) := by
  intro _ _ h
  cases h

theorem confirmationEnd : Statement (.confirmationEnd) := by
  intro _ _ h
  cases h

theorem holdExpiry : Statement (.holdExpiry) := by
  intro _ _ h
  cases h

theorem cancelDischarge (src : Station) (role : Role) : Statement (.cancelDischarge src role) := by
  intro wf q h
  cases h
  exact wf

theorem resetFire (src : Station) (role : Role) : Statement (.resetFire src role) := by
  intro wf q h
  cases h
  exact wf

theorem archiveMinuteRise : Statement (.archiveMinuteRise) := by
  intro _ _ h
  cases h

theorem checkout (src : Station) (role : Role) (loan : BitVec 32) (labels : List Label) :
    Statement (.checkout src role loan labels) := by
  intro wf q h
  cases h
  simp only [wellFormed, Bool.and_eq_true] at wf
  exact wf.1

theorem cancel (src : Station) (role : Role) (label : Label) (revision : BitVec 16) :
    Statement (.cancel src role label revision) := by
  intro wf q h
  cases h
  simp only [wellFormed, Bool.and_eq_true] at wf
  exact wf.1

theorem extendLoan (src : Station) (role : Role) (label : Label) (revision : BitVec 16) (added : BitVec 32) :
    Statement (.extendLoan src role label revision added) := by
  intro wf q h
  cases h
  simp only [wellFormed, Bool.and_eq_true] at wf
  exact wf.1

theorem shelved (src : Station) (role : Role) (label : Label) (revision : BitVec 16) :
    Statement (.shelved src role label revision) := by
  intro wf q h
  cases h
  simp only [wellFormed, Bool.and_eq_true] at wf
  exact wf.1

theorem query (src : Station) (role : Role) (label : Label) : Statement (.query src role label) := by
  intro wf q h
  cases h
  simp only [wellFormed, Bool.and_eq_true] at wf
  exact wf.1

theorem list (src : Station) (role : Role) (start : Byte) : Statement (.list src role start) := by
  intro wf q h
  cases h
  exact wf

theorem openInner (src : Station) (role : Role) : Statement (.openInner src role) := by
  intro wf q h
  cases h
  exact wf

theorem present (src : Station) (role : Role) (direction : Byte) (batch : BitVec 16) (count : Byte) (courier : BitVec 16) :
    Statement (.present src role direction batch count courier) := by
  intro wf q h
  cases h
  exact wf

theorem attest (src : Station) (role : Role) (batch : BitVec 16) (count : Byte) :
    Statement (.attest src role batch count) := by
  intro wf q h
  cases h
  exact wf

theorem accept (src : Station) (role : Role) (batch : BitVec 16) : Statement (.accept src role batch) := by
  intro wf q h
  cases h
  exact wf

theorem withdraw (src : Station) (role : Role) (batch : BitVec 16) : Statement (.withdraw src role batch) := by
  intro wf q h
  cases h
  exact wf

theorem stepTimeoutExpiry : Statement (.stepTimeoutExpiry) := by
  intro _ _ h
  cases h

theorem unlockWindowExpiry (leaf : Leaf) : Statement (.unlockWindowExpiry leaf) := by
  intro _ _ h
  cases h

theorem tallyEnd (report : TagReport) : Statement (.tallyEnd report) := by
  intro _ _ h
  cases h

theorem purgeCompletion : Statement (.purgeCompletion) := by
  intro _ _ h
  cases h

theorem exceptionList (src : Station) (role : Role) : Statement (.exceptionList src role) := by
  intro wf q h
  cases h
  exact wf

theorem clearExceptions (src : Station) (role : Role) : Statement (.clearExceptions src role) := by
  intro wf q h
  cases h
  exact wf

theorem frameReceived (frame : RxFrame) : Statement (.frameReceived frame) := by
  intro _ _ h
  cases h

theorem frameTransmitStart : Statement (.frameTransmitStart) := by
  intro _ _ h
  cases h

theorem contentionLost (bit : Nat) : Statement (.contentionLost bit) := by
  intro _ _ h
  cases h

theorem frameSent : Statement (.frameSent) := by
  intro _ _ h
  cases h

theorem peerEntryExpiry (station : Station) : Statement (.peerEntryExpiry station) := by
  intro _ _ h
  cases h

theorem neighbourWatchExpiry (station : Station) : Statement (.neighbourWatchExpiry station) := by
  intro _ _ h
  cases h

theorem patternPhaseEnd (signal : Signal) : Statement (.patternPhaseEnd signal) := by
  intro _ _ h
  cases h

theorem setOccupancy (src : Station) (role : Role) (value : Byte) : Statement (.setOccupancy src role value) := by
  intro wf q h
  cases h
  exact wf

theorem backupSupplyFall : Statement (.backupSupplyFall) := by
  intro _ _ h
  cases h

theorem mainPowerLoss : Statement (.mainPowerLoss) := by
  intro _ _ h
  cases h

theorem powerStart (record : Option (List Byte)) (pins : Station) : Statement (.powerStart record pins) := by
  intro _ _ h
  cases h

theorem resetPinAssert : Statement (.resetPinAssert) := by
  intro _ _ h
  cases h

theorem resetPinRelease : Statement (.resetPinRelease) := by
  intro _ _ h
  cases h

theorem restart (src : Station) (role : Role) : Statement (.restart src role) := by
  intro wf q h
  cases h
  exact wf

theorem restartPendingExpiry : Statement (.restartPendingExpiry) := by
  intro _ _ h
  cases h

end Sys2Proof.Laws.Sendable
end

