-- ==== Sys2Proof/Laws/Timers.lean ====
section
/-! SUPPORT. The test of each of the part's timers, said once: it runs, and its time has come. Later proofs cite these
lemmas and do not unfold the tests. -/

namespace Sys2Proof.Machine

theorem mem_whenDue {d : Bool} {c c' : Instr} : c' ∈ whenDue d c ↔ d = true ∧ c' = c := by
  unfold whenDue; split <;> simp_all

theorem expired_iff {now : Time} {timer : Option Time} : expired now timer = true ↔ ∃ e, timer = some e ∧ e ≤ now := by
  cases timer <;> simp [expired]

theorem any_ended_iff {α : Type} {o : Option α} {ends : α → Time} {now : Time} :
    o.any (fun a => decide (ends a ≤ now)) = true ↔ ∃ a, o = some a ∧ ends a ≤ now := by
  cases o <;> simp

variable {p : Part}

theorem Part.scanDue_iff : p.scanDue = true ↔ p.moisture.scan = none ∧ p.moisture.nextScan ≤ p.now := by
  simp [Part.scanDue]

theorem Part.windowDue_iff {g : Group} {pl : Place} : p.windowDue g pl = true
    ↔ ∃ x, p.moisture.scan = some x ∧ (x.decided.get g).get pl = false ∧ x.windowEnd ≤ p.now := by
  cases h : p.moisture.scan <;> simp [Part.windowDue, Part.openScan, h]

theorem Part.stalenessDue_iff {g : Group} : p.stalenessDue g = true
    ↔ (p.moisture.groups.get g).freshness = .stale
      ∧ ∃ e, (p.moisture.groups.get g).staleSince = some e ∧ e + stalenessTime ≤ p.now := by
  simp [Part.stalenessDue, any_ended_iff]

theorem Part.burnDue_iff : p.burnDue = true ↔ ∃ b, p.substitution.burn = some b ∧ b.start + burnTime ≤ p.now := by
  simp [Part.burnDue, any_ended_iff]

theorem Part.inputHoldDue_iff {i : InputId} : p.inputHoldDue i = true
    ↔ (p.inputs.get i).pendingLevel ≠ none ∧ ∃ e, (p.inputs.get i).holdExpiry = some e ∧ e ≤ p.now := by
  simp [Part.inputHoldDue, expired_iff, Option.isSome_iff_ne_none]

theorem Part.secondDue_iff : p.secondDue = true ↔ p.clock.nextSecond ≤ p.now := by
  simp [Part.secondDue]

theorem Part.countdownOver_iff : p.countdownOver = true
    ↔ p.fire.state = .preDischarge ∧ p.fire.countdown = some 0 ∧ p.fire.paused = false := by
  simp [Part.countdownOver, and_assoc]

theorem Part.purgeReached_iff : p.purgeReached = true
    ↔ p.hatch.state = .purging
      ∧ (toleranceRunNeeded ≤ p.hatch.toleranceRun ∨ p.settings.purgeMax ≤ p.hatch.purgeTime) := by
  simp [Part.purgeReached]

theorem PeerEntry.due_iff {e : PeerEntry} {now : Time} :
    e.due now = true ↔ e.silent = false ∧ e.lastFrame + hearingTime ≤ now := by
  simp [PeerEntry.due]

theorem NeighbourWatch.due_iff {w : NeighbourWatch} {now : Time} :
    w.due now = true ↔ w.silent = false ∧ w.heard + hearingTime ≤ now := by
  simp [NeighbourWatch.due]

theorem OutputState.phaseDue_iff {st : OutputState} {now : Time} :
    st.phaseDue now = true ↔ ∃ q on e, st = .pattern q on e ∧ e ≤ now := by
  cases st <;> simp [OutputState.phaseDue]

end Sys2Proof.Machine
end

