-- ==== Sys2Proof/Tests/Slice0.lean ====
section
/-! SUPPORT. Tests of the model against the spec's worked figures, ill-formed commands that `wellFormed` refuses, and for
every statement with hypotheses a witness: concrete states and operands that meet the hypotheses of each clause. -/

namespace Sys2Proof.Tests

open Sys2Proof Sys2Proof.Machine

/-! ## Small states -/

/-- A part that runs as station 3 with nothing due, everything else as a new part. -/
def zone : State :=
  { toPart := { Part.new with
      startUp := { Part.new.startUp with mainOn := true, backupValid := true }
      bus := ⟨[], some 3#6⟩
      moisture := { Part.new.moisture with nextScan := 10000 }
      clock := { Part.new.clock with nextSecond := 1000 }
      fire := { Part.new.fire with alarm := none } }
    pending := [] }

/-- The zone at a local time. -/
def clocked (s : State) (t : Time) : State := { s with clock := { s.clock with localTime := t } }

/-- The zone in a fire state. -/
def burning (s : State) (f : FireState) : State := { s with fire := { s.fire with state := f } }

/-- The zone with a hatch. -/
def hatched (s : State) (h : HatchContext) : State := { s with hatch := h }

/-- The zone with custody records. -/
def keeping (s : State) (rs : List CustodyRecord) : State := { s with custody := { s.custody with records := rs } }

/-- An input with a pending level whose hold runs out at 100 ms. -/
def holding (s : State) (i : InputId) (accepted : Option Bool) (high : Bool) : State :=
  { s with inputs := s.inputs.set i ⟨high, accepted, some high, some 100, false⟩ }

/-- An input accepted at a level. -/
def accepting (s : State) (i : InputId) (active : Bool) : State :=
  { s with inputs := s.inputs.set i { s.inputs.get i with accepted := some active } }

/-- A level that is to be accepted at an input now, and is not the accepted one. -/
abbrev newLevel (s : State) (i : InputId) (high : Bool) : Prop :=
  s.ready ∧ (s.inputs.get i).pendingLevel = some high ∧ (s.inputs.get i).holdExpiry = some 100
    ∧ 100 ≤ s.clock.localTime ∧ (s.inputs.get i).accepted ≠ some high

/-- A loop about to accept a class at its third reading. -/
def looping (s : State) (l : LoopId) (accepted cand : LoopClass) (n : Nat) : State :=
  { s with loops := s.loops.set l { s.loops.get l with accepted := accepted, candidate := some cand, count := n } }

/-- A label of one letter. -/
def label (c : Nat) : Label := List.replicate 8 (BitVec.ofNat 8 c)

/-- A record of a label in a state. -/
def record (c : Nat) (st : RecordState) (batch : Option Nat) : CustodyRecord :=
  { label := label c, state := st, revision := 1#8, foreign := false, overdue := false, batch := batch
    courier := none, reserveMinute := 0, loanLength := some 60, loanStart := some 0, due := some 60
    returnMinute := some 90, dwellEnd := some 30 }

/-- A hatch context in a state. -/
def hatchIn (st : HatchState) : HatchContext := { HatchContext.cold with state := st, backupState := st }

/-- An outbound handover of batch 1, one label, courier post 5. -/
def outbound (stage : Stage) : HatchContext :=
  { hatchIn .staged with
    direction := some .out, batch := some 1, stage := stage, handoverOpen := true, declared := some 1
    courier := some 9, courierPost := some 5#6, console := some 7#6, lastStep := some ⟨.present, 5#6, 1⟩ }

/-- An inbound handover of batch 1, one label, courier post 5. -/
def inbound (st : HatchState) (stage : Stage) : HatchContext :=
  { outbound stage with state := st, backupState := st, direction := some .inward, lastStep := none }

/-- A hatch whose tally has run at local time 2000. -/
def tallying (h : HatchContext) (l : Leaf) : HatchContext :=
  { h with state := .tallying, tallyEnd := some 2000, tallyLeaf := some l, handoverOpen := h.handoverOpen }

/-! ## Ill-formed commands -/

theorem test_refuses_sources :
    [Instr.remapSoft 0#6 .console 0#8 0#8, .remapClear 63#6 .console 0#8, .remapHard 0#6 .console 0#8 0#8,
      .ackEvents 63#6 .console 0#8, .cancelDischarge 0#6 .console, .resetFire 63#6 .console,
      .checkout 0#6 .console 60#32 [label 65], .cancel 63#6 .console (label 65) 0#16,
      .extendLoan 0#6 .console (label 65) 0#16 60#32, .shelved 63#6 .console (label 65) 0#16,
      .query 0#6 .console (label 65), .list 63#6 .console 0#8, .openInner 0#6 .console,
      .present 63#6 .courierPost 0#8 1#16 1#8 1#16, .attest 0#6 .console 1#16 1#8, .accept 63#6 .courierPost 1#16,
      .withdraw 0#6 .console 1#16, .exceptionList 63#6 .console, .clearExceptions 0#6 .console,
      .setOccupancy 63#6 .console 0#8, .restart 0#6 .console, .peerEntryExpiry 0#6,
      .neighbourWatchExpiry 63#6].all (fun c => !wellFormed c) = true := by decide

theorem test_refuses_labels :
    [Instr.checkout 7#6 .console 60#32 [[65#8]], .cancel 7#6 .console [] 0#16,
      .extendLoan 7#6 .console [65#8] 0#16 60#32, .shelved 7#6 .console [] 0#16, .query 7#6 .console [65#8]].all
      (fun c => !wellFormed c) = true := by decide

theorem test_refuses_tag_reports :
    wellFormed (.tallyEnd (.labels [label 65, label 65])) = false
    ∧ wellFormed (.tallyEnd (.labels [label 33])) = false
    ∧ wellFormed (.tallyEnd (.labels ([65, 66, 67, 68, 69, 70, 71, 72, 73].map label))) = false := by decide

theorem test_refuses_frames_and_records :
    wellFormed (.frameReceived ⟨.fire, 7#6, 63#6, .zone, 1#8, 10#6, [], some 0#16⟩) = false
    ∧ wellFormed (.contentionLost 367) = false ∧ wellFormed (.powerStart (some [0#8]) 3#6) = false := by decide

theorem test_takes_a_request : wellFormed (.remapSoft 7#6 .console 9#8 9#8) = true := by decide

theorem test_no_word_spells_a_command : decodeTableWord 32 5 = none := by decide

/-! ## Figures of the spec -/

/-- The five worked computations of 01 section 1.3, cases 4 and 5 after their clamping. -/
theorem test_worked_moisture :
    moistureOf 213 437 = 822 ∧ moistureOf (-25) 600 = 243 ∧ moistureOf 0 500 = 243 ∧ moistureOf 500 1000 = 8306
    ∧ moistureOf (-200) 40 = 4 := by decide

/-- 01 section 1.5: serving channels read 822 and 815, the group moisture is 819; both missing, it is held. -/
theorem test_worked_group :
    GroupRecord.evaluated ⟨none, .stale, some 0⟩ 5 (some 822) (some 815) = ⟨some 819, .fresh, none⟩
    ∧ GroupRecord.evaluated ⟨some 812, .fresh, none⟩ 20000 none none = ⟨some 812, .stale, some 20000⟩ := by decide

/-- Table 1-3: the third good outcome of a SUSPECT channel, and the third miss. -/
theorem test_health_thresholds :
    (Channel.judged ⟨none, .suspect, 2, 0, false⟩ .good).health = .healthy
    ∧ (Channel.judged ⟨none, .suspect, 0, 2, false⟩ .miss).health = .failed := by decide

/-- R37: shares of a plant of 200 points among demands of 255 and 255. -/
theorem test_grant_shares : grantLaw false 255 255 200 = 100 ∧ grantLaw true 255 0 200 = 0 := by decide

/-- R44: "a grant of 255 gives 25,627 div 255 = 100". -/
theorem test_drive_opening : driveOpening 255 = 100 ∧ driveOpening 1 = 0 := by decide

/-- Table 4-1 and R52: band limits, and DET6 read as TROUBLE with a count of 5. -/
theorem test_loop_bands :
    classify 7 47 = .short ∧ classify 7 48 = .multi ∧ classify 7 528 = .det 1 ∧ classify 5 208 = .trouble
    ∧ classify 7 688 = .normal ∧ classify 7 816 = .openLoop := by decide

/-- R144 to R146: 60 + 24 × 700 div 256 + 640 div 64 = 135. -/
theorem test_dwell :
    dwellOf Settings.default (some (.available 700)) 640 { record 65 .stagedIn (some 1) with returnMinute := some 1440 }
      = 135 := by decide

/-- R94: batch 65535 is followed by 1. -/
theorem test_batch_wraps : nextBatch 65535 = 1 ∧ nextBatch 0 = 1 := by decide

/-- R92: revision 255 is followed by 0. -/
theorem test_revision_wraps :
    ({ record 65 .onLoan none with revision := 255#8 } : CustodyRecord).revised.revision = 0#8 := by decide

/-- R154: the check of no bits is the preset, and a one bit after it shifts without the generator. -/
theorem test_crc_steps : crc16 [] = 0xFFFF#16 ∧ crc16 [true] = 0xFFFE#16 := by decide

/-- Table 9-2: kinds of the four classes. -/
theorem test_kinds :
    kindMeaning .fire 1#8 = .fireState ∧ kindMeaning .custody 7#8 = .request .openInner
    ∧ kindMeaning .routine 2#8 = .climate ∧ kindMeaning .handover 6#8 = .unknown
    ∧ kindMeaning .fire 255#8 = .silentlyTaken := by decide

/-- Table 9-4: the position of the first field out of its range. -/
theorem test_offences :
    (Request.present 2#8 0#16 9#8 0#16).offence = some 0 ∧ (Request.present 1#8 0#16 9#8 0#16).offence = some 1
    ∧ (Request.attest 1#16 9#8).offence = some 2 ∧ (Request.cancel (label 65) 256#16).offence = some 8
    ∧ (Request.list 96#8).offence = some 0 := by decide

/-- R114: an unlock withheld while the other leaf's lock is off its request, or in a sealed zone. -/
theorem test_unlock_is_withheld :
    ((burning zone .hold).toPart.unlock .inner).hatch.locks = ⟨false, false⟩
    ∧ (zone.toPart.unlock .inner).hatch.locks = ⟨true, false⟩ := by decide

/-- R132, R141: an ACCEPT in RETRIEVE while a start tally is still to come unlocks the outer leaf, and ends the wait.
R122: the console of the batch has the notice too. -/
theorem test_accept_ends_the_wait :
    let h : HatchContext := { HatchContext.cold with
      state := .retrieve, direction := some .inward, batch := some 1, courierPost := some 5#6, console := some 7#6
      startTally := .forced }
    ∃ t, exec (.accept 5#6 .courierPost 1#16) (hatched zone h) = .next t ∧ t.hatch.locks.outer = true
      ∧ t.hatch.startTally = .no ∧ t.bus.queue.map (·.dest) = [5#6, 7#6, 5#6] := ⟨_, rfl, by decide⟩

/-- Table 9-4 and R160: a REPLY without data is its kind and its status number, one with a fire state a byte more. -/
theorem test_reply_payload :
    Body.payload (.reply ⟨7#8, .busy, .nothing⟩) = some [7#8, 4#8]
    ∧ Body.payload (.reply ⟨2#8, .refusedState, .fireState .spent⟩) = some [2#8, 2#8, 5#8] := by decide

/-- R180, R181: the first power start of a part is cold and starts a scan. -/
theorem test_first_start_is_cold :
    ∃ t, exec (.powerStart none 3#6) State.reset = .next t ∧ t.startUp.backupValid = true ∧ t.custody.lost = true
      ∧ t.startUp.defaulted = true ∧ t.moisture.scan.isSome = true := ⟨_, rfl, by decide⟩

/-- The first cold start of a part, unfinished after a stage (R180, R186). -/
def coldCut (stage : StartStage) : State :=
  { State.reset with toPart := (State.reset.toPart.powerStart ⟨true, ⟨none, 3#6⟩⟩).unfinished stage }

/-- The part after a command that answers a next state. -/
def after (c : Instr) (s : State) : State :=
  match exec c s with
  | .next t => t
  | _ => s

/-- R180, R181: main power lost during a cold start. Before the mark is set, the next power start is cold again and sets
CUSTODY_LOST; after it, the next is warm, and the CUSTODY_LOST that only a completion sets stays clear. -/
theorem test_loss_during_a_cold_start :
    let next (stage : StartStage) := after (.powerStart none 3#6) (after .mainPowerLoss (coldCut stage))
    [StartStage.begun, .abandoned, .read, .written].all (fun x =>
        (next x).custody.lost && (next x).toPart.running) = true
    ∧ [StartStage.marked, .safe, .valued].all (fun x =>
        !(next x).custody.lost && (next x).hatch.state == .tallying && (next x).toPart.running) = true := by decide

/-- R181: the reset pin during a cold start, at any stage: it is begun again as a cold start. -/
theorem test_pin_during_a_cold_start :
    [StartStage.begun, .abandoned, .read, .written, .marked, .safe, .valued].all (fun stage =>
      let held := after .resetPinAssert (coldCut stage)
      let s := after .resetPinRelease held
      !held.toPart.running && held.startUp.backupValid == decide (4 ≤ stagePlace stage) && s.custody.lost
        && s.startUp.backupValid && s.hatch.state == .empty && s.toPart.running) = true := by decide

/-- R186: every output is RELEASED until stage 3 of a power start, and DRIVEN_OFF from it; SPARE_LOST waits for the
completion. -/
theorem test_outputs_of_an_unfinished_start :
    let lost : State := { State.reset with substitution := { State.reset.substitution with cell := ⟨.lost, .unused, .unused, .unused⟩ } }
    let cut (stage : StartStage) := (lost.toPart.powerStart ⟨true, ⟨none, 3#6⟩⟩).unfinished stage
    [StartStage.begun, .abandoned, .read, .written, .marked].all (fun x =>
        (cut x).outputs == OutputDriver.released) = true
    ∧ (cut .safe).outputs.out0.state = .drivenOff ∧ (cut .safe).outputs.out5.opening = some 0
    ∧ (cut .valued).substitution.spareLost.g0 = false
    ∧ (cut .valued).completeStart.substitution.spareLost.g0 = true := by decide

/-- The zone in PRE_DISCHARGE at 1000, with a scan, a burn, a countdown and a running pattern, in a restart after a
stage. -/
def restartCutAt (stage : StartStage) : Part :=
  let busy : State := clocked { zone with
    moisture := { zone.moisture with scan := some ⟨1400, PerGroup.of fun _ => PerPlace.of fun _ => false⟩ }
    substitution := { zone.substitution with burn := some ⟨.g0, .b, 500⟩ }
    fire := { zone.fire with state := .preDischarge, countdown := some 5, alarm := some ⟨none, none, 0⟩ }
    outputs := { zone.outputs with out3 := ⟨.pattern .preDischarge, .pattern .preDischarge true 1200⟩ } } 1000
  busy.toPart.beginRestart.unfinished stage

/-- R186, stage by stage of a restart: nothing has ended at its first event; stage 1 ends scan, burn (its cell LOST,
R29), countdown and pattern; stage 3 drives the output off; stage 4 gives the countdown anew (R88); the clock and the
input holds wait for the completion. -/
theorem test_stages_of_a_restart :
    let cut := restartCutAt
    ((cut .begun).substitution.burn.isSome = true ∧ (cut .begun).fire.countdown = some 5)
    ∧ [StartStage.abandoned, .read, .written, .marked].all (fun x =>
        (cut x).substitution.burn.isNone && (cut x).substitution.cell.g0 == .lost && (cut x).moisture.scan.isNone
          && (cut x).fire.countdown.isNone && (cut x).outputs.out3.state == .drivenOn) = true
    ∧ (cut .safe).outputs.out3 = ⟨.drivenOff, .drivenOff⟩ ∧ (cut .safe).fire.countdown = none
    ∧ (cut .valued).fire.countdown = some 30 ∧ (cut .valued).clock.localTime = 1000
    ∧ (cut .valued).inputs.in0.holdExpiry = none
    ∧ (cut .valued).completeStart.clock.localTime = 0 ∧ (cut .valued).completeStart.inputs.in0.holdExpiry = some 100
    ∧ (cut .begun).completeStart = (cut .valued).completeStart := by decide

/-! ## Witnesses: commands, moisture, substitution -/

theorem witness_EveryCommandAnswersANextState :
    State.reset.toPart.running = false ∧ (coldCut .read).toPart.running = false
    ∧ takenWhileHeld .scanStart = false := by decide

/-- The zone at its reset time 0 finds every timer but those of a silent peer view before its time. -/
theorem witness_EveryCommandAnswersANextState_early :
    let p : PeerEntry := ⟨5#6, .zone, none, none, none, 0, false⟩
    let s : State := { zone with peers := ⟨[p], false, [⟨5#6, 0, false⟩]⟩ }
    s.toPart.RestartSound ∧ s.clock.localTime < s.moisture.nextScan ∧ s.clock.localTime < s.clock.nextSecond
    ∧ (∀ e ∈ s.peers.entries, e.station = 5#6 → e.silent = true ∨ s.clock.localTime < e.lastFrame + 95000)
    ∧ (∀ w ∈ s.peers.watches, w.station = 5#6 → w.silent = true ∨ s.clock.localTime < w.heard + 95000)
    ∧ s.fire.state ≠ .hold ∧ s.hatch.state ≠ .purging ∧ s.clock.minuteRiseDue = false
    ∧ s.clock.localTime < 0 + 600000 ∧ (s.loops.get .a).nextConversion = 0 := by decide

/-- Log 4: a timer that runs to 500 has not run at 0, and a hold that is not over accepts nothing. -/
theorem test_early_expiries_change_nothing :
    let z : State := { zone with
      fire := { zone.fire with state := .discharged, pulseEnd := some 500 }
      loops := ⟨{ zone.loops.a with nextConversion := 250 }, zone.loops.b⟩ }
    let s : State := holding z .in7 none true
    [Instr.releasePulseEnd, .loopReading .a 20#10, .inputHoldExpiry .in7, .scanStart, .localSecondAdvance].all
      (fun c => decide (after c s = s)) = true := by decide

theorem witness_EmptyQueueLetsTheTimersAct :
    (State.reset.pending = [] ∧ State.reset.toPart.powered = false)
    ∧ ((coldCut .read).pending = [] ∧ (coldCut .read).toPart.starting = true)
    ∧ (zone.pending = [] ∧ zone.toPart.running = true ∧ dueCommands zone.toPart = [])
    ∧ (clocked zone 1000).pending = [] ∧ dueCommands (clocked zone 1000).toPart ≠ [] := by decide

/-- Two peers and two watched neighbours, heard at 0 and at 1: at 95 s the first of each is due to expire. -/
def hearing : State :=
  { clocked zone 95000 with
    peers := ⟨[⟨5#6, .zone, none, none, none, 0, false⟩, ⟨6#6, .zone, none, none, none, 1, false⟩], false,
      [⟨5#6, 0, false⟩, ⟨6#6, 1, false⟩]⟩ }

theorem witness_EmptyQueueLetsTheTimersAct_once :
    hearing.pending = [] ∧ (hearing.peers.entries.map (·.station)).Nodup
    ∧ (hearing.peers.watches.map (·.station)).Nodup := by decide

/-- A timer is due from the millisecond of its time (R164, R166), and a reading from outside is never the part's own. -/
theorem test_due_commands :
    let due := dueCommands hearing.toPart
    [Instr.peerEntryExpiry 5#6, .neighbourWatchExpiry 5#6, .localSecondAdvance, .scanStart].all
      (fun c => decide (c ∈ due)) = true
    ∧ [Instr.peerEntryExpiry 6#6, .neighbourWatchExpiry 6#6, .loopReading .a 0#10, .holdExpiry].all
      (fun c => decide (c ∉ due)) = true := by decide

/-- OPEN_INNER of console 7 as a frame to station 3. -/
def askOpen : RxFrame :=
  let f : RxFrame := ⟨.custody, 7#6, 3#6, .console, 7#8, 0#6, [], none⟩
  { f with crc := some (computedCrc f) }

/-- OPEN_INNER of a zone, and of console 7 with a byte of payload, as frames to station 3. -/
def badOpen (role : Role) (payload : List Byte) : RxFrame :=
  let f : RxFrame := ⟨.custody, 7#6, 3#6, role, 7#8, BitVec.ofNat 6 payload.length, payload, none⟩
  { f with crc := some (computedCrc f) }

theorem witness_RequestsPassTheBusPort_lengths :
    let a := badOpen .zone []
    let b := badOpen .console [0#8]
    (requestOf (.query 7#6 .console []) = some (7#6, .console, .query [])
      ∧ RequestKind.query.takenFrom .console = true ∧ (Request.query []).fits = false)
    ∧ (frameValid a zone.bus.station = true ∧ zone.bus.station = some a.dest
      ∧ kindMeaning a.cls a.kind = .request .openInner ∧ RequestKind.openInner.takenFrom a.role = false)
    ∧ frameValid b zone.bus.station = true ∧ zone.bus.station = some b.dest
    ∧ kindMeaning b.cls b.kind = .request .openInner ∧ RequestKind.openInner.takenFrom b.role = true
    ∧ parseRequest .openInner b.payload = none := by decide +kernel

/-- The zone in DEFAULTED operation. -/
def defaulted : State := { zone with startUp := { zone.startUp with defaulted := true } }

theorem witness_RequestsPassTheBusPort :
    zone.takesFrom 7#6 ∧ requestOf (.remapSoft 7#6 .zone 4#8 0#8) = some (7#6, .zone, .remapSoft 4#8 0#8)
    ∧ RequestKind.remapSoft.takenFrom .zone = false ∧ RequestKind.remapSoft.takenFrom .console = true
    ∧ (Request.remapSoft 4#8 0#8).fits = true ∧ (Request.remapSoft 4#8 0#8).offence = some 0
    ∧ defaulted.takesFrom 7#6 ∧ defaulted.startUp.defaulted = true ∧ RequestKind.openInner.takenFrom .console = true
    ∧ Request.openInner.fits = true ∧ Request.openInner.offence = none
    ∧ zone.ready ∧ frameValid askOpen zone.bus.station = true ∧ zone.bus.station = some askOpen.dest
    ∧ askOpen.dest ≠ 63#6 ∧ kindMeaning askOpen.cls askOpen.kind = .request .openInner
    ∧ parseRequest .openInner askOpen.payload = some .openInner
    ∧ requestOf (.openInner 7#6 .console) = some (askOpen.source, askOpen.role, .openInner) := by decide +kernel

/-- R157, R167, log 7: a request from 0, from 63, from the part's own number, and at a listen-only part. -/
theorem witness_RequestsPassTheBusPort_discarded :
    let mute : State := { zone with bus := ⟨[], none⟩ }
    zone.toPart.RestartSound ∧ requestOf (.openInner 63#6 .console) = some (63#6, .console, .openInner)
    ∧ validStation 63#6 = false ∧ validStation 0#6 = false ∧ zone.bus.station = some 3#6
    ∧ mute.toPart.RestartSound ∧ mute.bus.station = none
    ∧ after (.openInner 3#6 .console) zone = zone ∧ after (.openInner 7#6 .console) zone ≠ zone := by decide

/-- A scan whose windows end at 400 ms, with these channels still open. -/
def scanning (still : Group → Place → Bool) : Scan :=
  ⟨400, PerGroup.of fun g => PerPlace.of fun pl => !still g pl⟩

/-- The zone in a scan with these channels still open. -/
def inScan (still : Group → Place → Bool) : State :=
  { zone with moisture := { zone.moisture with scan := some (scanning still) } }

theorem witness_ScanStartOpensTheWindows :
    ((clocked zone 10000).ready ∧ (clocked zone 10000).moisture.scan = none
      ∧ (clocked zone 10000).moisture.nextScan ≤ (clocked zone 10000).clock.localTime)
    ∧ (∀ x, zone.moisture.scan = some x → (x.decided.get .g0).get .a = true ∨ x.windowEnd < zone.clock.localTime)
    ∧ ∀ x, (clocked (inScan fun _ _ => true) 401).moisture.scan = some x →
        (x.decided.get .g0).get .a = true ∨ x.windowEnd < (clocked (inScan fun _ _ => true) 401).clock.localTime := by
  refine ⟨by decide, fun x h => (by cases h), fun x h => ?_⟩
  cases h; exact .inr (by decide)

theorem witness_ChannelOutcomesAreApplied :
    let s := clocked (inScan fun _ _ => true) 400
    let x := scanning fun _ _ => true
    s.ready ∧ s.moisture.scan = some x ∧ (x.decided.get .g0).get .a = false ∧ x.othersOpen .g0 .a
    ∧ x.windowEnd ≤ s.clock.localTime ∧ s.clock.localTime ≤ x.windowEnd
    ∧ ((-200 : Int) ≤ -200 ∧ (-200 : Int) ≤ 500 ∧ 1000 ≤ 1000) ∧ ((-201 : Int) < -200) ∧ 1000 < 1001 := by decide

/-- G0 has had a reading of its position B only, G1 of both, G2 of A, G3 of none; the last open channel is CH0. -/
def lastOpen : State :=
  let read : Channel := ⟨some 800, .healthy, 9, 0, true⟩
  let mute : Channel := ⟨none, .suspect, 0, 1, false⟩
  let s := clocked (inScan fun g pl => g == .g0 && pl == .a) 400
  { s with moisture := { s.moisture with
      channels := ⟨⟨mute, read, mute⟩, ⟨read, read, mute⟩, ⟨read, mute, mute⟩, ⟨mute, mute, mute⟩⟩ } }

theorem witness_LastOutcomeCompletesTheScan :
    let x := scanning fun g pl => g == .g0 && pl == .a
    let record : Channel := { Channel.judged ⟨none, .suspect, 0, 1, false⟩ .miss with readThisScan := false }
    let q := lastOpen.toPart.withMoisture (lastOpen.moisture.withOutcome x .g0 .a record)
    let held : SubstitutionStore := { zone.substitution with burn := some ⟨.g3, .a, 0⟩ }
    lastOpen.ready ∧ lastOpen.moisture.scan = some x ∧ (x.decided.get .g0).get .a = false ∧ ¬ x.othersOpen .g0 .a
    ∧ x.windowEnd ≤ lastOpen.clock.localTime ∧ lastOpen.clock.localTime ≤ x.windowEnd
    ∧ q.usableMoisture .g0 .a = none ∧ q.usableMoisture .g0 .b = some 800
    ∧ q.usableMoisture .g1 .a = some 800 ∧ q.usableMoisture .g1 .b = some 800
    ∧ q.usableMoisture .g2 .a = some 800 ∧ q.usableMoisture .g2 .b = none
    ∧ q.usableMoisture .g3 .a = none ∧ q.usableMoisture .g3 .b = none
    ∧ held.holdsGroup .g3 = true ∧ lastOpen.substitution.holdsGroup .g3 = false := by decide

/-- `lastOpen` with a reading of CH9 and an inbound batch purging, its run at 2 and its dose just below its top. -/
def lastOpenPurging : State :=
  let read : Channel := ⟨some 1200, .healthy, 9, 0, true⟩
  let s := { lastOpen with moisture := { lastOpen.moisture with
    channels := lastOpen.moisture.channels.set .g3 ⟨read, read, read⟩ } }
  { s with
    startUp := { s.startUp with settings := { s.startUp.settings with purgeTolerance := 500 } }
    hatch := { s.hatch with
      state := .purging, direction := some .inward, stage := .attested, handoverOpen := true, batch := some 1
      courierPost := some 5#6, purgeRequest := true, toleranceRun := 2, dose := 65300 } }

/-- The hand-off of `lastOpenPurging` saturates the dose and ends the purge; that of `lastOpen` does neither, and its last
outcome may be a clamped reading or a check that disagrees. -/
theorem witness_LastOutcomeCompletesTheScan_handOff :
    (lastOpenPurging.ready ∧ lastOpenPurging.hatch.holdsInbound = true
      ∧ lastOpenPurging.toPart.shutCondition = false ∧ lastOpenPurging.hatch.locks.outer = false
      ∧ lastOpenPurging.hatch.startTally = .no)
    ∧ (∃ t, exec (.channelAnswer .g0 .a 0 0 false) lastOpenPurging = .next t
      ∧ t.moisture.chamber = some 1200 ∧ t.moisture.store = some 800)
    ∧ ((0 : Int) < 501 ∧ (500 : Int) < 501)
    ∧ ∃ t, exec (.channelAnswer .g0 .a 501 0 true) lastOpen = .next t ∧ t.moisture.chamber = none :=
  ⟨by decide, ⟨_, rfl, by decide, by decide⟩, by decide, _, rfl, by decide⟩

theorem witness_FiguresFollowTheirTables :
    let c : Channel := ⟨none, .suspect, 10, 3, false⟩
    c.goodCount ≤ 10 ∧ c.missCount ≤ 3 ∧ 3 ≤ c.goodCount + 1 ∧ 3 ≤ c.missCount + 1
    ∧ (13 : Nat) ≤ 13 ∧ ((13 : Nat) = 13 ∧ (50 : Nat) = 50) ∧ (49 : Nat) < 50
    ∧ storeMoisture ⟨⟨some 5, .stale, some 0⟩, ⟨none, .stale, some 0⟩, ⟨some 9, .lost, none⟩, ⟨none, .lost, none⟩⟩ = some 5
    ∧ storeMoisture zone.moisture.groups = none := by decide

/-- The zone with group G0's cell, soft remap and spare health. -/
def spared (cell : SpareCell) (soft : Option Position) (health : Health) : State :=
  { zone with
    substitution := { zone.substitution with
      cell := zone.substitution.cell.set .g0 cell, soft := zone.substitution.soft.set .g0 soft }
    moisture := zone.moisture.setChannel .g0 .s { Channel.atStart with health := health } }

/-- The zone with a burn of G0 begun at 0. -/
def burningSpare : State :=
  { zone with substitution := { zone.substitution with burn := some ⟨.g0, .b, 0⟩ } }

theorem witness_RemapSoftTests :
    let hard := spared .hardA none .suspect
    let same := spared .unused (some .b) .failed
    let unfit := spared .unused (some .a) .failed
    let free := spared .unused (some .a) .suspect
    hard.takesFrom 7#6 ∧ (0#8).toNat ≤ 3 ∧ (1#8).toNat ≤ 1 ∧ groupOfByte 0#8 = .g0 ∧ positionOfByte 1#8 = .b
    ∧ (hard.substitution.burn = none ∧ hard.substitution.cell.get .g0 ≠ .unused)
    ∧ (same.takesFrom 7#6 ∧ same.substitution.soft.get .g0 = some .b)
    ∧ (unfit.takesFrom 7#6 ∧ unfit.substitution.soft.get .g0 ≠ some .b
      ∧ ((unfit.moisture.channels.get .g0).get .s).health = .failed)
    ∧ free.takesFrom 7#6 ∧ free.substitution.cell.get .g0 = .unused ∧ free.substitution.soft.get .g0 ≠ some .b
    ∧ ((free.moisture.channels.get .g0).get .s).health ≠ .failed := by decide

theorem witness_RemapClearAndBusyRemaps :
    let free := spared .unused (some .a) .suspect
    (free.takesFrom 7#6 ∧ (3#8).toNat ≤ 3 ∧ free.substitution.burn = none)
    ∧ zone.substitution.soft.get .g3 = none
    ∧ burningSpare.takesFrom 7#6 ∧ burningSpare.substitution.burn = some ⟨.g0, .b, 0⟩ := by decide

theorem witness_RemapHardTests :
    let soft := spared .unused (some .a) .suspect
    let used := spared .lost none .suspect
    let unfit := spared .unused none .failed
    let held := burning (spared .unused none .healthy) .alert
    let free := spared .unused none .suspect
    (soft.takesFrom 7#6 ∧ soft.substitution.burn = none ∧ soft.substitution.soft.get .g0 ≠ none)
    ∧ (used.takesFrom 7#6 ∧ used.substitution.soft.get .g0 = none ∧ used.substitution.cell.get .g0 ≠ .unused)
    ∧ (unfit.takesFrom 7#6 ∧ ((unfit.moisture.channels.get .g0).get .s).health = .failed)
    ∧ (held.takesFrom 7#6 ∧ held.fire.state ≠ .quiet ∧ held.substitution.cell.get .g0 = .unused)
    ∧ free.takesFrom 7#6 ∧ free.fire.state = .quiet ∧ free.substitution.cell.get .g0 = .unused := by decide

theorem witness_SpareCellsAreWrittenOnce :
    let s := clocked burningSpare 2000
    (s.ready ∧ s.substitution.burn = some ⟨.g0, .b, 0⟩ ∧ 0 + 2000 ≤ s.clock.localTime)
    ∧ burningSpare.toPart.SpareSound ∧ burningSpare.toPart.RestartSound ∧ ∃ t, exec .burnCompletion s = .next t :=
  ⟨by decide, ⟨by intro g; cases g <;> decide, by intro g; cases g <;> decide⟩, by decide, _, rfl⟩

/-! ## Witnesses: climate, loops, inputs -/

theorem witness_DemandGrantAndOpening :
    let cfg := Settings.default
    650 ≤ cfg.setpoint + cfg.deadband ∧ cfg.setpoint + cfg.deadband < 651
    ∧ 100 + 100 ≤ 200 ∧ 200 < 100 + 101 ∧ 255 ≤ 255 := by decide

/-- Each row of Table 3-3 in turn: a sealed zone, a purge request, a grant, PARK enabled, none of these. -/
theorem witness_DemandGrantAndOpening_rows :
    let driving : Part := { zone.toPart with climate := { zone.climate with demand := 40 } }
    (burning zone .hold).fire.state ≠ .quiet ∧ (burning zone .hold).fire.state ≠ .alert
    ∧ { zone.hatch with purgeRequest := true }.purgeRequest = true
    ∧ 0 < grantLaw driving.climate.plantFault driving.climate.demand 0 driving.settings.plantShare
    ∧ grantLaw false 0 0 200 = 0 ∧ { Settings.default with parkEnable := true }.parkEnable = true
    ∧ zone.startUp.settings.parkEnable = false ∧ zone.toPart.shutCondition = false := by decide

/-- The damper's supervision: a command that closes the damper with IN5 closed or not, and one that opens it. -/
theorem witness_DemandGrantAndOpening_damper :
    let at_ (x : Part) (n : Nat) : Part := { x with climate := { x.climate with damper := n } }
    let seen := (accepting zone .in5 true).toPart
    let driving : Part := { zone.toPart with climate := { zone.climate with demand := 40 } }
    ((at_ seen 40).inputs.in5.accepted = some true ∧ (at_ seen 40).resolveAirPath.climate.damper = 0)
    ∧ (zone.inputs.in5.accepted ≠ some true ∧ (at_ zone.toPart 40).resolveAirPath.climate.damper = 0)
    ∧ (driving.climate.damper = 0 ∧ driving.resolveAirPath.climate.damper ≠ 0)
    ∧ (at_ driving 99).climate.damper ≠ (at_ driving 99).resolveAirPath.climate.damper := by decide

/-- The zone in HOLD with its duct shut. -/
def shutZone : State :=
  { burning zone .hold with climate := { zone.climate with airPath := .shut } }

/-- A part that meets the SHUT law where the SHUT condition holds. -/
theorem witness_ShutLawIsKept :
    shutZone.toPart.shutCondition = true ∧ shutZone.toPart.ShutSafe ∧ ∃ t, step shutZone = .next t :=
  ⟨by decide, ⟨fun _ => ⟨fun _ h => (by cases h), by decide, by decide⟩, fun _ => ⟨fun _ => by decide,
    fun _ h => (by cases h), fun h => (by cases h), fun h => (by cases h)⟩⟩, _, rfl⟩

theorem witness_LoopReadingsAreDebounced :
    let c : LoopId := .a
    let one := looping zone .a .normal .multi 1
    let two := looping zone .a .normal .multi 2
    let fault := looping zone .a .normal .openLoop 2
    1023 ≤ 1023 ∧ zone.ready ∧ (zone.loops.get c).nextConversion ≤ zone.clock.localTime
    ∧ classify 7 700 = (zone.loops.get c).accepted
    ∧ (classify 7 100 ≠ (zone.loops.get c).accepted ∧ (zone.loops.get c).candidate ≠ some (classify 7 100))
    ∧ (one.ready ∧ (one.loops.get c).candidate = some (classify 7 48) ∧ (one.loops.get c).count < 2)
    ∧ (two.ready ∧ (two.loops.get c).candidate = some (classify 7 143) ∧ 2 ≤ (two.loops.get c).count)
    ∧ fault.ready ∧ (fault.loops.get c).candidate = some (classify 7 816) ∧ (classify 7 816).alarm = false
    ∧ (burning two .hold).fire.state.sealed = true := by decide

theorem witness_AlarmsMoveTheFireState :
    let one := looping zone .a .normal (.det 1) 2
    let two := looping zone .a .normal .multi 2
    let other := looping (looping zone .b (.det 3) .normal 0) .a .normal (.det 1) 2
    let within := burning (looping zone .a (.det 2) (.det 1) 2) .alert
    let cls := classify 7 550
    one.ready ∧ cls = .det 1 ∧ cls ≠ (one.loops.get .a).accepted ∧ (one.loops.get .a).candidate = some cls
    ∧ 2 ≤ (one.loops.get .a).count ∧ cls.alarm = true ∧ 0 < one.startUp.settings.staffedDelay
    ∧ (one.fire.state = .quiet ∧ (one.loops.get .a).accepted.alarm = false
      ∧ (one.loops.get (otherLoop .a)).accepted.alarm = false ∧ one.toPart.neighbourShowsFire = false)
    ∧ (two.fire.state = .quiet ∧ classify 7 100 = .multi ∧ (two.loops.get .a).candidate = some .multi)
    ∧ (other.loops.get (otherLoop .a)).accepted.alarm = true
    ∧ (burning two .alert).fire.state = .alert
    ∧ within.fire.state = .alert ∧ (within.loops.get .a).accepted.alarm = true
      ∧ (within.loops.get .a).candidate = some cls := by decide

/-- The zone with all three delays at 0. -/
def hasty (s : State) : State :=
  { s with startUp := { s.startUp with
      settings := { s.startUp.settings with staffedDelay := 0, unstaffedDelay := 0, manualDelay := 0 } } }

theorem witness_AlarmsMoveTheFireState_zero :
    let two := hasty (looping zone .a .normal .multi 2)
    two.ready ∧ (two.loops.get .a).candidate = some (classify 7 100) ∧ two.startUp.settings.staffedDelay = 0
    ∧ decide ((two.inputs.get .in3).accepted = some true) = false := by decide

theorem witness_InputLevelsWaitForTheirHold :
    let i : InputId := .in0
    let back := accepting zone i true
    let same := holding zone i none false
    let same := { same with inputs := same.inputs.set i { same.inputs.get i with pendingLevel := some true } }
    State.reset.toPart.running = false
    ∧ (same.ready ∧ (same.inputs.get i).electrical ≠ true ∧ (same.inputs.get i).pendingLevel = some true)
    ∧ (back.ready ∧ (back.inputs.get i).electrical ≠ true ∧ (back.inputs.get i).pendingLevel ≠ some true
      ∧ (back.inputs.get i).accepted = some (true != back.startUp.settings.polarity.getLsbD (inputNumber i)))
    ∧ zone.ready ∧ (zone.inputs.get i).electrical ≠ true ∧ (zone.inputs.get i).pendingLevel ≠ some true
    ∧ (zone.inputs.get i).accepted ≠ some (true != zone.startUp.settings.polarity.getLsbD (inputNumber i)) := by
  decide

theorem witness_HeldInputsAreAccepted :
    let s (i : InputId) (high : Bool) := clocked (holding zone i (some (!high)) high) 100
    ((s .in7 true).ready ∧ ((s .in7 true).inputs.get .in7).pendingLevel = some true
      ∧ ((s .in7 true).inputs.get .in7).holdExpiry = some 100 ∧ 100 ≤ (s .in7 true).clock.localTime)
    ∧ (zone.startUp.settings.polarity.getLsbD 7 = false ∧ zone.startUp.settings.edges.toNat / 4 ^ 7 % 4 = 2)
    ∧ ((s .in6 true).inputs.get .in6).accepted = some false
    ∧ ((s .in5 true).climate.damper = 0 ∧ ((s .in5 true).inputs.get .in5).accepted ≠ some true)
    ∧ ((s .in5 false).ready ∧ ((s .in5 false).inputs.get .in5).accepted ≠ some false)
    ∧ ({ s .in5 true with climate := { zone.climate with damper := 30, damperFault := true } }.ready) := by decide

theorem witness_AckEventsClears :
    zone.takesFrom 7#6 ∧ (Role.service = .console ∨ Role.service = .service)
    ∧ Role.zone ≠ .console ∧ Role.zone ≠ .service := by decide

/-! ## Witnesses: fire and clock -/

/-- The zone in PRE_DISCHARGE with a countdown. -/
def counting (n : Nat) (paused : Bool) : State :=
  { zone with fire := { zone.fire with state := .preDischarge, countdown := some n, paused := paused } }

/-- A level held for 100 ms at an input of a state. -/
def held (s : State) (i : InputId) (high : Bool) : State := clocked (holding s i none high) 100

/-- The zone in DISCHARGED before its pulse end. -/
def pulsing : State := { zone with fire := { zone.fire with state := .discharged, pulseEnd := some 500 } }

theorem witness_FireInputsAct :
    newLevel (held zone .in2 false) .in2 false
    ∧ (newLevel (held zone .in2 true) .in2 true ∧ (held zone .in2 true).fire.state = .quiet
      ∧ 0 < (held zone .in2 true).startUp.settings.manualDelay)
    ∧ (newLevel (held (burning zone .alert) .in2 true) .in2 true
      ∧ (held (burning zone .alert) .in2 true).fire.state = .alert)
    ∧ (newLevel (held (counting 20 false) .in2 true) .in2 true ∧ 0 < min 20 zone.startUp.settings.manualDelay)
    ∧ newLevel (held (burning zone .spent) .in2 true) .in2 true := by decide

theorem witness_FireInputsAct_zero :
    newLevel (held (hasty zone) .in2 true) .in2 true ∧ (hasty zone).startUp.settings.manualDelay = 0
    ∧ (newLevel (held (hasty (counting 20 false)) .in2 true) .in2 true ∧ 0 < 20)
    ∧ (newLevel (held (counting 10 false) .in2 true) .in2 true ∧ 10 ≤ zone.startUp.settings.manualDelay) := by decide

theorem witness_FireInputsAct_abort :
    newLevel (held (counting 20 false) .in3 true) .in3 true
    ∧ (newLevel (held (counting 5 true) .in3 false) .in3 false ∧ (counting 5 true).fire.paused = true)
    ∧ newLevel (held (counting 20 false) .in3 false) .in3 false
    ∧ newLevel (held zone .in3 true) .in3 true := by decide

theorem witness_FireInputsAct_pressure :
    newLevel (held zone .in4 true) .in4 true ∧ newLevel (held zone .in4 false) .in4 false
    ∧ (newLevel (held pulsing .in4 false) .in4 false ∧ pulsing.fire.pulseEnd ≠ none)
    ∧ (newLevel (held (burning zone .discharged) .in4 false) .in4 false
      ∧ (burning zone .discharged).fire.pulseEnd = none)
    ∧ newLevel (held (burning zone .hold) .in4 false) .in4 false := by decide

/-- A pause that is repeated, and CYLINDER_LOW as it stands and as it changes. -/
theorem witness_FireInputsAct_announced :
    let low : State := { zone with fire := { zone.fire with cylinderLow := true } }
    (newLevel (held (counting 5 true) .in3 true) .in3 true ∧ (counting 5 true).fire.paused = true)
    ∧ (newLevel (held low .in4 true) .in4 true ∧ low.fire.cylinderLow = true)
    ∧ (newLevel (held low .in4 false) .in4 false ∧ zone.fire.cylinderLow = false) := by decide

theorem witness_ReleaseTimersAct :
    let s : State := clocked { zone with fire := { zone.fire with state := .discharged, pulseEnd := some 2000, confirmationEnd := some 10000 } } 2000
    let fallen : State := { s with fire := { s.fire with pressureFall := true } }
    let held : State := clocked { zone with fire := { zone.fire with state := .hold, holdEnd := some 600000 } } 600000
    ((counting 0 false).ready ∧ (counting 0 false).fire.state = .preDischarge
      ∧ (counting 0 false).fire.countdown = some 0 ∧ (counting 0 false).fire.paused = false)
    ∧ (s.ready ∧ s.fire.state = .discharged ∧ s.fire.pulseEnd = some 2000 ∧ 2000 ≤ s.clock.localTime
      ∧ s.fire.pressureFall = false)
    ∧ (fallen.ready ∧ fallen.fire.pulseEnd = some 2000 ∧ fallen.fire.pressureFall = true)
    ∧ ((clocked s 10000).ready ∧ (clocked s 10000).fire.confirmationEnd = some 10000
      ∧ 10000 ≤ (clocked s 10000).clock.localTime)
    ∧ held.ready ∧ held.fire.state = .hold ∧ held.fire.holdEnd = some 600000 ∧ 600000 ≤ held.clock.localTime := by
  decide

theorem witness_CancelAndResetByState :
    let empty : State := { counting 5 false with occupancy := .unstaffed }
    let alarm := burning (looping zone .b (.det 3) .normal 0) .spent
    (zone.takesFrom 7#6 ∧ zone.fire.state ≠ .preDischarge)
    ∧ (empty.takesFrom 7#6 ∧ empty.fire.state = .preDischarge ∧ empty.occupancy = .unstaffed)
    ∧ ((counting 5 false).takesFrom 7#6 ∧ (counting 5 false).occupancy = .staffed
      ∧ (counting 5 false).toPart.peerShut = false)
    ∧ Role.service ≠ .console
    ∧ (alarm.takesFrom 7#6 ∧ alarm.loops.b.accepted.alarm = true)
    ∧ (burning zone .spent).takesFrom 7#6 ∧ (burning zone .spent).fire.state = .spent
    ∧ ¬(zone.loops.a.accepted.alarm = true ∨ zone.loops.b.accepted.alarm = true) := by decide

/-- The zone in HOLD with its hold just over. -/
def holdOver : State :=
  clocked { zone with fire := { zone.fire with
    state := .hold, holdEnd := some 600000, alarm := some ⟨none, none, 0⟩ } } 600000

theorem witness_FireStatesFollowTheirDiagram :
    holdOver.toPart.StartSound ∧ (coldCut .marked).toPart.StartSound
    ∧ (holdOver.fire.alarm = none ↔ holdOver.fire.state = .quiet)
    ∧ (∃ t, exec .holdExpiry holdOver = .next t ∧ t.fire.state ≠ .quiet) ∧ ∃ t, step holdOver = .next t :=
  ⟨by decide, by decide, by decide, ⟨_, rfl, by decide⟩, _, rfl⟩

/-- A part whose solenoid is on, 1 s before the pulse end. -/
def releasing : State :=
  { clocked zone 1000 with
    fire := { zone.fire with state := .discharged, pulseEnd := some 2000 }
    outputs := { zone.outputs with out2 := ⟨.drivenOn, .drivenOn⟩ }
    pending := [.scanStart] }

theorem witness_ReleaseLawIsKept :
    releasing.outputs.out2.state = .drivenOn ∧ releasing.toPart.ReleaseSafe ∧ releasing.fire.state = .discharged
    ∧ ∃ t, step releasing = .next t ∧ t.fire.state = .discharged ∧ t.fire.pulseEnd = some 2000 :=
  ⟨rfl, fun _ => ⟨rfl, fun _ => ⟨2000, rfl, by decide, by decide⟩⟩, rfl, _, rfl, by decide, by decide⟩

theorem witness_FireChangesAreAnnounced :
    holdOver.toPart.QueueSound ∧ holdOver.toPart.BroadcastsSound ∧ holdOver.bus.queue.length ≤ 6
    ∧ ∃ t, exec .holdExpiry holdOver = .next t ∧ t.fire.state ≠ holdOver.fire.state ∧ t.bus.station ≠ none
      ∧ t.startUp.inProgress = none :=
  ⟨⟨by decide, by decide, fun k => by cases k <;> decide, by decide, by decide, by decide⟩, by decide, by decide, _, rfl,
    by decide, by decide, by decide⟩

/-- The zone purging, its air path serving the purge, at the next second. -/
def purging (run time : Nat) : State :=
  { clocked zone 1000 with
    hatch := { inbound .purging .attested with purgeTime := time, purgeRequest := true, toleranceRun := run }
    climate := { zone.climate with airPath := .purge } }

theorem witness_SecondsAdvance :
    let s (n : Nat) := clocked (counting n false) 1000
    ((clocked zone 1000).ready ∧ (clocked zone 1000).clock.nextSecond ≤ (clocked zone 1000).clock.localTime
      ∧ (clocked zone 1000).clock.second < 4294967295)
    ∧ ((s 2).ready ∧ (s 2).fire.state = .preDischarge ∧ (s 2).fire.paused = false ∧ (s 2).fire.countdown = some 2)
    ∧ ((s 1).ready ∧ (s 1).fire.countdown = some 1)
    ∧ ((purging 0 598).ready ∧ (purging 0 598).hatch.purgeTime + 1 < 600)
    ∧ (purging 0 599).ready ∧ (purging 0 599).startUp.settings.purgeMax ≤ (purging 0 599).hatch.purgeTime + 1
    ∧ (purging 0 599).climate.airPath = .purge
    ∧ ((purging 0 599).hatch.locks.outer = false ∧ (purging 0 599).fire.state.sealed = false
      ∧ (purging 0 599).hatch.startTally = .no ∧ (purging 0 599).hatch.purgeRequest = true) := by decide

theorem witness_MinuteRiseChecksTheRecords :
    let s (m : Nat) : State := { zone with clock := { zone.clock with minuteRiseDue := true, minute := m } }
    ((s 4294967294).ready ∧ (s 4294967294).clock.minuteRiseDue = true ∧ (s 4294967294).clock.minute < 4294967295)
    ∧ (s 4294967295).ready ∧ (s 4294967295).clock.minute = 4294967295 := by decide

/-! ## Witnesses: custody -/

theorem witness_CheckoutTakesLabelsInTurn :
    zone.takesFrom 7#6 ∧ zone.startUp.defaulted = false ∧ 1 ≤ [label 65].length
    ∧ [label 65, label 66, label 65, label 67].length ≤ 4
    ∧ [label 65, label 66, label 65, label 67].all validLabel = true := by decide

theorem witness_ConditionalRequestsAreTaken :
    let s (st : RecordState) := keeping zone [record 65 st none]
    let find (x : State) := x.custody.records.find? (fun r => r.label == label 65)
    (zone.takesFrom 7#6 ∧ zone.startUp.defaulted = false ∧ validLabel (label 65) = true ∧ (255#16).toNat ≤ 255
      ∧ ∀ r ∈ zone.custody.records, r.label ≠ label 65)
    ∧ ((s .ready).takesFrom 7#6 ∧ find (s .ready) = some (record 65 .ready none)
      ∧ (record 65 .ready none).revision.toNat ≠ (0#16).toNat)
    ∧ ((record 65 .ready none).revision.toNat = (1#16).toNat ∧ (record 65 .ready none).state ≠ .reserved
      ∧ (record 65 .ready none).state ≠ .onLoan ∧ (record 65 .onLoan none).state ≠ .ready)
    ∧ ((s .reserved).custody.records.map (·.label)).Nodup ∧ find (s .reserved) = some (record 65 .reserved none)
    ∧ find (s .onLoan) = some (record 65 .onLoan none) ∧ (record 65 .onLoan none).due = some 60 := by decide

theorem witness_ReadingRequestsChangeNothing :
    let s := keeping zone [record 65 .ready none]
    s.takesFrom 7#6 ∧ validLabel (label 66) = true ∧ (∀ r ∈ s.custody.records, r.label ≠ label 66)
    ∧ s.custody.records.find? (fun x => x.label == label 65) = some (record 65 .ready none)
    ∧ (95#8).toNat ≤ 95 := by decide

/-- A part with a record and an inbound handover open that holds two slots. -/
def holdingSlots : State :=
  { hatched zone { inbound .outerAccess .presented with declared := some 2 } with
    custody := ⟨[record 65 .reserved none], 2, 1, false⟩ }

theorem witness_CustodyLawIsKept : holdingSlots.toPart.CustodySound ∧ ∃ t, step holdingSlots = .next t :=
  ⟨by decide, _, rfl⟩

theorem witness_RevisionsCountTheChanges :
    holdingSlots.toPart.CustodySound
    ∧ ∃ t, exec (.cancel 7#6 .console (label 65) 1#16) holdingSlots = .next t ∧ t.custody.records = [] :=
  ⟨by decide, _, rfl, by decide⟩

/-! ## Witnesses: hatch -/

theorem witness_OpenInnerTests :
    let held := burning (hatched zone (hatchIn .staged)) .hold
    let empty : State := { zone with occupancy := .unstaffed }
    (hatched zone (hatchIn .received)).takesFrom 7#6 ∧ (hatchIn .received).state ≠ .empty
    ∧ (held.takesFrom 7#6 ∧ held.hatch.state = .staged ∧ held.hatch.handoverOpen = false
      ∧ held.fire.state ≠ .quiet ∧ held.fire.state ≠ .alert)
    ∧ (empty.takesFrom 7#6 ∧ empty.occupancy = .unstaffed)
    ∧ zone.takesFrom 7#6 ∧ zone.startUp.defaulted = false ∧ zone.hatch.state = .empty
    ∧ zone.inputs.in0.accepted ≠ some false ∧ zone.inputs.in1.accepted ≠ some false
    ∧ zone.occupancy = .staffed ∧ zone.hatch.locks.outer = false := by decide

theorem witness_PresentTests :
    let staged := keeping (hatched zone { hatchIn .staged with batch := some 1 }) [record 65 .stagedOut (some 1)]
    let count (x : State) := (x.custody.records.filter fun r => r.state = .stagedOut ∧ r.batch = some 1).length
    let full : State := { zone with custody := { zone.custody with held := 8 } }
    (staged.takesFrom 5#6 ∧ staged.hatch.handoverOpen = false ∧ (1#16) ≠ 0 ∧ 1 ≤ (1#8).toNat ∧ (8#8).toNat ≤ 8)
    ∧ zone.hatch.state ≠ .staged ∧ (burning staged .alert).fire.state ≠ .quiet
    ∧ { staged with occupancy := .unstaffed }.hatch.state = .staged
    ∧ (staged.fire.state = .quiet ∧ staged.occupancy = .staffed ∧ staged.hatch.batch = some (1#16).toNat
      ∧ count staged = (1#8).toNat ∧ count staged ≠ (8#8).toNat)
    ∧ zone.takesFrom 5#6 ∧ zone.hatch.state = .empty ∧ (burning zone .alert).fire.state ≠ .quiet
    ∧ (full.takesFrom 5#6 ∧ full.custody.held ≠ 0)
    ∧ zone.custody.held = 0 ∧ zone.custody.records.length + (8#8).toNat ≤ 96 ∧ zone.hatch.locks.inner = false := by
  decide

theorem witness_OutboundStepsAreTaken :
    let a := hatched zone (outbound .presented)
    let b := hatched zone (outbound .attested)
    (a.takesFrom 7#6 ∧ a.startUp.defaulted = false ∧ a.hatch.handoverOpen = true ∧ a.hatch.direction = some .out
      ∧ a.hatch.batch = some (1#16).toNat ∧ a.hatch.stage = .presented ∧ a.hatch.declared = some (1#8).toNat
      ∧ a.hatch.lastStep ≠ some ⟨.attest, 7#6, 1⟩)
    ∧ b.takesFrom 5#6 ∧ b.hatch.stage = .attested ∧ b.hatch.courierPost = some 5#6
    ∧ b.hatch.lastStep ≠ some ⟨.accept, 5#6, 1⟩ ∧ b.fire.state = .quiet ∧ b.hatch.locks.inner = false
    ∧ b.hatch.startTally = .no := by decide

theorem witness_InboundAttestBeginsThePurge :
    let next := hatched zone (inbound .received .tallied)
    let kept := hatched zone { inbound .received .tallied with handoverOpen := false }
    (next.takesFrom 7#6 ∧ next.hatch.handoverOpen = true ∧ next.hatch.direction = some .inward
      ∧ next.hatch.stage = .tallied ∧ next.hatch.batch = some (1#16).toNat ∧ next.hatch.declared = some (1#8).toNat
      ∧ next.hatch.lastStep ≠ some ⟨.attest, 7#6, 1⟩ ∧ next.toPart.shutCondition = false)
    ∧ (kept.takesFrom 7#6 ∧ kept.hatch.handoverOpen = false ∧ kept.hatch.state = .received
      ∧ kept.hatch.batch = some (1#16).toNat ∧ kept.fire.state.sealed = false ∧ kept.occupancy = .staffed)
    ∧ (burning kept .hold).fire.state.sealed = true ∧ { kept with occupancy := .unstaffed }.occupancy = .unstaffed
    ∧ kept.hatch.batch ≠ some (2#16).toNat := by decide

theorem witness_RequestsWithoutAHandover :
    let s := hatched zone { inbound .retrieve .none with handoverOpen := false }
    s.takesFrom 5#6 ∧ s.startUp.defaulted = false ∧ s.hatch.handoverOpen = false ∧ (1#16) ≠ 0
    ∧ s.hatch.state ≠ .received ∧ zone.hatch.state ≠ .retrieve
    ∧ (s.hatch.state = .retrieve ∧ s.hatch.batch = some (1#16).toNat ∧ s.hatch.courierPost = some 5#6
      ∧ s.hatch.locks.outer = false ∧ s.inputs.in1.accepted ≠ some false)
    ∧ (burning s .hold).fire.state.sealed = true
    ∧ s.fire.state.sealed = false ∧ s.hatch.locks.inner = false ∧ s.hatch.startTally = .no
    ∧ s.hatch.direction = some .inward := by decide

theorem witness_OpenHandoversAreTested :
    let s := hatched zone (outbound .presented)
    let last (k : StepKind) (st : Station) := hatched zone { outbound .attested with lastStep := some ⟨k, st, 1⟩ }
    (s.takesFrom 5#6 ∧ s.startUp.defaulted = false ∧ s.hatch.handoverOpen = true ∧ (0#8).toNat ≤ 1
      ∧ s.hatch.lastStep = some ⟨.present, 5#6, 1⟩)
    ∧ ((last .attest 7#6).takesFrom 7#6 ∧ (last .attest 7#6).hatch.lastStep = some ⟨.attest, 7#6, 1⟩)
    ∧ ((last .accept 5#6).takesFrom 5#6 ∧ (last .accept 5#6).hatch.lastStep = some ⟨.accept, 5#6, 1⟩)
    ∧ (s.hatch.lastStep ≠ some ⟨.withdraw, 5#6, 1⟩ ∧ s.hatch.batch = some (1#16).toNat
      ∧ 5#6 ∈ s.hatch.courierPost.toList ++ s.hatch.console.toList ∧ s.hatch.purgeRequest = false)
    ∧ (s.hatch.batch ≠ some (2#16).toNat ∧ 8#6 ∉ s.hatch.courierPost.toList ++ s.hatch.console.toList)
    ∧ s.hatch.lastStep ≠ some ⟨.present, 8#6, 1⟩ := by decide

theorem witness_OpenHandoversAreTested_steps :
    let s := hatched zone (outbound .presented)
    s.hatch.lastStep ≠ some ⟨.attest, 7#6, 1⟩ ∧ s.hatch.batch ≠ some (2#16).toNat
    ∧ s.hatch.declared ≠ some (2#8).toNat ∧ (s.takesFrom 7#6 ∧ s.takesFrom 8#6)
    ∧ (hatched zone (outbound .attested)).hatch.stage ≠ .presented
    ∧ s.hatch.lastStep ≠ some ⟨.accept, 8#6, 1⟩ ∧ s.hatch.courierPost ≠ some 8#6 ∧ s.hatch.stage ≠ .attested := by
  decide

theorem witness_LeavesAct :
    let s (x : State) (high : Bool) := clocked (holding x .in0 none high) 100
    let both := accepting zone .in1 true
    let unlocked := hatched zone { hatchIn .innerAccess with locks := ⟨true, false⟩ }
    (newLevel (s zone true) .in0 true ∧ ((s zone true).inputs.get .in1).accepted ≠ some true)
    ∧ (newLevel (s both true) .in0 true ∧ ((s both true).inputs.get .in1).accepted = some true)
    ∧ (newLevel (s unlocked false) .in0 false ∧ unlocked.hatch.locks.get .inner = true ∧ unlocked.hatch.tallyEnd = none) := by
  decide

theorem witness_LeavesAct_forced :
    let s (x : State) (high : Bool) := clocked (holding x .in0 none high) 100
    (newLevel (s zone false) .in0 false ∧ zone.hatch.locks.get .inner = false ∧ zone.hatch.handoverOpen = false)
    ∧ newLevel (s (hatched zone (outbound .presented)) false) .in0 false ∧ (outbound .presented).locks.get .inner = false
    ∧ (outbound .presented).handoverOpen = true := by decide

/-- An opening under its lock during a tally, and a forced inner leaf whose abandonment clears the context. -/
theorem witness_LeavesAct_corners :
    let s (x : State) := clocked (holding x .in0 none false) 100
    let tallying := hatched zone { hatchIn .tallying with locks := ⟨true, false⟩, tallyEnd := some 2000 }
    let h := inbound .outerAccess .presented
    (newLevel (s tallying) .in0 false ∧ tallying.hatch.locks.get .inner = true ∧ tallying.hatch.tallyEnd ≠ none)
    ∧ newLevel (s (hatched zone h)) .in0 false ∧ h.locks.get .inner = false ∧ h.handoverOpen = true
    ∧ h.state = .outerAccess ∧ (s (hatched zone h)).inputs.in1.accepted ≠ some false ∧ h.direction = some .inward
    ∧ h.stage = .presented ∧ (outbound .presented).batch ≠ none ∧ (inbound .received .tallied).holdsInbound = true := by
  decide

/-- A hatch with an unlocked leaf whose window ends at 30 s. -/
def windowed (h : HatchContext) (l : Leaf) : State :=
  clocked (hatched zone { h with locks := h.locks.set l true, windows := h.windows.set l (some 30000) }) 30000

theorem witness_HatchTimersRunOut :
    let a := windowed { hatchIn .innerAccess with returnState := some .staged } .inner
    let b := windowed (hatchIn .retrieve) .outer
    let c := windowed (inbound .outerAccess .presented) .outer
    let d := clocked (hatched zone { outbound .presented with stepTimeout := some 120000 }) 120000
    (a.ready ∧ a.hatch.windows.get .inner = some 30000 ∧ 30000 ≤ a.clock.localTime ∧ a.hatch.state = .innerAccess
      ∧ a.hatch.returnState = some .staged)
    ∧ (windowed (hatchIn .innerRelease) .inner).ready ∧ (hatchIn .innerRelease).state ≠ .innerAccess
    ∧ (b.ready ∧ b.hatch.windows.get .outer = some 30000 ∧ b.hatch.state ≠ .outerAccess)
    ∧ (c.ready ∧ c.hatch.state = .outerAccess ∧ c.hatch.handoverOpen = true ∧ c.hatch.purgeRequest = false)
    ∧ d.ready ∧ d.hatch.stepTimeout = some 120000 ∧ 120000 ≤ d.clock.localTime ∧ d.hatch.handoverOpen = true := by
  decide

/-- Manual release taken while an outer leaf is unlocked under a handover. -/
def fireAtHandover : State :=
  clocked (holding (hatched zone { outbound .accepted with state := .outerAccess, locks := ⟨false, true⟩ })
    .in2 none true) 100

theorem witness_LockLawIsKept :
    fireAtHandover.toPart.LocksSafe ∧ (∃ t, step fireAtHandover = .next t) ∧ fireAtHandover.fire.state.sealed = false
    ∧ ∃ t, exec (.inputHoldExpiry .in2) fireAtHandover = .next t ∧ t.fire.state.sealed = true :=
  ⟨by decide, ⟨_, rfl⟩, by decide, _, rfl, by decide⟩

/-- Manual release taken with a hatch, the switches of both leaves accepted at a level. -/
def fireAt (h : HatchContext) (closed : Bool) : State :=
  clocked (holding (accepting (accepting (hatched zone h) .in0 closed) .in1 closed) .in2 none true) 100

/-- R126 for each of the states it names, and for one it does not. -/
theorem witness_LockLawIsKept_states :
    let access := { hatchIn .outerAccess with handoverOpen := false }
    let sealed (x : HatchContext × Bool) : Bool :=
      decide (fireAt x.1 x.2).ready && !(fireAt x.1 x.2).fire.state.sealed
        && (after (.inputHoldExpiry .in2) (fireAt x.1 x.2)).fire.state.sealed
    (fireAt (outbound .accepted) true).bus.queue.length ≤ 4
    ∧ (outbound .accepted).direction = some .out ∧ (outbound .accepted).batch = some 1
    ∧ (hatchIn .staged).handoverOpen = false
    ∧ [(outbound .accepted, true), (hatchIn .staged, true),
        ({ hatchIn .innerAccess with returnState := some .staged }, true), (hatchIn .innerAccess, false),
        (access, false), ({ access with direction := some .out }, true),
        ({ access with direction := some .inward }, true),
        ({ access with direction := none, tallyList := some .overfull }, true)].all sealed = true := by decide

/-- The zone with a tally that has run. -/
def tallied (h : HatchContext) (l : Leaf) (rs : List CustodyRecord) : State :=
  keeping (clocked (hatched zone (tallying h l)) 2000) rs

theorem witness_TallyOutcomesAndHeldTallies :
    let keepBatch := tallied (inbound .received .tallied) .outer []
    let back := tallied { inbound .retrieve .none with handoverOpen := false } .outer []
    let after : HatchContext := { tallying (inbound .retrieve .none) .outer with startTally := .retained, backupState := .retrieve }
    (keepBatch.ready ∧ keepBatch.hatch.tallyEnd = some 2000 ∧ 2000 ≤ keepBatch.clock.localTime
      ∧ keepBatch.hatch.outcome = .heldBatch ∧ [label 65].Nodup ∧ [label 65].length ≤ 8)
    ∧ (back.ready ∧ back.hatch.outcome = .retrieve ∧ back.hatch.startTally = .no ∧ back.fire.state.sealed = false
      ∧ back.hatch.locks.inner = false ∧ back.hatch.batch = some 1 ∧ back.hatch.direction = some .inward)
    ∧ after.outcome = .retrieve ∧ after.startTally ≠ .no
    ∧ reportAsRead .overfull = true ∧ reportAsRead (.labels [label 65]) = true
    ∧ (burning back .hold).ready ∧ (burning back .hold).fire.state.sealed = true
    ∧ (burning back .hold).hatch.outcome = .retrieve := by decide

theorem witness_StagingTally :
    let fresh := tallied (hatchIn .innerAccess) .inner [record 65 .reserved none]
    let mixed := tallied { hatchIn .innerAccess with batch := some 1 } .inner
      [record 65 .stagedOut (some 1), record 66 .onLoan none]
    (fresh.ready ∧ fresh.hatch.tallyEnd = some 2000 ∧ 2000 ≤ fresh.clock.localTime ∧ fresh.hatch.outcome = .staging
      ∧ fresh.hatch.batch = none)
    ∧ ([label 65] ≠ [] ∧ [label 65].Nodup ∧ [label 65].length ≤ 8)
    ∧ mixed.ready ∧ mixed.hatch.outcome = .staging
    ∧ (mixed.custody.records.find? fun r => r.label == label 66).any
        (fun r => decide (r.state = .reserved ∨ r.state = .stagedOut)) = false
    ∧ ∃ r ∈ mixed.custody.records, r.state = .stagedOut ∧ r.batch = mixed.hatch.batch ∧ r.label ∈ [label 65, label 66] :=
  by decide

theorem witness_DepartureTally :
    let s := tallied (outbound .accepted) .outer [record 65 .stagedOut (some 1), record 66 .stagedOut (some 1)]
    s.ready ∧ s.hatch.tallyEnd = some 2000 ∧ 2000 ≤ s.clock.localTime ∧ s.hatch.outcome = .departure
    ∧ (s.hatch.handoverOpen = true ∧ s.hatch.stage = .accepted)
    ∧ (∃ r ∈ s.custody.records, r.state = .stagedOut ∧ r.batch = s.hatch.batch ∧ r.label ∈ [label 66])
    ∧ (∀ r ∈ s.custody.records, r.label ∉ ([] : List Label))
    ∧ (tallied (outbound .presented) .outer []).hatch.outcome = .departure ∧ (outbound .presented).stage ≠ .accepted := by
  decide

theorem witness_ComparisonTally :
    let s := tallied (inbound .outerAccess .presented) .outer [record 65 .onLoan none]
    s.ready ∧ s.hatch.tallyEnd = some 2000 ∧ 2000 ≤ s.clock.localTime ∧ s.hatch.outcome = .comparison
    ∧ s.hatch.startTally = .no ∧ s.hatch.state = .tallying ∧ s.hatch.handoverOpen = true
    ∧ s.hatch.stage = .presented ∧ s.hatch.direction = some .inward ∧ s.hatch.batch = some 1
    ∧ s.hatch.declared = some [label 65].length ∧ s.hatch.declared ≠ some [label 65, label 66].length
    ∧ (s.custody.records.find? fun r => r.label == label 65) = some (record 65 .onLoan none)
    ∧ s.fire.state.sealed = false := by decide

theorem witness_ReleaseTally :
    let s := tallied (inbound .innerRelease .attested) .inner [record 65 .stagedIn (some 1), record 66 .stagedIn (some 1)]
    let rested := tallied { inbound .innerRelease .tallied with handoverOpen := false } .inner [record 65 .stagedIn (some 1)]
    s.ready ∧ s.hatch.tallyEnd = some 2000 ∧ 2000 ≤ s.clock.localTime ∧ s.hatch.outcome = .release
    ∧ s.hatch.startTally = .no ∧ s.hatch.batch = some 1 ∧ s.hatch.direction = some .inward
    ∧ (∃ r ∈ s.custody.records, r.state = .stagedIn ∧ r.batch = some 1 ∧ r.label ∈ [label 66])
    ∧ s.hatch.handoverOpen = true ∧ s.fire.state.sealed = false ∧ s.hatch.locks.outer = false
    ∧ (rested.ready ∧ rested.hatch.outcome = .release ∧ rested.hatch.handoverOpen = false) := by decide

/-- The start tally of R141 in INNER_RELEASE: a batch label left gives RECEIVED, none EMPTY, and no leaf is unlocked. -/
theorem test_release_at_a_start_tally :
    let h := { tallying (inbound .innerRelease .tallied) .inner with
      handoverOpen := false, startTally := .retained, backupState := .innerRelease }
    let s : State := keeping (clocked (hatched zone h) 2000) [record 65 .stagedIn (some 1)]
    let t (ls : List Label) := after (.tallyEnd (.labels ls)) s
    s.ready ∧ s.hatch.outcome = .release ∧ s.hatch.startTally ≠ .no
    ∧ (t [label 65]).hatch.state = .received ∧ (t [label 65]).hatch.locks = ⟨false, false⟩
    ∧ (t []).hatch.state = .empty ∧ (t []).hatch.startTally = .no := by decide

/-- The staged and the received batches of the four tallies with no record left in them, and with one. -/
theorem witness_tallies_with_nothing_left :
    let left (h : HatchContext) (l : Leaf) (st : RecordState) := tallied h l [record 65 st (some 1)]
    let none (h : HatchContext) (l : Leaf) := tallied h l [record 65 .onLoan none]
    let gone (s : State) : Prop := ∀ r ∈ s.custody.records, r.batch ≠ s.hatch.batch
    ((none { hatchIn .innerAccess with batch := some 1 } .inner).hatch.outcome = .staging
      ∧ gone (none { hatchIn .innerAccess with batch := some 1 } .inner))
    ∧ ((none (outbound .accepted) .outer).hatch.outcome = .departure ∧ gone (none (outbound .accepted) .outer))
    ∧ ((none (inbound .innerRelease .attested) .inner).hatch.outcome = .release
      ∧ gone (none (inbound .innerRelease .attested) .inner))
    ∧ (left (outbound .accepted) .outer .stagedOut).hatch.batch = some 1
    ∧ (left (inbound .innerRelease .attested) .inner .stagedIn).ready := by decide

theorem witness_PurgeCompletionReleases :
    ((purging 3 10).ready ∧ (purging 3 10).hatch.state = .purging ∧ 3 ≤ (purging 3 10).hatch.toleranceRun)
    ∧ (purging 2 600).ready ∧ (purging 2 600).startUp.settings.purgeMax ≤ (purging 2 600).hatch.purgeTime
    ∧ (purging 2 600).hatch.toleranceRun < 3 ∧ (purging 2 600).hatch.purgeRequest = true
    ∧ (purging 2 600).fire.state.sealed = false ∧ (purging 2 600).hatch.locks.outer = false
    ∧ (purging 2 600).hatch.startTally = .no ∧ (purging 2 600).hatch.batch = some 1
    ∧ { (purging 2 600).hatch with purgeRequest := false }.purgeRequest = false
    ∧ (purging 2 600).hatch.direction = some .inward := by decide

theorem witness_DwellLiesBetweenBaseAndCap :
    Settings.default.dwellBase ≤ Settings.default.dwellCap
    ∧ { Settings.default with dwellBase := 60, dwellCap := 60 }.dwellBase ≤ 60 ∧ 0 ≤ 8306 ∧ 0 ≤ 65535 := by decide

/-! ## Witnesses: bus, occupancy, starts -/

/-- A reply of a class. -/
def replyIn (cls : FrameClass) : TxFrame := newFrame cls 7#6 (.reply ⟨1#8, .done, .nothing⟩)

/-- A CLIMATE frame. -/
def climateFrame : TxFrame := newFrame .routine 63#6 (.climate ⟨0, 0, .closed⟩)

theorem witness_FramesEnterTheQueue :
    let full (f : TxFrame) := List.replicate 8 f
    ([climateFrame] : List TxFrame).Pairwise (fun x y => classCode x.cls ≤ classCode y.cls)
    ∧ climateFrame.body.coalescedKind = some .climate ∧ climateFrame.pendingOf .climate = true
    ∧ (replyIn .fire).body.coalescedKind = none
    ∧ (full climateFrame).length = 8
    ∧ (full (replyIn .routine)).Pairwise (fun x y => classCode x.cls ≤ classCode y.cls)
    ∧ (8 ≤ (full (replyIn .routine)).length ∧ (replyIn .fire).cls = .fire
      ∧ (replyIn .routine).onLine = false ∧ (replyIn .routine).cls = .routine)
    ∧ (∀ y ∈ full (replyIn .fire), ¬(y.onLine = false ∧ y.cls = .routine))
    ∧ (newFrame .fire 63#6 (.fireState zone.toPart.fireContent)).pendingOf .fireState = true
    ∧ (∀ y ∈ full (replyIn .fire), ¬ y.pendingOf .fireState = true) ∧ (replyIn .custody).cls ≠ .fire := by decide

/-- The zone with a queue. -/
def queued (q : List TxFrame) : State := { zone with bus := { zone.bus with queue := q } }

theorem witness_TheLineTakesTheHead :
    let sent : TxFrame := { climateFrame with onLine := true }
    ((queued [climateFrame]).ready ∧ (queued [climateFrame]).bus.queue = climateFrame :: []
      ∧ (queued [climateFrame]).bus.station ≠ none ∧ ∀ x ∈ (queued [climateFrame]).bus.queue, x.onLine = false)
    ∧ zone.bus.queue = []
    ∧ ((queued [sent]).ready ∧ (queued [sent]).bus.queue = [] ++ sent :: [] ∧ sent.onLine = true)
    ∧ (queued [sent]).startUp.restartDeadline = none ∧ (queued [sent]).bus.station = some 3#6 ∧ 9 ≤ 9
    ∧ (false :: (bitsOfNumber 2 (classCode sent.cls) ++ bitsOfNumber 6 (3#6).toNat)).getD 8 false = true
    ∧ (false :: (bitsOfNumber 2 (classCode sent.cls) ++ bitsOfNumber 6 (3#6).toNat)).getD 0 false ≠ true
    ∧ climateFrame.pendingOf .climate = true := by decide

/-- A CLIMATE frame of zone 12. -/
def heardClimate : RxFrame :=
  let f : RxFrame := ⟨.routine, 12#6, 63#6, .zone, 2#8, 3#6, [0#8, 255#8, 4#8], none⟩
  { f with crc := some (computedCrc f) }

/-- A frame of no kind to station 3. -/
def oddFrame : RxFrame :=
  let f : RxFrame := ⟨.routine, 12#6, 3#6, .console, 77#8, 0#6, [], none⟩
  { f with crc := some (computedCrc f) }

/-- The zone with an entry of station 12. -/
def knowing (fire : Option FireState) (heard : Time) : State :=
  { zone with peers := { zone.peers with entries := [⟨12#6, .zone, some 0, fire, none, heard, false⟩] } }

theorem witness_FramesReachThePeerView :
    let c : RxFrame := heardClimate
    zone.ready ∧ { c with crc := none }.crc ≠ some (computedCrc { c with crc := none }) ∧ 40 < (41#6).toNat
    ∧ frameValid c zone.bus.station = true ∧ (zone.peers.entries.map (·.station)).Nodup
    ∧ kindMeaning c.cls c.kind = .climate
    ∧ zone.peers.entries.find? (fun e => e.station == c.source) = none ∧ zone.peers.entries.length < 31
    ∧ (knowing none 0).peers.entries.find? (fun e => e.station == c.source) ≠ none
    ∧ 31 ≤ (List.replicate 31 c).length
    ∧ frameValid oddFrame zone.bus.station = true ∧ kindMeaning oddFrame.cls oddFrame.kind = .unknown
    ∧ zone.bus.station = some oddFrame.dest ∧ oddFrame.role ≠ .zone := by decide +kernel

/-- A FIRE_STATE frame of zone 12 in HOLD. -/
def heardHold : RxFrame :=
  let f : RxFrame := ⟨.fire, 12#6, 63#6, .zone, 1#8, 10#6, 4#8 :: List.replicate 9 0#8, none⟩
  { f with crc := some (computedCrc f) }

/-- The zone in ALERT with neighbour 12, of which it knows a fire state. -/
def alerted (fire : Option FireState) : State :=
  let s := burning (knowing fire 0) .alert
  { s with startUp := { s.startUp with settings := { s.startUp.settings with neighbours := [12#6] } } }

theorem witness_FramesReachThePeerView_fire :
    (alerted none).ready ∧ frameValid heardHold (alerted none).bus.station = true
    ∧ kindMeaning heardHold.cls heardHold.kind = .fireState ∧ (contentOf heardHold).fireState = some .hold
    ∧ (alerted none).fire.state = .alert ∧ heardHold.source ∈ (alerted none).startUp.settings.neighbours
    ∧ (hasty (alerted none)).startUp.settings.staffedDelay = 0
    ∧ (alerted none).startUp.settings.ductGroup = 0
    ∧ (alerted (some .hold)).peers.entries.find? (fun e => e.station == 12#6)
        = some ⟨12#6, .zone, some 0, some .hold, none, 0, false⟩ := by decide +kernel

theorem witness_BroadcastsParseBack :
    validStation 3#6 = true ∧ (none : Option Station) ≠ some 3#6 ∧ (some 62#6 : Option Station) ≠ some 3#6
    ∧ 15 ≤ 15 ∧ 255 ≤ 255 ∧ 4294967295 ≤ 4294967295 := by decide

theorem witness_QueueAndPeersStaySound :
    (queued [replyIn .fire, climateFrame]).toPart.QueueSound
    ∧ (queued [replyIn .fire, climateFrame]).toPart.BroadcastsSound
    ∧ (∃ t, step (queued [replyIn .fire, climateFrame]) = .next t)
    ∧ (knowing (some .hold) 0).toPart.PeersSound ∧ ∃ t, step (knowing (some .hold) 0) = .next t := by
  refine ⟨⟨by decide, by decide, fun k => by cases k <;> decide, by decide, by decide, by decide⟩, by decide, ⟨_, rfl⟩, ?_, _,
    rfl⟩
  exact ⟨by decide, by decide, fun e he => by
    simp only [knowing, List.mem_singleton] at he
    subst he; exact ⟨fun h => absurd rfl h, fun h => by cases h⟩⟩

theorem witness_RunTimersAct :
    let stale := clocked zone 600000
    let confirming : State := { clocked zone 20000 with climate := { zone.climate with confirmation := some 20000 } }
    let watching : State := { clocked zone 95000 with peers := { zone.peers with watches := [⟨12#6, 0, false⟩] } }
    let flashing : State :=
      { clocked zone 500 with outputs := { zone.outputs with out3 := ⟨.pattern .preDischarge, .pattern .preDischarge true 500⟩ } }
    let old (f : Option FireState) := clocked (knowing f 0) 95000
    (stale.ready ∧ (stale.moisture.groups.get .g0).freshness = .stale
      ∧ (stale.moisture.groups.get .g0).staleSince = some 0 ∧ 0 + 600000 ≤ stale.clock.localTime)
    ∧ (confirming.ready ∧ confirming.climate.confirmation = some 20000 ∧ 20000 ≤ confirming.clock.localTime)
    ∧ (watching.ready ∧ ⟨12#6, 0, false⟩ ∈ watching.peers.watches ∧ 0 + 95000 ≤ watching.clock.localTime
      ∧ (watching.peers.watches.map (·.station)).Nodup)
    ∧ (flashing.ready ∧ (flashing.outputs.get (signalOutput .sounder)).state = .pattern .preDischarge true 500
      ∧ 500 ≤ flashing.clock.localTime)
    ∧ ((old (some .hold)).ready ∧ ⟨12#6, .zone, some 0, some .hold, none, 0, false⟩ ∈ (old (some .hold)).peers.entries
      ∧ ((old (some .hold)).peers.entries.map (·.station)).Nodup ∧ 0 + 95000 ≤ (old (some .hold)).clock.localTime)
    ∧ FireState.hold.gasReleased = true ∧ (old (some .alert)).ready ∧ FireState.alert.gasReleased = false := by decide

theorem witness_SetOccupancyTests :
    let busy := hatched zone (hatchIn .tallying)
    zone.takesFrom 7#6 ∧ Role.service ≠ .console ∧ 2 ≤ (2#8).toNat ∧ (1#8).toNat ≤ 1
    ∧ zone.occupancy = .staffed ∧ zone.occupancy ≠ .unstaffed
    ∧ (busy.takesFrom 7#6 ∧ busy.occupancy ≠ .unstaffed ∧ busy.hatch.state ≠ .empty)
    ∧ zone.hatch.state = .empty := by decide

theorem witness_ExceptionsAreKeptAndCleared :
    ExceptionStore.empty.entries.length < 4 ∧ 4 ≤ (List.replicate 4 (0 : Nat)).length
    ∧ zone.takesFrom 7#6 ∧ Role.zone ≠ .console ∧ Role.zone ≠ .service := by decide

/-- The zone under its reset pin. -/
def pinned : State := { zone with startUp := { zone.startUp with resetAsserted := true } }

/-- The zone with a restart pending since 0, its reply still queued. -/
def restarting : State :=
  { queued [{ replyFrame 7#6 .restart .done .nothing with restartReply := true }] with
    startUp := { zone.startUp with restartDeadline := some 1000 } }

/-- A restart that is pending leaves the part ready while its reply is in the queue. -/
theorem witness_ready_with_a_restart_pending :
    restarting.ready ∧ restarting.takesFrom 7#6 ∧ restarting.startUp.restartDeadline ≠ none
    ∧ restarting.toPart.RestartSound := by decide

/-- The laws of starts and of the pending restart, where a restart is pending and where a start is in progress. The
second is what keeps out a start beside a pending restart: stage 1 would empty the queue of its reply. -/
theorem witness_QueueAndPeersStaySound_restart :
    (restarting.startUp.restartDeadline ≠ none ∧ restarting.toPart.RestartSound
      ∧ restarting.toPart.StartClearsRestart ∧ ∃ t, step restarting = .next t)
    ∧ ((coldCut .read).startUp.inProgress ≠ none ∧ (coldCut .read).toPart.RestartSound
      ∧ (coldCut .read).toPart.StartClearsRestart ∧ ∃ t, step (coldCut .read) = .next t)
    ∧ ¬ { restarting.toPart with
        startUp := { restarting.startUp with inProgress := some .restart } }.StartClearsRestart :=
  ⟨⟨by decide, by decide, by decide, _, rfl⟩, ⟨by decide, by decide, by decide, _, rfl⟩, by decide⟩

theorem witness_SuppliesPinsAndRestart :
    let off : State := { State.reset with startUp := { State.reset.startUp with resetAsserted := true } }
    State.reset.startUp.mainOn = false ∧ (off.startUp.mainOn = false ∧ off.startUp.resetAsserted = true)
    ∧ zone.startUp.mainOn = true
    ∧ (zone.takesFrom 7#6 ∧ zone.startUp.restartDeadline = none ∧ zone.bus.queue.length < 8)
    ∧ restarting.toPart.running = true ∧ restarting.startUp.restartDeadline ≠ none
    ∧ (∃ f ∈ restarting.bus.queue, f.restartReply = true) ∧ restarting.bus.station ≠ none
    ∧ restarting.bus.station ≠ some 7#6 ∧ validStation 7#6 = true
    ∧ (coldCut .read).startUp.inProgress = some (.power ⟨true, ⟨none, 3#6⟩⟩) := by decide

/-- The DONE reply of a RESTART on the line. -/
def sentReply : TxFrame := { replyFrame 7#6 .restart .done .nothing with onLine := true, restartReply := true }

/-- The zone with a restart pending whose reply is on the line. -/
def onTheLine : State := { queued [sentReply] with startUp := restarting.startUp }

theorem witness_StartsFollowTheirTable :
    let kept : State := { State.reset with startUp := { State.reset.startUp with backupValid := true } }
    let late := clocked restarting 1000
    (State.reset.startUp.mainOn = false ∧ State.reset.startUp.resetAsserted = false
      ∧ State.reset.startUp.backupValid = false ∧ State.reset.fire.state ≠ .preDischarge)
    ∧ (kept.startUp.mainOn = false ∧ kept.startUp.backupValid = true)
    ∧ (pinned.startUp.mainOn = true ∧ pinned.startUp.resetAsserted = true ∧ pinned.startUp.heldStart = none)
    ∧ 0 < occupancyDelay (counting 5 false).startUp.settings (counting 5 false).occupancy
    ∧ ((counting 5 false).fire.state = .preDischarge
      ∧ occupancyDelay (hasty (counting 5 false)).startUp.settings .staffed = 0)
    ∧ { pinned.startUp with heldStart := some ⟨true, ⟨none, 3#6⟩⟩ }.heldStart = some ⟨true, ⟨none, 3#6⟩⟩
    ∧ ({ State.reset with pending := [.mainPowerLoss] }.pending.head?.any interruptsStart = true
      ∧ State.reset.pending.head?.any interruptsStart = false)
    ∧ (onTheLine.bus.queue = [] ++ sentReply :: [] ∧ sentReply.onLine = true
      ∧ onTheLine.startUp.restartDeadline = some 1000)
    ∧ late.toPart.running = true ∧ late.startUp.restartDeadline = some 1000 ∧ 1000 ≤ late.clock.localTime := by decide

/-- A full queue: a reply that a RESTART marked or not, and seven others. -/
def brimming (marked : Bool) : State :=
  queued ({ replyFrame 7#6 .restart .done .nothing with restartReply := marked }
    :: List.replicate 7 (replyFrame 7#6 .query .done .nothing))

/-- A DONE reply removed by contention, displaced by a FIRE frame, and dropped by a full queue. -/
theorem witness_StartsFollowTheirTable_replies :
    let held : State := clocked { burning (brimming true) .hold with
      startUp := { zone.startUp with restartDeadline := some 601000 }
      fire := { zone.fire with state := .hold, holdEnd := some 600000 } } 600000
    (onTheLine.toPart.running = true ∧ onTheLine.bus.queue = [] ++ sentReply :: [] ∧ 9 ≤ 9
      ∧ onTheLine.bus.station ≠ none)
    ∧ (held.toPart.running = true ∧ held.startUp.restartDeadline ≠ none ∧ held.bus.queue.length = 8
      ∧ held.bus.station ≠ none ∧ held.bus.queue = [] ++ { replyFrame 7#6 .restart .done .nothing with
        restartReply := true } :: List.replicate 7 (replyFrame 7#6 .query .done .nothing)
      ∧ (replyFrame 7#6 .restart .done .nothing).cls = .routine
      ∧ (∀ x ∈ held.bus.queue, x.pendingOf .fireState = false)
      ∧ held.fire.state = .hold ∧ held.fire.holdEnd = some 600000 ∧ 600000 ≤ held.clock.localTime)
    ∧ (brimming false).takesFrom 7#6 ∧ (brimming false).startUp.restartDeadline = none
    ∧ 8 ≤ (brimming false).bus.queue.length ∧ ∀ x ∈ (brimming false).bus.queue, x.restartReply = false := by decide

theorem witness_RangesAreKept :
    (∃ t, step zone = .next t) ∧ zone.toPart.DemandBounded ∧ zone.toPart.PurgeBounded ∧ zone.toPart.ExceptionsSound
    ∧ zone.toPart.ClockBounded ∧ zone.toPart.FireSound ∧ zone.toPart.MoistureBounded ∧ zone.toPart.SpareSound
    ∧ zone.toPart.SettingsInRange := by
  refine ⟨⟨_, rfl⟩, by decide, by decide, by decide, by decide, by decide, ?_, ?_, by decide⟩
  · refine ⟨fun g pl => ?_, fun g => ?_, ?_, ?_⟩
    · cases g <;> cases pl <;> refine ⟨fun x h => ?_, ?_, ?_⟩ <;> first | decide | cases h
    · cases g <;> (intro x h; cases h)
    · exact fun x h => by cases h
    · exact fun x h => by cases h
  · exact ⟨fun g => by cases g <;> decide, fun g => by cases g <;> decide⟩

end Sys2Proof.Tests
end

section
/-! PROOF. A part that is ready through an event that hands frames: the marked reply of a pending restart stays in the
queue, so no restart begins and the machine after the event is the part the event makes. -/

namespace Sys2Proof.Machine

/-! ## The marked reply through the frames of an event (R161, R162, R182) -/

/-- A marked DONE reply is in the queue, on the line or with at most `n` frames in the queue. `keepsRestartReply` is this
with 6; each frame handed raises the bound by one, and at 8 only a FIRE frame could displace the reply. -/
def BusPort.holdsReply (n : Nat) (b : BusPort) : Prop :=
  ∃ f ∈ b.queue, f.restartReply = true ∧ (f.onLine = true ∨ b.queue.length ≤ n)

theorem BusPort.holdsReply.mono {n m : Nat} {b : BusPort} (h : b.holdsReply n) (le : n ≤ m) : b.holdsReply m := by
  obtain ⟨f, mem, mark, room⟩ := h
  exact ⟨f, mem, mark, room.imp_right fun short => short.trans le⟩

theorem enterQueue_length_le_succ (f : TxFrame) (q : List TxFrame) : (enterQueue f q).length ≤ q.length + 1 := by
  unfold enterQueue
  split
  · simp
  · split
    · split
      · have := (List.eraseP_sublist (p := TxFrame.pendingRoutine) (l := q)).length_le
        simpa using this
      · split <;> simp
    · simp

theorem placeFrame_length_le_succ (f : TxFrame) (q : List TxFrame) : (placeFrame f q).length ≤ q.length + 1 := by
  unfold placeFrame
  split
  · split
    · simp
    · exact enterQueue_length_le_succ f q
  · exact enterQueue_length_le_succ f q

/-- Any frame, while the queue has room for it. -/
theorem BusPort.holdsReply.handed {n : Nat} {b : BusPort} (h : b.holdsReply n) (room : n < 8) (f : TxFrame) :
    (b.handed f).holdsReply (n + 1) := by
  unfold BusPort.handed
  split
  · exact h.mono (Nat.le_succ n)
  · obtain ⟨g, mem, mark, short⟩ := h
    obtain ⟨x, hx, hm, line⟩ :=
      placeFrame_keeps (f := f) mem mark (short.imp_right fun le => .inl (by unfold queueCapacity; omega))
    have len := placeFrame_length_le_succ f b.queue
    exact ⟨x, hx, hm, short.imp line.trans fun le => len.trans (by omega)⟩

/-- A frame that is not of class FIRE, at any time. -/
theorem BusPort.holdsReply.handed_notFire {b : BusPort} (h : b.holdsReply 8) {f : TxFrame} (cls : f.cls ≠ .fire) :
    (b.handed f).holdsReply 8 := by
  unfold BusPort.handed
  split
  · exact h
  · obtain ⟨g, mem, mark, short⟩ := h
    obtain ⟨x, hx, hm, line⟩ := placeFrame_keeps (f := f) mem mark (.inr (.inr cls))
    exact ⟨x, hx, hm, short.imp line.trans fun le => placeFrame_length_le f le⟩

theorem BusPort.holdsReply.notified {b : BusPort} (h : b.holdsReply 8) (stations : List Station) (t : NoticeType)
    (d : Direction) (n : Nat) (st : HatchState) (c : Option Cause) :
    (b.notified stations t d n st c).holdsReply 8 := by
  unfold BusPort.notified
  induction stations generalizing b with
  | nil => exact h
  | cons x xs ih => exact ih (h.handed_notFire (by simp [noticeFrame, newFrame]))

/-! ## Events at a part that is ready -/

theorem State.ready.restartReplyLeft_of_holdsReply {s : State} (h : s.ready) {q : Part} (startUp : q.startUp = s.startUp)
    (bus : s.bus.holdsReply 6 → q.bus.holdsReply 8) : q.restartReplyLeft = false := by
  obtain ⟨_, none | kept⟩ := h
  · exact Part.restartReplyLeft_of_none (startUp ▸ none)
  · obtain ⟨f, mem, mark, _⟩ := bus kept
    exact Part.restartReplyLeft_of_mark ⟨f, mem, mark⟩

/-- An event that keeps the start-up unit and a marked reply: the machine is the part it makes. -/
theorem State.ready.become_event {s : State} {f : Part → Part} (h : s.ready)
    (startUp : (f s.toPart).startUp = s.startUp) (bus : s.bus.holdsReply 6 → (f s.toPart).bus.holdsReply 8) :
    s.become (s.toPart.event f) = .next { s with toPart := f s.toPart } :=
  State.become_event h (h.restartReplyLeft_of_holdsReply startUp bus) (startUp ▸ h.inProgress)

/-- A timer that has run, at a part that is ready. -/
theorem State.ready.become_timed {s : State} {due : Part → Bool} {f : Part → Part} (h : s.ready)
    (ran : due s.toPart = true) (startUp : (f s.toPart).startUp = s.startUp)
    (bus : s.bus.holdsReply 6 → (f s.toPart).bus.holdsReply 8) :
    s.become (s.toPart.timed due f) = .next { s with toPart := f s.toPart } :=
  State.become_timed h ran (h.restartReplyLeft_of_holdsReply startUp bus) (startUp ▸ h.inProgress)

/-! ## The commands of the measurement and its timers -/

variable (s : State)

theorem exec_scanStart : exec .scanStart s = s.become (s.toPart.timed Part.scanDue Part.beginScan) := rfl

theorem exec_channelAnswer (g : Group) (pl : Place) (t : Int) (rh : Nat) (agrees : Bool) :
    exec (.channelAnswer g pl t rh agrees) s = s.become (s.toPart.event fun p => p.takeAnswer g pl t rh agrees) := rfl

theorem exec_answerWindowExpiry (g : Group) (pl : Place) :
    exec (.answerWindowExpiry g pl) s
      = s.become (s.toPart.timed (fun p => p.windowDue g pl) fun p => p.windowCloses g pl) := rfl

end Sys2Proof.Machine
end

section
/-! PROOF. The moisture unit: scan start, channel outcomes, and the figures of Tables 1-3 and 1-4. -/

namespace Sys2Proof.Machine

/-! ## Which scan waits for a channel -/

variable {p : Part} {g : Group} {pl : Place} {x : Scan}

theorem Part.openScan_eq_some (scan : p.moisture.scan = some x) (waits : (x.decided.get g).get pl = false) :
    p.openScan g pl = some x := by
  simp [Part.openScan, scan, waits]

theorem Part.openScan_eq_some_iff :
    p.openScan g pl = some x ↔ p.moisture.scan = some x ∧ (x.decided.get g).get pl = false := by
  simp [Part.openScan, Option.filter_eq_some_iff]

/-- An answer that no open window waits for changes nothing (R2, log 39). -/
theorem Part.takeAnswer_ignored (t : Int) (rh : Nat) (agrees : Bool)
    (closed : ∀ x, p.moisture.scan = some x → (x.decided.get g).get pl = true ∨ x.windowEnd < p.now) :
    p.takeAnswer g pl t rh agrees = p := by
  unfold Part.takeAnswer
  split
  · next x e =>
    obtain ⟨scan, waits⟩ := Part.openScan_eq_some_iff.1 e
    have late : x.windowEnd < p.now := by simpa [waits] using closed x scan
    rw [if_pos late]
  · rfl

/-- An answer in its window whose check disagrees is a miss (R2). -/
theorem Part.takeAnswer_disagreeing (t : Int) (rh : Nat) (scan : p.moisture.scan = some x)
    (waits : (x.decided.get g).get pl = false) (inTime : p.now ≤ x.windowEnd) :
    p.takeAnswer g pl t rh false = p.channelMisses x g pl := by
  simp [Part.takeAnswer, Part.openScan_eq_some scan waits, Nat.not_lt.2 inTime]

/-- An answer in its window whose check agrees is a reading (R2). -/
theorem Part.takeAnswer_agreeing (t : Int) (rh : Nat) (scan : p.moisture.scan = some x)
    (waits : (x.decided.get g).get pl = false) (inTime : p.now ≤ x.windowEnd) :
    p.takeAnswer g pl t rh true = p.channelReads x g pl t rh := by
  simp [Part.takeAnswer, Part.openScan_eq_some scan waits, Nat.not_lt.2 inTime]

theorem Part.windowCloses_open (scan : p.moisture.scan = some x) (waits : (x.decided.get g).get pl = false) :
    p.windowCloses g pl = p.channelMisses x g pl := by
  simp [Part.windowCloses, Part.openScan_eq_some scan waits]

theorem scanPeriod_eq (o : Occupancy) : scanPeriod o = if o = .staffed then 10000 else 30000 := by
  cases o <;> rfl

/-- Settles O5: a due scan start is `Part.beginScan`, and an answer without an open window is the identity. -/
theorem scanStartOpensTheWindows : Obligations.ScanStartOpensTheWindows := by
  constructor
  · intro s ready idle due
    rw [exec_scanStart, ready.become_timed (Part.scanDue_iff.2 ⟨idle, due⟩) rfl (·.mono (by decide))]
    rw [← scanPeriod_eq]
    rfl
  · intro s g pl t rh agrees ready closed
    have same := Part.takeAnswer_ignored (p := s.toPart) t rh agrees closed
    rw [exec_channelAnswer, ready.become_event (by rw [same]) (by rw [same]; exact (·.mono (by decide))), same]

/-! ## The outcome of a channel (R5 to R7) -/

theorem clampTemperature_eq_self {t : Int} : clampTemperature t = t ↔ -200 ≤ t ∧ t ≤ 500 := by
  unfold clampTemperature; omega

theorem clampHumidity_eq_self {rh : Nat} : clampHumidity rh = rh ↔ rh ≤ 1000 := by
  unfold clampHumidity; omega

theorem readingClamped_iff {t : Int} {rh : Nat} :
    readingClamped t rh = true ↔ t < -200 ∨ 500 < t ∨ 1000 < rh := by
  simp only [readingClamped, Bool.or_eq_true, bne_iff_ne, ne_eq, clampTemperature_eq_self, clampHumidity_eq_self]
  omega

theorem readingClamped_eq_false {t : Int} {rh : Nat} (cold : -200 ≤ t) (hot : t ≤ 500) (wet : rh ≤ 1000) :
    readingClamped t rh = false := by
  rw [← Bool.not_eq_true, readingClamped_iff]; omega

theorem Channel.reads_good (c : Channel) {t : Int} {rh : Nat} (cold : -200 ≤ t) (hot : t ≤ 500) (wet : rh ≤ 1000) :
    c.reads t rh = { c.judged .good with lastMoisture := some (moistureOf t rh), readThisScan := true } := by
  simp [Channel.reads, readingClamped_eq_false cold hot wet, clampTemperature_eq_self.2 ⟨cold, hot⟩,
    clampHumidity_eq_self.2 wet]

theorem Channel.reads_clamped (c : Channel) {t : Int} {rh : Nat} (beyond : t < -200 ∨ 500 < t ∨ 1000 < rh) :
    c.reads t rh = { c.judged .clamped with
      lastMoisture := some (moistureOf (max (-200) (min 500 t)) (min 1000 rh)), readThisScan := true } := by
  simp [Channel.reads, readingClamped_iff.2 beyond, clampTemperature, clampHumidity]

/-! ## The scan after an outcome (R2, R4) -/

/-- The scan with the outcome of a channel marked. -/
def Scan.marked (x : Scan) (g : Group) (pl : Place) : Scan :=
  { x with decided := x.decided.set g ((x.decided.get g).set pl true) }

theorem Scan.marked_same (x : Scan) (g : Group) (pl : Place) : ((x.marked g pl).decided.get g).get pl = true := by
  simp [Scan.marked]

theorem Scan.marked_other (x : Scan) {g : Group} {pl : Place} {c : Group × Place} (ne : c ≠ (g, pl)) :
    ((x.marked g pl).decided.get c.1).get c.2 = (x.decided.get c.1).get c.2 := by
  obtain ⟨g', pl'⟩ := c
  unfold Scan.marked
  by_cases hg : g' = g
  · subst hg
    have : pl' ≠ pl := fun e => ne (by rw [e])
    simp [PerPlace.get_set_other _ _ this]
  · simp [PerGroup.get_set_other _ _ hg]

/-- The scan is complete after an outcome exactly when no other channel waits (R4). -/
theorem Scan.marked_allDecided_iff : (x.marked g pl).allDecided = true ↔ ¬ x.othersOpen g pl := by
  simp only [Scan.allDecided, List.all_eq_true, Scan.othersOpen, not_exists, not_and, Bool.not_eq_false]
  refine forall₂_congr fun c _ => ?_
  by_cases e : c = (g, pl)
  · subst e; simp [Scan.marked_same]
  · simp [e, Scan.marked_other x e]

end Sys2Proof.Machine
end

section
/-! PROOF. The figures of chapter 1: health (Table 1-3), the moisture of a reading (Table 1-4), store and chamber
moisture. -/

namespace Sys2Proof.Machine

/-! ## Store and chamber moisture (R16, R17) -/

theorem GroupRecord.counted_eq_some {r : GroupRecord} {v : Nat} :
    r.counted = some v ↔ r.freshness ≠ .lost ∧ r.moisture = some v := by
  unfold GroupRecord.counted; split <;> simp_all

/-- The figures the store moisture is the largest of. -/
theorem mem_storeFigures {groups : PerGroup GroupRecord} {v : Nat} :
    v ∈ [groups.g0, groups.g1, groups.g2].filterMap GroupRecord.counted
      ↔ ∃ g, g ≠ .g3 ∧ (groups.get g).counted = some v := by
  simp only [List.mem_filterMap, List.mem_cons, List.not_mem_nil, or_false]
  constructor
  · rintro ⟨r, rfl | rfl | rfl, e⟩
    · exact ⟨.g0, by decide, e⟩
    · exact ⟨.g1, by decide, e⟩
    · exact ⟨.g2, by decide, e⟩
  · rintro ⟨g, ne, e⟩
    cases g with
    | g0 => exact ⟨_, .inl rfl, e⟩
    | g1 => exact ⟨_, .inr (.inl rfl), e⟩
    | g2 => exact ⟨_, .inr (.inr rfl), e⟩
    | g3 => exact absurd rfl ne

theorem storeMoisture_eq_some {groups : PerGroup GroupRecord} {m : Nat} :
    storeMoisture groups = some m ↔
      (∃ g, g ≠ .g3 ∧ (groups.get g).counted = some m)
        ∧ ∀ g v, g ≠ .g3 → (groups.get g).counted = some v → v ≤ m := by
  unfold storeMoisture
  rw [List.max?_eq_some_iff, mem_storeFigures]
  refine and_congr_right fun _ => ⟨fun le g v ne e => le v (mem_storeFigures.2 ⟨g, ne, e⟩), fun le v mem => ?_⟩
  obtain ⟨g, ne, e⟩ := mem_storeFigures.1 mem
  exact le g v ne e

theorem storeMoisture_eq_none {groups : PerGroup GroupRecord} :
    storeMoisture groups = none ↔ ∀ g v, g ≠ .g3 → (groups.get g).counted ≠ some v := by
  unfold storeMoisture
  rw [List.max?_eq_none_iff, List.eq_nil_iff_forall_not_mem]
  simp only [mem_storeFigures, not_exists, not_and]
  exact ⟨fun none g v => none v g, fun none v g => none g v⟩

/-! ## The moisture of a reading (R9, R10) -/

/-- Between two points of Table 1-4 (R9). -/
theorem saturation_between {i f : Nat} (hi : i ≤ 13) (hf : f < 50 ∨ (i = 13 ∧ f = 50)) :
    saturation ((50 * i + f : Nat) - 200 : Int)
      = saturationPoint i + ((saturationPoint (i + 1) - saturationPoint i) * f + 25) / 50 := by
  have index : min 13 ((50 * i + f) / 50) = i := by omega
  have offset : (((50 * i + f : Nat) - 200 : Int) + 200).toNat = 50 * i + f := by omega
  simp only [saturation, offset, index, Nat.add_sub_cancel_left]

theorem saturationPoint_le_succ {i : Nat} (hi : i ≤ 13) : saturationPoint i ≤ saturationPoint (i + 1) := by
  interval_cases i <;> decide

theorem saturationPoint_range {i : Nat} (hi : i ≤ 14) : 88 ≤ saturationPoint i ∧ saturationPoint i ≤ 8306 := by
  interval_cases i <;> decide

/-- Linear interpolation rounded half up stays between its ends. -/
theorem interpolation_le {a b f : Nat} (le : a ≤ b) (hf : f ≤ 50) : a + ((b - a) * f + 25) / 50 ≤ b := by
  have : (b - a) * f ≤ (b - a) * 50 := Nat.mul_le_mul_left _ hf
  omega

/-- The whole range of temperatures lies between the points of Table 1-4. -/
theorem temperature_between {t : Int} (cold : -200 ≤ t) (hot : t ≤ 500) :
    ∃ i f : Nat, i ≤ 13 ∧ (f < 50 ∨ (i = 13 ∧ f = 50)) ∧ t = (50 * i + f : Nat) - 200 :=
  ⟨min 13 ((t + 200).toNat / 50), (t + 200).toNat - 50 * min 13 ((t + 200).toNat / 50), by omega, by omega, by omega⟩

theorem saturation_range {t : Int} (cold : -200 ≤ t) (hot : t ≤ 500) : 88 ≤ saturation t ∧ saturation t ≤ 8306 := by
  obtain ⟨i, f, hi, hf, rfl⟩ := temperature_between cold hot
  have lower := (saturationPoint_range (i := i) (by omega)).1
  have upper := (saturationPoint_range (i := i + 1) (by omega)).2
  have between := interpolation_le (f := f) (saturationPoint_le_succ hi) (by omega)
  rw [saturation_between hi hf]
  omega

theorem moistureOf_le {t : Int} {rh : Nat} (cold : -200 ≤ t) (hot : t ≤ 500) (wet : rh ≤ 1000) :
    moistureOf t rh ≤ 8306 := by
  have : saturation t * rh ≤ 8306 * 1000 := Nat.mul_le_mul (saturation_range cold hot).2 wet
  unfold moistureOf
  omega

/-! ## Health and counts (R6) -/

section
variable {c : Channel}

/-- Table 1-3, the row of HEALTHY. -/
theorem Channel.judged_healthy (h : c.health = .healthy) :
    c.judged .good = { c with goodCount := min 10 (c.goodCount + 1), missCount := 0 }
    ∧ c.judged .clamped = { c with health := .suspect, goodCount := 0, missCount := 0 }
    ∧ c.judged .miss = { c with health := .suspect, goodCount := 0, missCount := 1 } := by
  simp [Channel.judged, h, topGood]

/-- Table 1-3, the row of SUSPECT: three good readings in a row make the channel HEALTHY. -/
theorem Channel.judged_suspect_good (h : c.health = .suspect) :
    (c.goodCount + 1 < 3 → c.judged .good = { c with goodCount := c.goodCount + 1, missCount := 0 })
    ∧ (3 ≤ c.goodCount + 1 →
      c.judged .good = { c with health := .healthy, goodCount := min 10 (c.goodCount + 1), missCount := 0 }) := by
  constructor
  · intro few
    have good : min topGood (c.goodCount + 1) = c.goodCount + 1 := by unfold topGood; omega
    have short : ¬ 3 ≤ c.goodCount + 1 := by omega
    simp only [Channel.judged, h, good, if_neg short]
  · intro run
    have top : 3 ≤ min topGood (c.goodCount + 1) := by unfold topGood; omega
    simp only [Channel.judged, h, if_pos top]
    rfl

/-- Table 1-3, the row of SUSPECT: three misses in a row make the channel FAILED. -/
theorem Channel.judged_suspect_miss (h : c.health = .suspect) :
    (c.missCount + 1 < 3 → c.judged .miss = { c with goodCount := 0, missCount := c.missCount + 1 })
    ∧ (3 ≤ c.missCount + 1 → c.judged .miss = { c with health := .failed, goodCount := 0, missCount := 3 }) := by
  constructor
  · intro few
    have misses : min topMiss (c.missCount + 1) = c.missCount + 1 := by unfold topMiss; omega
    have short : ¬ 3 ≤ c.missCount + 1 := by omega
    simp only [Channel.judged, h, misses, if_neg short]
  · intro run
    have misses : min topMiss (c.missCount + 1) = 3 := Nat.min_eq_left run
    simp only [Channel.judged, h, misses, if_pos (Nat.le_refl 3)]

/-- Table 1-3, the row of FAILED: ten good readings in a row make the channel HEALTHY. -/
theorem Channel.judged_failed_good (h : c.health = .failed) :
    (c.goodCount + 1 < 10 → c.judged .good = { c with goodCount := c.goodCount + 1, missCount := 0 })
    ∧ (10 ≤ c.goodCount + 1 →
      c.judged .good = { c with health := .healthy, goodCount := 10, missCount := 0 }) := by
  constructor
  · intro few
    have good : min topGood (c.goodCount + 1) = c.goodCount + 1 := by unfold topGood; omega
    have short : ¬ 10 ≤ c.goodCount + 1 := by omega
    simp only [Channel.judged, h, good, if_neg short]
  · intro run
    have good : min topGood (c.goodCount + 1) = 10 := Nat.min_eq_left run
    simp only [Channel.judged, h, good, if_pos (Nat.le_refl 10)]

theorem Channel.judged_clamped (h : c.health ≠ .healthy) :
    c.judged .clamped = { c with goodCount := 0, missCount := 0 } := by
  cases e : c.health <;> simp_all [Channel.judged]

theorem Channel.judged_failed_miss (h : c.health = .failed) :
    c.judged .miss = { c with goodCount := 0, missCount := 3 } := by
  simp [Channel.judged, h, topMiss]
end

/-- Settles O8, row by row of Table 1-3, by interpolation between the points of Table 1-4, and by membership among the
store figures. -/
theorem figuresFollowTheirTables : Obligations.FiguresFollowTheirTables := by
  refine ⟨fun c _ _ => ⟨Channel.judged_healthy, fun suspect => ?_, fun failed => ?_⟩,
    ⟨fun i f => saturation_between, fun t rh cold hot wet => ?_⟩, fun groups m => ?_⟩
  · obtain ⟨few, run⟩ := Channel.judged_suspect_good suspect
    exact ⟨few, run, Channel.judged_clamped (by simp [suspect]), Channel.judged_suspect_miss suspect⟩
  · obtain ⟨few, run⟩ := Channel.judged_failed_good failed
    exact ⟨few, run, Channel.judged_clamped (by simp [failed]), Channel.judged_failed_miss failed⟩
  · obtain ⟨lower, upper⟩ := saturation_range cold hot
    exact ⟨lower, upper, rfl, moistureOf_le cold hot wet⟩
  · simp only [← GroupRecord.counted_eq_some]
    exact ⟨storeMoisture_eq_some, storeMoisture_eq_none, Iff.rfl⟩

end Sys2Proof.Machine
end

section
/-! PROOF. An evaluation of the climate governor, said once: the governor, the outputs and the frames it leaves, and what
of the part it reads (chapter 3). -/

namespace Sys2Proof.Machine

/-! ## Contents that later frames repeat -/

/-- FIRE_STATE content follows the sequencer, the loops and DAMPER_FAULT alone (R84). -/
theorem Part.fireContent_congr {p q : Part} (fire : p.fire = q.fire) (loops : p.loops = q.loops)
    (fault : p.climate.damperFault = q.climate.damperFault) : p.fireContent = q.fireContent := by
  simp [Part.fireContent, fire, loops, fault]

theorem Part.climateContent_congr {p q : Part} (startUp : p.startUp = q.startUp) (climate : p.climate = q.climate) :
    p.climateContent = q.climateContent := by
  simp [Part.climateContent, Part.settings_eq, startUp, climate]

variable (p : Part)

/-! ## Damper supervision (R47, R48) -/

theorem Part.handFireState_bus :
    p.handFireState.bus = p.bus.handed (newFrame .fire 63#6 (.fireState p.fireContent)) :=
  p.handFrame_bus _

theorem Part.handFireState_fireContent : p.handFireState.fireContent = p.fireContent :=
  Part.fireContent_congr (by simp) (by simp) (by simp)

theorem Part.setDamperFault_climate (fault : Bool) :
    (p.setDamperFault fault).climate = { p.climate with damperFault := fault } := by
  unfold Part.setDamperFault
  split
  · next same => rw [← same]
  · simp

/-- The bus port where DAMPER_FAULT of `q` may differ from that of a part before it, whose bus port was `b` (R48). -/
def BusPort.faultShown (b : BusPort) (old : Bool) (q : Part) : BusPort :=
  if q.climate.damperFault = old then b else b.handed (newFrame .fire 63#6 (.fireState q.fireContent))

theorem Part.setDamperFault_bus (fault : Bool) :
    (p.setDamperFault fault).bus = p.bus.faultShown p.climate.damperFault (p.setDamperFault fault) := by
  unfold BusPort.faultShown
  rw [Part.setDamperFault_climate]
  unfold Part.setDamperFault
  by_cases same : p.climate.damperFault = fault
  · simp [same]
  · rw [if_neg same, if_neg (Ne.symm same), Part.handFireState_bus, Part.handFireState_fireContent]
    rfl

/-- What damper supervision makes of the governor when the command changed from `old` (R47, R48). -/
theorem Part.superviseCommand_climate (old : Nat) :
    (p.superviseCommand old).climate =
      if old = p.climate.damper then p.climate
      else if p.climate.damper = 0 then
        if p.active .in5 then { p.climate with confirmation := none, damperFault := false }
        else if outputFitted p.settings 5 && p.climate.confirmation.isNone then
          { p.climate with confirmation := some (p.now + confirmationTime) }
        else p.climate
      else if old = 0 then { p.climate with confirmation := none }
      else p.climate := by
  unfold Part.superviseCommand Part.startConfirmation
  (repeat' split) <;> simp [Part.setDamperFault_climate, Part.endConfirmation]

theorem Part.superviseCommand_bus (old : Nat) :
    (p.superviseCommand old).bus = p.bus.faultShown p.climate.damperFault (p.superviseCommand old) := by
  have unchanged {q : Part} (fault : q.climate.damperFault = p.climate.damperFault) :
      p.bus.faultShown p.climate.damperFault q = p.bus := if_pos fault
  unfold Part.superviseCommand
  split
  · rw [unchanged rfl]
  · split
    · split
      · rw [Part.setDamperFault_bus]; simp [Part.endConfirmation]
      · rw [unchanged] <;> unfold Part.startConfirmation <;> split <;> simp
    · split
      · rw [unchanged] <;> simp [Part.endConfirmation]
      · rw [unchanged rfl]

/-! ## The choice taken (R40) -/

/-- The part with the figures and requests of a choice, before damper supervision hears of it. -/
def Part.chosen (effective grant : Nat) (c : AirPathChoice) : Part :=
  (((p.withClimate { p.climate with
        effective := effective, grant := grant, airPath := c.airPath, damper := c.damper, fan := c.fan
        plant := c.plant }).requestOpening c.damper).requestOutput .out6 (onOff c.fan)).requestOutput .out7
    (onOff c.plant)

theorem Part.takeChoice_eq (effective grant : Nat) (c : AirPathChoice) :
    p.takeChoice effective grant c = (p.chosen effective grant c).superviseCommand p.climate.damper := rfl

theorem Part.chosen_climate (effective grant : Nat) (c : AirPathChoice) :
    (p.chosen effective grant c).climate = { p.climate with
      effective := effective, grant := grant, airPath := c.airPath, damper := c.damper, fan := c.fan
      plant := c.plant } := by
  simp [Part.chosen]

theorem Part.takeChoice_outputs (effective grant : Nat) (c : AirPathChoice) :
    (p.takeChoice effective grant c).outputs =
      { p.outputs with
        out5 := ⟨c.damper, if outputFitted p.settings 5 then some c.damper else none⟩
        out6 := p.outputs.out6.take (outputFitted p.settings 6) p.now (onOff c.fan)
        out7 := p.outputs.out7.take (outputFitted p.settings 7) p.now (onOff c.plant) } := by
  simp [Part.takeChoice, Part.requestOutput, Part.requestOpening, Part.settings_eq, Part.now_eq, OutputDriver.set,
    OutputDriver.get, outputNumber]
  rfl

theorem Part.resolveAirPath_airPath : p.resolveAirPath.climate.airPath = p.airPathChoice.airPath := by
  obtain ⟨_, _, e⟩ := p.takeChoice_climate p.effectiveDemand p.computedGrant p.airPathChoice
  rw [Part.resolveAirPath, e]

theorem Part.resolveAirPath_demand : p.resolveAirPath.climate.demand = p.climate.demand := by
  obtain ⟨_, _, e⟩ := p.takeChoice_climate p.effectiveDemand p.computedGrant p.airPathChoice
  rw [Part.resolveAirPath, e]

/-- FIRE_STATE is the only frame of an evaluation before CLIMATE, and comes with a change of DAMPER_FAULT (R48). -/
theorem Part.resolveAirPath_bus :
    p.resolveAirPath.bus = p.bus.faultShown p.climate.damperFault p.resolveAirPath := by
  unfold Part.resolveAirPath
  rw [Part.takeChoice_eq, Part.superviseCommand_bus, Part.chosen_climate]
  simp [Part.chosen]

/-- PURGE is the air path of a standing purge request without the SHUT condition (Table 3-3). -/
theorem Part.airPathChoice_purge_iff :
    p.airPathChoice.airPath = .purge ↔ p.shutCondition = false ∧ p.hatch.purgeRequest = true := by
  unfold Part.airPathChoice resolve
  cases p.shutCondition <;> cases p.hatch.purgeRequest <;> simp
  split
  · simp
  · split <;> simp

theorem Part.airPathChoice_purge_damper (shut : p.shutCondition = false) (purge : p.hatch.purgeRequest = true) :
    p.airPathChoice.damper = 100 := by
  simp [Part.airPathChoice, resolve, shut, purge]

/-- An evaluation in PURGE opens the damper, which changes no DAMPER_FAULT (R47). -/
theorem Part.resolveAirPath_purge_fault (shut : p.shutCondition = false) (purge : p.hatch.purgeRequest = true) :
    p.resolveAirPath.climate.damperFault = p.climate.damperFault := by
  unfold Part.resolveAirPath
  rw [Part.takeChoice_eq, Part.superviseCommand_climate, Part.chosen_climate]
  simp only [p.airPathChoice_purge_damper shut purge]
  split
  · rfl
  · split
    · contradiction
    · split <;> rfl

/-! ## What an evaluation reads -/

/-- The parts agree in all that an evaluation of the resolver reads and changes, but the bus port. -/
structure Part.SameForAirPath (p q : Part) : Prop where
  climate : p.climate = q.climate
  outputs : p.outputs = q.outputs
  fire : p.fire = q.fire
  peers : p.peers = q.peers
  inputs : p.inputs = q.inputs
  clock : p.clock = q.clock
  startUp : p.startUp = q.startUp
  purgeRequest : p.hatch.purgeRequest = q.hatch.purgeRequest

section
variable {p q : Part} (same : p.SameForAirPath q)
include same

theorem Part.SameForAirPath.shutCondition : p.shutCondition = q.shutCondition := by
  unfold Part.shutCondition Part.peerShut Part.ductPeer
  rw [same.fire, same.peers, Part.settings_eq, Part.settings_eq, same.startUp]

theorem Part.SameForAirPath.effectiveDemand : p.effectiveDemand = q.effectiveDemand := by
  unfold Part.effectiveDemand
  rw [same.shutCondition, same.purgeRequest, same.climate, Part.settings_eq, Part.settings_eq, same.startUp]

theorem Part.SameForAirPath.computedGrant : p.computedGrant = q.computedGrant := by
  have counted : p.countedDemand = q.countedDemand := by
    funext e
    unfold Part.countedDemand Part.ductPeer
    rw [Part.settings_eq, Part.settings_eq, Part.now_eq, Part.now_eq, same.startUp, same.clock]
  unfold Part.computedGrant Part.peerDemands
  rw [counted, same.peers, same.effectiveDemand, same.climate, Part.settings_eq, Part.settings_eq, same.startUp]

theorem Part.SameForAirPath.airPathChoice : p.airPathChoice = q.airPathChoice := by
  unfold Part.airPathChoice
  rw [same.shutCondition, same.purgeRequest, same.computedGrant, Part.settings_eq, Part.settings_eq, same.startUp]

theorem Part.SameForAirPath.resolve_outputs : p.resolveAirPath.outputs = q.resolveAirPath.outputs := by
  unfold Part.resolveAirPath
  rw [Part.takeChoice_outputs, Part.takeChoice_outputs, same.airPathChoice, same.outputs, Part.settings_eq,
    Part.settings_eq, Part.now_eq, Part.now_eq, same.startUp, same.clock]

theorem Part.SameForAirPath.resolve_climate : p.resolveAirPath.climate = q.resolveAirPath.climate := by
  unfold Part.resolveAirPath
  rw [same.airPathChoice, same.effectiveDemand, same.computedGrant]
  simp [Part.takeChoice_eq, Part.superviseCommand_climate, Part.chosen, Part.active, Part.settings_eq, Part.now_eq,
    same.climate, same.inputs, same.startUp, same.clock]

end

/-! ## Evaluations between hand-offs (R35, R41) -/

theorem Part.handClimate_bus :
    p.handClimate.bus = p.bus.handed (newFrame .routine 63#6 (.climate p.climateContent)) :=
  p.handFrame_bus _

theorem Part.evaluate_climate : p.evaluate.climate = p.resolveAirPath.climate := by
  unfold Part.evaluate; dsimp only; split <;> simp

theorem Part.evaluate_outputs : p.evaluate.outputs = p.resolveAirPath.outputs := by
  unfold Part.evaluate; dsimp only; split <;> simp

/-- The frames of an evaluation follow the governor, the sequencer, the loops and the configuration after it. -/
theorem BusPort.evaluated_congr (b : BusPort) {p p' q q' : Part} (before : p.climate = p'.climate)
    (climate : q.climate = q'.climate) (fire : q.fire = q'.fire) (loops : q.loops = q'.loops)
    (startUp : q.startUp = q'.startUp) : b.evaluated p q = b.evaluated p' q' := by
  have shown := Part.fireContent_congr fire loops (congrArg _ climate)
  have content := Part.climateContent_congr startUp climate
  simp only [BusPort.evaluated, before, climate, shown, content]

theorem Part.evaluate_bus : p.evaluate.bus = p.bus.evaluated p p.evaluate := by
  have after : p.bus.evaluated p p.evaluate = p.bus.evaluated p p.resolveAirPath :=
    BusPort.evaluated_congr _ rfl p.evaluate_climate (by simp) (by simp) (by simp)
  have bus := p.resolveAirPath_bus
  unfold BusPort.faultShown at bus
  rw [after]
  unfold BusPort.evaluated Part.evaluate Part.offerClimate
  simp only [← bus]
  by_cases same : p.resolveAirPath.climate.effective = p.climate.effective
      ∧ p.resolveAirPath.climate.airPath = p.climate.airPath
  · rw [if_pos same, if_pos (.inl same)]
  · rw [if_neg same]
    cases pending : p.resolveAirPath.bus.queue.any (TxFrame.pendingOf .climate)
    · simp
    · simp [same, Part.handClimate_bus]

/-! ## The marked reply through an evaluation -/

theorem BusPort.holdsReply.faultShown {b : BusPort} {n : Nat} (h : b.holdsReply n) (room : n < 8) (old : Bool)
    (q : Part) : (b.faultShown old q).holdsReply (n + 1) := by
  unfold BusPort.faultShown
  split
  · exact h.mono (Nat.le_succ n)
  · exact h.handed room _

theorem BusPort.evaluated_eq (b : BusPort) (p q : Part) :
    b.evaluated p q =
      if (q.climate.effective = p.climate.effective ∧ q.climate.airPath = p.climate.airPath)
        ∨ (b.faultShown p.climate.damperFault q).queue.any (TxFrame.pendingOf .climate) = false
      then b.faultShown p.climate.damperFault q
      else (b.faultShown p.climate.damperFault q).handed (newFrame .routine 63#6 (.climate q.climateContent)) := rfl

theorem BusPort.holdsReply.evaluated {b : BusPort} (h : b.holdsReply 7) (p q : Part) : (b.evaluated p q).holdsReply 8 := by
  have shown := h.faultShown (by decide) p.climate.damperFault q
  rw [BusPort.evaluated_eq]
  split
  · exact shown
  · exact shown.handed_notFire (by simp [newFrame])

end Sys2Proof.Machine
end

section
/-! PROOF. Staleness, damper, neighbour, pattern and peer entry timers when they have run. -/

namespace Sys2Proof.Machine

section
variable (s : State)

theorem exec_groupStalenessExpiry (g : Group) :
    exec (.groupStalenessExpiry g) s
      = s.become (s.toPart.timed (fun p => p.stalenessDue g) fun p => p.stalenessExpires g) := rfl

theorem exec_damperConfirmationExpiry :
    exec .damperConfirmationExpiry s = s.become (s.toPart.timed Part.damperDue Part.confirmationExpires) := rfl

theorem exec_neighbourWatchExpiry (station : Station) :
    exec (.neighbourWatchExpiry station) s
      = s.become (s.toPart.timed (fun p => p.watchDue station) fun p => p.watchExpires station) := rfl

theorem exec_patternPhaseEnd (signal : Signal) :
    exec (.patternPhaseEnd signal) s
      = s.become (s.toPart.timed (fun p => p.phaseDue signal) fun p => p.phaseEnds signal) := rfl

theorem exec_peerEntryExpiry (station : Station) :
    exec (.peerEntryExpiry station) s
      = s.become (s.toPart.timed (fun p => p.peerEntryDue station) fun p => p.peerEntryExpires station) := rfl

end

variable {p : Part}

/-! ## Damper confirmation (R47, R48) -/

theorem Part.confirmationExpires_eq (ran : expired p.now p.climate.confirmation = true) :
    p.confirmationExpires
      = (p.withClimate { p.climate with confirmation := none, damperFault := true }).withBus
          (if p.climate.damperFault then p.bus
            else p.bus.handed (newFrame .fire 63#6 (.fireState { p.fireContent with damperFault := true }))) := by
  unfold Part.confirmationExpires
  rw [if_pos ran]
  unfold Part.setDamperFault Part.endConfirmation
  cases fault : p.climate.damperFault
  · simp only [Part.withClimate_climate, fault, Bool.false_eq_true, if_false, Part.handFireState, Part.handFrame_eq]
    rfl
  · simp only [Part.withClimate_climate, fault, if_true]
    rfl

/-! ## Watches and entries of distinct stations (R164, R166) -/

/-- Of a list in which no two elements meet `q`, the first that meets it is every one that does. -/
theorem changeFirst_eq_map {α : Type} {q : α → Bool} (f : α → α) {xs : List α}
    (single : xs.Pairwise fun x y => q x = true → q y = false) :
    changeFirst q f xs = xs.map fun x => if q x then f x else x := by
  induction xs with
  | nil => rfl
  | cons x xs ih =>
    obtain ⟨alone, rest⟩ := List.pairwise_cons.1 single
    rw [changeFirst, List.map_cons]
    split
    · next meets =>
      have others : xs.map (fun y => if q y then f y else y) = xs :=
        (List.map_congr_left fun y mem => by simp [alone y mem meets]).trans (List.map_id xs)
      rw [others]
    · rw [ih rest]

theorem eraseP_eq_filter {α : Type} {q : α → Bool} {xs : List α}
    (single : xs.Pairwise fun x y => q x = true → q y = false) : xs.eraseP q = xs.filter fun x => !q x := by
  induction xs with
  | nil => rfl
  | cons x xs ih =>
    obtain ⟨alone, rest⟩ := List.pairwise_cons.1 single
    cases meets : q x
    · simp [meets, ih rest]
    · have others : xs.filter (fun y => !q y) = xs :=
        List.filter_eq_self.2 fun y mem => by simp [alone y mem meets]
      simp [meets, others]

theorem dueEntry_iff {st : Station} {now : Time} {e : PeerEntry} :
    dueEntry st now e = true ↔ e.station = st ∧ e.silent = false ∧ e.lastFrame + hearingTime ≤ now := by
  simp [dueEntry, PeerEntry.due_iff]

/-- With one entry per station, at most one entry of a station is due. -/
theorem dueEntry_single {entries : List PeerEntry} (distinct : (entries.map (·.station)).Nodup) (st : Station)
    (now : Time) : entries.Pairwise fun x y => dueEntry st now x = true → dueEntry st now y = false := by
  refine (List.pairwise_map.1 distinct).imp fun {x y} ne hx => ?_
  rw [← Bool.not_eq_true]
  exact fun hy => ne ((dueEntry_iff.1 hx).1.trans (dueEntry_iff.1 hy).1.symm)

section
variable {entries : List PeerEntry} {e : PeerEntry} {now : Time} (mem : e ∈ entries)
  (due : dueEntry e.station now e = true) (distinct : (entries.map (·.station)).Nodup)
include mem due distinct

/-- With one entry per station, the due entry of a station is the entry of that station. -/
theorem dueEntry_eq_station : ∀ x ∈ entries, dueEntry e.station now x = decide (x.station = e.station) := by
  intro x hx
  rw [Bool.eq_iff_iff, decide_eq_true_iff]
  refine ⟨fun h => (dueEntry_iff.1 h).1, fun same => ?_⟩
  rwa [List.inj_on_of_nodup_map distinct hx mem same]

theorem find_dueEntry : entries.find? (dueEntry e.station now) = some e := by
  cases found : entries.find? (dueEntry e.station now) with
  | none => exact absurd due (List.find?_eq_none.1 found e mem)
  | some x =>
    rw [List.inj_on_of_nodup_map distinct (List.mem_of_find?_eq_some found) mem (dueEntry_iff.1 (List.find?_some found)).1]

end

section
variable {v : PeerView} {e : PeerEntry} {now : Time} (mem : e ∈ v.entries)
  (due : dueEntry e.station now e = true) (distinct : (v.entries.map (·.station)).Nodup)
include mem due distinct

/-- An entry with a released gas becomes SILENT (R164). -/
theorem PeerView.expires_released (gas : e.fireState.any FireState.gasReleased = true) :
    v.expires e.station now = { v with entries := v.entries.map fun x =>
      if x.station = e.station then { x with silent := true } else x } := by
  unfold PeerView.expires
  rw [find_dueEntry mem due distinct]
  simp only [gas, if_true]
  rw [changeFirst_eq_map _ (dueEntry_single distinct _ _)]
  congr 1
  refine List.map_congr_left fun x hx => ?_
  simp [dueEntry_eq_station mem due distinct x hx]

/-- An entry without a released gas is removed (R164, R165). -/
theorem PeerView.expires_unreleased (gas : e.fireState.any FireState.gasReleased = false) :
    v.expires e.station now = { v with
      tableFull := false, entries := v.entries.filter fun x => decide (x.station ≠ e.station) } := by
  unfold PeerView.expires
  rw [find_dueEntry mem due distinct]
  simp only [gas, Bool.false_eq_true, if_false]
  rw [eraseP_eq_filter (dueEntry_single distinct _ _)]
  congr 1
  refine List.filter_congr fun x hx => ?_
  simp [dueEntry_eq_station mem due distinct x hx]

end

/-- With one watch per station, the watch that runs out is the one of its station (R166). -/
theorem Part.watchExpires_watches {w : NeighbourWatch} (mem : w ∈ p.peers.watches) (due : w.due p.now = true)
    (distinct : (p.peers.watches.map (·.station)).Nodup) :
    (p.watchExpires w.station).peers.watches
      = p.peers.watches.map fun x => if x.station = w.station then { x with silent := true } else x := by
  refine List.map_congr_left fun x hx => ?_
  by_cases same : x.station = w.station
  · have : x = w := List.inj_on_of_nodup_map distinct hx mem same
    subst this
    simp [due]
  · simp [same]

/-- A signal in a pattern moves to its other phase (R172). -/
theorem Part.phaseEnds_eq {signal : Signal} {q : Pattern} {on : Bool} {phaseEnd : Time}
    (running : (p.outputs.get (signalOutput signal)).state = .pattern q on phaseEnd) :
    p.phaseEnds signal = p.withOutputs (p.outputs.set (signalOutput signal)
      { p.outputs.get (signalOutput signal) with
        state := .pattern q (!on) (phaseEnd + if on then q.offTime else q.onTime) }) := by
  simp only [Part.phaseEnds, running, OutputState.nextPhase]

/-- An evaluation touches nothing but the governor, the outputs and the bus port. -/
theorem Part.evaluate_only (p : Part) :
    p.evaluate = { p with climate := p.evaluate.climate, outputs := p.evaluate.outputs, bus := p.evaluate.bus } := by
  have frame := p.evaluate_frame
  generalize p.evaluate = q at frame
  cases q
  simp_all

/-! ## The five timers -/

section
variable {s : State} (ready : s.ready)
include ready

theorem stale_group_becomes_lost {g : Group} (stale : (s.moisture.groups.get g).freshness = .stale) {since : Time}
    (started : (s.moisture.groups.get g).staleSince = some since) (ran : since + 600000 ≤ s.clock.localTime) :
    exec (.groupStalenessExpiry g) s = .next { s with toPart := s.toPart.stalenessExpires g } := by
  rw [exec_groupStalenessExpiry,
    ready.become_timed (Part.stalenessDue_iff.2 ⟨stale, since, started, ran⟩) rfl (·.mono (by decide))]

theorem damper_confirmation_expires {e : Time} (running : s.climate.confirmation = some e)
    (ran : e ≤ s.clock.localTime) :
    exec .damperConfirmationExpiry s = .next { s with toPart := s.toPart.confirmationExpires } := by
  have due : expired s.toPart.now s.climate.confirmation = true := expired_iff.2 ⟨e, running, ran⟩
  have after := Part.confirmationExpires_eq (p := s.toPart) due
  rw [exec_damperConfirmationExpiry, ready.become_timed due (by simp)]
  intro reply
  rw [after]
  simp only [Part.withBus_bus]
  split
  · exact reply.mono (by decide)
  · exact (reply.handed (by decide) _).mono (by decide)

theorem watch_expires {w : NeighbourWatch} (mem : w ∈ s.peers.watches) (due : w.due s.toPart.now = true) :
    exec (.neighbourWatchExpiry w.station) s = .next { s with toPart := s.toPart.watchExpires w.station } := by
  have watchDue : s.toPart.watchDue w.station = true := List.any_eq_true.2 ⟨w, mem, by simp [due]⟩
  rw [exec_neighbourWatchExpiry, ready.become_timed watchDue rfl (·.mono (by decide))]

theorem pattern_phase_ends {signal : Signal} {q : Pattern} {on : Bool} {phaseEnd : Time}
    (running : (s.outputs.get (signalOutput signal)).state = .pattern q on phaseEnd)
    (ran : phaseEnd ≤ s.clock.localTime) :
    exec (.patternPhaseEnd signal) s = .next { s with toPart := s.toPart.phaseEnds signal } := by
  rw [exec_patternPhaseEnd,
    ready.become_timed (OutputState.phaseDue_iff.2 ⟨q, on, phaseEnd, running, ran⟩) rfl (·.mono (by decide))]

theorem peer_entry_expires {e : PeerEntry} (mem : e ∈ s.peers.entries)
    (due : dueEntry e.station s.toPart.now e = true) :
    exec (.peerEntryExpiry e.station) s = .next { s with toPart := s.toPart.peerEntryExpires e.station } := by
  have entryDue : s.toPart.peerEntryDue e.station = true := List.any_eq_true.2 ⟨e, mem, due⟩
  rw [exec_peerEntryExpiry, ready.become_timed entryDue (by simp [Part.peerEntryExpires])]
  intro reply
  unfold Part.peerEntryExpires
  rw [Part.evaluate_bus]
  exact (reply.mono (by decide)).evaluated _ _

end

/-- Settles O54, timer by timer; distinct stations make the due entry or watch the only one of its station. -/
theorem runTimersAct : Obligations.RunTimersAct := by
  intro s ready
  refine ⟨fun g stale since started ran => stale_group_becomes_lost ready stale started ran, fun e running ran => ?_,
    fun w mem loud ran distinct => ?_, fun signal q on phaseEnd running ran => ?_, fun e mem loud ran distinct => ?_⟩
  · rw [damper_confirmation_expires ready running ran, Part.confirmationExpires_eq (expired_iff.2 ⟨e, running, ran⟩)]
    rfl
  · have watches := Part.watchExpires_watches mem (NeighbourWatch.due_iff.2 ⟨loud, ran⟩) distinct
    refine ⟨_, watch_expires ready mem (NeighbourWatch.due_iff.2 ⟨loud, ran⟩), ?_, rfl, rfl, watches⟩
    rw [Part.neighbourSilent, watches, List.any_map]
    exact List.any_eq_true.2 ⟨w, mem, by simp⟩
  · rw [pattern_phase_ends ready running ran, Part.phaseEnds_eq running]
    cases q <;> cases on <;> rfl
  · have due := dueEntry_iff.2 ⟨rfl, loud, ran⟩
    have peers : (s.toPart.peerEntryExpires e.station).peers = s.peers.expires e.station s.toPart.now := by
      simp [Part.peerEntryExpires]
    refine ⟨_, peer_entry_expires ready mem due, fun ⟨st, recorded, gas⟩ => ?_, fun none => ?_, ?_, ?_⟩
    · exact peers.trans (PeerView.expires_released mem due distinct (by simp [recorded, gas]))
    · refine peers.trans (PeerView.expires_unreleased mem due distinct ?_)
      cases recorded : e.fireState with
      | none => rfl
      | some st => simpa using none st recorded
    · simp only [peers]
      exact ⟨Part.evaluate_climate _, Part.evaluate_outputs _⟩
    · simp only [Part.peerEntryExpires]
      rw [Part.evaluate_only]
      rfl

end Sys2Proof.Machine
end

section
/-! PROOF. The broadcasts of the part as bytes: what another station receives and reads (R154, R160), and what STATUS and
FIRE_STATE hold of the part (R84, R178, R179). -/

namespace Sys2Proof.Machine

/-! ## A frame of the part, received -/

/-- A frame whose payload is coded, as another station gets it: valid, with kind and payload as they were put in. -/
theorem newFrame_received {cls : FrameClass} {dest own : Station} {other : Option Station} {body : Body}
    {payload : List Byte} (coded : body.payload = some payload) (short : payload.length ≤ 40)
    (sender : validStation own = true) (foreign : other ≠ some own) :
    ∃ f, (newFrame cls dest body).asReceived own = some f ∧ frameValid f other = true ∧ f.cls = cls
      ∧ f.kind = body.kind ∧ f.payload = payload := by
  have length : (BitVec.ofNat 6 payload.length).toNat = payload.length := by
    rw [BitVec.toNat_ofNat]; omega
  obtain ⟨notNull, notAll⟩ : own ≠ 0#6 ∧ own ≠ 63#6 := by simpa [validStation] using sender
  refine ⟨_, by rw [TxFrame.asReceived, newFrame, coded]; rfl, ?_, rfl, rfl, rfl⟩
  simp [frameValid, computedCrc, length, notNull, notAll, Ne.symm foreign, maxPayload, short]

/-! ## What a peer reads -/

section
variable {f : RxFrame}

theorem contentOf_fireState (kind : kindMeaning f.cls f.kind = .fireState) (length : f.payload.length = 10) :
    contentOf f = ⟨none, none, fireStateOfCode (f.payload.getD 0 0#8), none⟩ := by
  simp [contentOf, kind, length, PeerContent.nothing]

theorem contentOf_climate (kind : kindMeaning f.cls f.kind = .climate) (length : f.payload.length = 3) :
    contentOf f = ⟨ductGroupOfByte (f.payload.getD 0 0#8), some (f.payload.getD 1 0#8).toNat, none, none⟩ := by
  simp [contentOf, kind, length, PeerContent.nothing]

theorem contentOf_status (kind : kindMeaning f.cls f.kind = .status) (length : f.payload.length = 24) :
    contentOf f = ⟨none, none, fireStateOfCode (f.payload.getD 4 0#8), some (payloadField f.payload 0 4)⟩ := by
  simp [contentOf, kind, length, PeerContent.nothing]

theorem contentOf_silentlyTaken (kind : kindMeaning f.cls f.kind = .silentlyTaken) :
    contentOf f = ⟨none, none, none, none⟩ := by
  simp [contentOf, kind, PeerContent.nothing]

end

theorem kindMeaning_reply (cls : FrameClass) : kindMeaning cls 255#8 = .silentlyTaken := by
  cases cls <;> rfl

theorem fireStateOfCode_code (x : FireState) : fireStateOfCode (BitVec.ofNat 8 (fireStateCode x)) = some x := by
  cases x <;> rfl

theorem ductGroupOfByte_ofNat {n : Nat} (range : n ≤ 15) : ductGroupOfByte (BitVec.ofNat 8 n) = some n := by
  have whole : (BitVec.ofNat 8 n).toNat = n := by rw [BitVec.toNat_ofNat]; omega
  simp [ductGroupOfByte, whole, range]

/-! ## Numbers and flags as bytes (R160) -/

theorem bytesOfNumber_two (n : Nat) : bytesOfNumber 2 n = [BitVec.ofNat 8 (n / 256), BitVec.ofNat 8 n] := by
  simp [bytesOfNumber]

theorem bytesOfNumber_four (n : Nat) :
    bytesOfNumber 4 n
      = [BitVec.ofNat 8 (n / 16777216), BitVec.ofNat 8 (n / 65536), BitVec.ofNat 8 (n / 256), BitVec.ofNat 8 n] := by
  simp [bytesOfNumber]

theorem bytesOfNumber_three_toNat (x : BitVec 24) :
    bytesOfNumber 3 x.toNat = [x.extractLsb' 16 8, x.extractLsb' 8 8, x.extractLsb' 0 8] := by
  simp [bytesOfNumber, BitVec.extractLsb', Nat.shiftRight_eq_div_pow]

/-- The four bytes of a 32-bit number, put together again, are the number. -/
theorem numberOfBytes_long {n : Nat} (range : n ≤ 4294967295) : numberOfBytes (bytesOfNumber 4 n) = n := by
  simp only [bytesOfNumber_four, numberOfBytes, List.foldl_cons, List.foldl_nil, BitVec.toNat_ofNat]
  omega

theorem numberOfFlags_eq_sum_from (bits : List Bool) (k : Nat) :
    ((bits.zipIdx k).map fun b => if b.1 then 2 ^ b.2 else 0).sum = 2 ^ k * numberOfFlags bits := by
  induction bits generalizing k with
  | nil => simp [numberOfFlags]
  | cons b bits ih =>
    simp only [List.zipIdx_cons, List.map_cons, List.sum_cons, ih, numberOfFlags]
    cases b <;> simp <;> ring

/-- Each flag that is set adds the power of two of its place. -/
theorem numberOfFlags_eq_sum (bits : List Bool) :
    numberOfFlags bits = (bits.zipIdx.map fun b => if b.1 then 2 ^ b.2 else 0).sum := by
  simp [numberOfFlags_eq_sum_from]

/-- The bit of a flag in the number of a set of flags. -/
theorem numberOfFlags_testBit (bits : List Bool) (n : Nat) : (numberOfFlags bits).testBit n = bits.getD n false := by
  induction bits generalizing n with
  | nil => simp [numberOfFlags]
  | cons b bits ih =>
    cases n with
    | zero => cases b <;> simp [numberOfFlags, Nat.testBit_zero]
    | succ n =>
      have half : (numberOfFlags (b :: bits)) / 2 = numberOfFlags bits := by
        cases b <;> simp [numberOfFlags]
        omega
      rw [Nat.testBit_succ, half, ih]; rfl

/-! ## Coded fields as bytes (Tables 9-4 and 10-3) -/

theorem figureCode_eq (m : Option Nat) : figureCode m = m.getD 65535 := by cases m <;> rfl

theorem occupancy_byte (o : Occupancy) :
    BitVec.ofNat 8 (occupancyCode o) = match o with | .staffed => 0#8 | .unstaffed => 1#8 := by
  cases o <;> rfl

theorem noticeType_byte (t : NoticeType) : BitVec.ofNat 8 (noticeTypeCode t) = match t with
    | .outerUnlocked => 0#8 | .innerUnlocked => 1#8 | .complete => 2#8 | .abandoned => 3#8 := by
  cases t <;> rfl

theorem direction_byte (d : Direction) :
    BitVec.ofNat 8 (directionCode d) = match d with | .out => 0#8 | .inward => 1#8 := by
  cases d <;> rfl

theorem cause_byte (c : Option Cause) : BitVec.ofNat 8 ((c.map causeCode).getD 255) = match c with
    | none => 255#8 | some .sequence => 0#8 | some .timeout => 1#8 | some .withdrawn => 2#8
    | some .fire => 3#8 | some .forcedLeaf => 4#8 | some .windowExpired => 5#8 | some .mismatch => 6#8 := by
  rcases c with _ | c
  · rfl
  · cases c <;> rfl

/-! ## Lengths of the payloads (Table 9-4) -/

theorem FireContent.bytes_length (c : FireContent) : c.bytes.length = 10 := by
  simp [FireContent.bytes, bytesOfNumber]

theorem StatusContent.bytes_length (c : StatusContent) : c.bytes.length = 24 := by
  simp [StatusContent.bytes, bytesOfNumber]

theorem NoticeContent.bytes_length (c : NoticeContent) : c.bytes.length = 6 := by
  simp [NoticeContent.bytes, bytesOfNumber]

theorem StatusContent.bytes_minute {c : StatusContent} (range : c.minute ≤ 4294967295) :
    payloadField c.bytes 0 4 = c.minute := by
  have first : c.bytes.take 4 = bytesOfNumber 4 c.minute := by simp [StatusContent.bytes, bytesOfNumber]
  rw [payloadField, List.drop_zero, first, numberOfBytes_long range]

theorem StatusContent.bytes_fire (c : StatusContent) :
    c.bytes.getD 4 0#8 = BitVec.ofNat 8 (fireStateCode c.fire) := by
  simp [StatusContent.bytes, bytesOfNumber]

/-! ## Each kind of frame, received and read -/

section
variable (own dest : Station) (other : Option Station)

/-- Another station receives a frame with this body as a valid one with this payload, and reads this content from it. -/
def ReadsBack (cls : FrameClass) (body : Body) (payload : List Byte) (content : PeerContent) : Prop :=
  ∃ f, (newFrame cls dest body).asReceived own = some f ∧ frameValid f other = true ∧ f.kind = body.kind
    ∧ f.payload = payload ∧ contentOf f = content

variable {own other} (sender : validStation own = true) (foreign : other ≠ some own)
include sender foreign

theorem fireState_readsBack (c : FireContent) :
    ReadsBack own dest other .fire (.fireState c) c.bytes ⟨none, none, some c.state, none⟩ := by
  obtain ⟨f, received, valid, cls, kind, payload⟩ := newFrame_received (cls := .fire) (dest := dest)
    (body := .fireState c) rfl (c.bytes_length.le.trans (by decide)) sender foreign
  refine ⟨f, received, valid, kind, payload, ?_⟩
  rw [contentOf_fireState (by rw [cls, kind]; rfl) (payload ▸ c.bytes_length), payload, ← fireStateOfCode_code]
  rfl

theorem climate_readsBack (c : ClimateContent) (group : c.ductGroup ≤ 15) (demand : c.effective ≤ 255) :
    ReadsBack own dest other .routine (.climate c) c.bytes ⟨some c.ductGroup, some c.effective, none, none⟩ := by
  obtain ⟨f, received, valid, cls, kind, payload⟩ := newFrame_received (cls := .routine) (dest := dest)
    (body := .climate c) rfl (by simp [ClimateContent.bytes]) sender foreign
  have whole : (BitVec.ofNat 8 c.effective).toNat = c.effective := by rw [BitVec.toNat_ofNat]; omega
  refine ⟨f, received, valid, kind, payload, ?_⟩
  rw [contentOf_climate (by rw [cls, kind]; rfl) (payload ▸ rfl), payload]
  simp [ClimateContent.bytes, ductGroupOfByte_ofNat group, whole]

theorem status_readsBack (c : StatusContent) (range : c.minute ≤ 4294967295) :
    ReadsBack own dest other .routine (.status c) c.bytes ⟨none, none, some c.fire, some c.minute⟩ := by
  obtain ⟨f, received, valid, cls, kind, payload⟩ := newFrame_received (cls := .routine) (dest := dest)
    (body := .status c) rfl (c.bytes_length.le.trans (by decide)) sender foreign
  refine ⟨f, received, valid, kind, payload, ?_⟩
  rw [contentOf_status (by rw [cls, kind]; rfl) (payload ▸ c.bytes_length), payload, StatusContent.bytes_fire,
    StatusContent.bytes_minute range, fireStateOfCode_code]

theorem notice_readsBack (c : NoticeContent) :
    ReadsBack own dest other .handover (.notice c) c.bytes ⟨none, none, none, none⟩ := by
  obtain ⟨f, received, valid, cls, kind, payload⟩ := newFrame_received (cls := .handover) (dest := dest)
    (body := .notice c) rfl (c.bytes_length.le.trans (by decide)) sender foreign
  exact ⟨f, received, valid, kind, payload, contentOf_silentlyTaken (by rw [cls, kind]; rfl)⟩

theorem emptyReply_readsBack (cls : FrameClass) (kind : Byte) (status : Status) :
    ReadsBack own dest other cls (.reply ⟨kind, status, .nothing⟩) [kind, BitVec.ofNat 8 (statusCode status)]
      ⟨none, none, none, none⟩ := by
  obtain ⟨f, received, valid, _, code, payload⟩ := newFrame_received (cls := cls) (dest := dest)
    (body := .reply ⟨kind, status, .nothing⟩) rfl (by simp) sender foreign
  exact ⟨f, received, valid, code, payload, contentOf_silentlyTaken (by rw [code]; exact kindMeaning_reply _)⟩

end

/-! ## What STATUS and FIRE_STATE hold (R61, R109, R178, R179) -/

section
variable (p : Part)

theorem Part.faultSet_getLsbD {n : Nat} (lt : n < 24) : p.faultSet.getLsbD n = p.faultFlags.getD n false := by
  rw [Part.faultSet, BitVec.getLsbD_ofNat, numberOfFlags_testBit]
  simp [lt]

theorem Part.faultSet_unused {n : Nat} (above : 20 ≤ n) : p.faultSet.getLsbD n = false := by
  rw [Part.faultSet, BitVec.getLsbD_ofNat, numberOfFlags_testBit]
  simp [Part.faultFlags, above]

theorem Part.reportedLatches_getLsbD (i : InputId) :
    p.reportedLatches.getLsbD (inputNumber i)
      = ((p.inputs.get i).latch && p.startUp.settings.reportEnable.getLsbD (inputNumber i)) := by
  rw [Part.reportedLatches, BitVec.getLsbD_ofNat, numberOfFlags_testBit]
  cases i <;> rfl

/-- The figures of UNSTAFFED are rounded down to 50 cg/m³ (R19). -/
theorem figureAt_unstaffed (m : Option Nat) : figureAt .unstaffed m = m.map fun n => n - n % 50 := by
  refine congrArg (m.map ·) (funext fun n => ?_)
  omega

theorem countRecords_eq (q : CustodyRecord → Bool) (rs : List CustodyRecord) : countRecords q rs = rs.countP q :=
  List.countP_eq_length_filter.symm

/-- A bit of the fault set, from the place of its flag in Table 10-4. -/
theorem Part.fault_iff {n : Nat} {flag : Bool} {holds : Prop} (place : p.faultFlags[n]? = some flag)
    (meaning : flag = true ↔ holds) : p.faultSet.getLsbD n = true ↔ holds := by
  have used : n < 24 := by
    have := (List.getElem?_eq_some_iff.1 place).1
    simp only [Part.faultFlags, List.length_cons, List.length_nil] at this
    omega
  rw [p.faultSet_getLsbD used, List.getD_eq_getElem?_getD, place]
  exact meaning

theorem Part.groupLost_iff (g : Group) : p.groupLost g = true ↔ (p.moisture.groups.get g).freshness = .lost := by
  simp [Part.groupLost]

theorem Part.storeLost_iff : p.storeLost = true ↔
    (p.moisture.groups.get .g0).freshness = .lost ∧ (p.moisture.groups.get .g1).freshness = .lost
      ∧ (p.moisture.groups.get .g2).freshness = .lost := by
  simp [Part.storeLost, Part.groupLost_iff, and_assoc]

theorem Part.neighbourSilent_iff : p.neighbourSilent = true ↔ ∃ w ∈ p.peers.watches, w.silent = true := by
  simp [Part.neighbourSilent]

end

/-- Settles O52: each kind of frame reads back (`ReadsBack`), its bytes are the layout of its table, and each bit of the
fault set is its flag's place in `Part.faultFlags`. -/
theorem broadcastsParseBack : Obligations.BroadcastsParseBack := by
  unfold Obligations.BroadcastsParseBack
  intro byte word long flags fire path hatch detector
  have word_eq (n : Nat) : word n = bytesOfNumber 2 n := (bytesOfNumber_two n).symm
  have long_eq (n : Nat) : long n = bytesOfNumber 4 n := (bytesOfNumber_four n).symm
  have flags_eq (bits : List Bool) : flags bits = BitVec.ofNat 8 (numberOfFlags bits) :=
    congrArg (BitVec.ofNat 8) (numberOfFlags_eq_sum bits).symm
  have fire_eq (x : FireState) : fire x = fireStateCode x := by cases x <;> rfl
  have path_eq (x : AirPath) : path x = airPathCode x := by cases x <;> rfl
  have hatch_eq (x : HatchState) : hatch x = hatchStateCode x := by cases x <;> rfl
  have detector_eq (x : Option Detector) : detector x = detectorCode x := by
    rcases x with _ | _ | _ <;> rfl
  refine ⟨fun own dest other sender foreign => ⟨fun c => ?_, fun c group demand => ?_, fun c range => ?_, fun c => ?_,
    fun cls kind status => ?_⟩, fun p => ?_⟩
  · obtain ⟨f, received, valid, _, payload, content⟩ := fireState_readsBack dest sender foreign c
    refine ⟨f, received, valid, content, payload.trans ?_⟩
    rw [long_eq, flags_eq, fire_eq, detector_eq]
    rfl
  · obtain ⟨f, received, valid, _, payload, content⟩ := climate_readsBack dest sender foreign c group demand
    refine ⟨f, received, valid, payload.trans ?_, content⟩
    rw [path_eq]
    rfl
  · obtain ⟨f, received, valid, _, payload, content⟩ := status_readsBack dest sender foreign c range
    refine ⟨f, received, valid, content, payload ▸ c.bytes_length, payload.trans ?_⟩
    rw [← bytesOfNumber_three_toNat, long_eq, word_eq, word_eq, word_eq, flags_eq, fire_eq, path_eq, hatch_eq,
      ← figureCode_eq, ← figureCode_eq, StatusContent.bytes, occupancy_byte]
    rfl
  · obtain ⟨f, received, valid, _, payload, content⟩ := notice_readsBack dest sender foreign c
    refine ⟨f, received, valid, content, payload.trans ?_⟩
    rw [word_eq, hatch_eq, NoticeContent.bytes, noticeType_byte, direction_byte, cause_byte] <;> rfl
  · obtain ⟨f, received, valid, code, payload, content⟩ := emptyReply_readsBack dest sender foreign cls kind status
    exact ⟨f, received, valid, code, payload, content⟩
  · have figure_eq (m : Option Nat) : figureAt p.occupancy m = match p.occupancy with
        | .staffed => m | .unstaffed => m.map fun n => n - n % 50 := by
      cases p.occupancy with
      | staffed => rfl
      | unstaffed => exact figureAt_unstaffed m
    refine ⟨rfl, rfl, rfl, figure_eq _, figure_eq _, rfl, rfl, rfl, rfl, rfl, rfl, ?_, ?_, ?_,
      p.reportedLatches_getLsbD, p.fault_iff rfl .rfl, p.fault_iff rfl .rfl, p.fault_iff rfl .rfl,
      p.fault_iff rfl .rfl, p.fault_iff rfl .rfl, p.fault_iff rfl .rfl, p.fault_iff rfl .rfl,
      p.fault_iff rfl (p.groupLost_iff _), p.fault_iff rfl (p.groupLost_iff _), p.fault_iff rfl (p.groupLost_iff _),
      p.fault_iff rfl (p.groupLost_iff _), p.fault_iff rfl p.storeLost_iff, p.fault_iff rfl .rfl,
      p.fault_iff rfl .rfl, p.fault_iff rfl .rfl, p.fault_iff rfl .rfl, p.fault_iff rfl .rfl,
      p.fault_iff rfl p.neighbourSilent_iff, p.fault_iff rfl .rfl, p.fault_iff rfl .rfl,
      fun n above => p.faultSet_unused above, rfl, ?_, fun pre => if_pos pre, fun other => if_neg other,
      fun quiet => if_pos quiet, fun loud => if_neg loud, rfl, rfl, rfl, rfl, rfl⟩
    · refine (countRecords_eq _ _).trans (congrArg (p.custody.records.countP ·) (funext fun r => ?_))
      rw [Bool.eq_iff_iff]
      simp
    · exact countRecords_eq _ _
    · exact countRecords_eq _ _
    · simp [Part.fireContent, and_comm]

end Sys2Proof.Machine
end

section
/-! PROOF. The hand-off of a scan, said once: the governor's evaluation, the dose, the tolerance run, the completion of a
purge, and the frames they leave (R4, R33, R35, R134, R135, R137, R177). -/

namespace Sys2Proof.Machine

/-! ## Store and chamber moisture as one pair -/

/-- Chamber and store moisture of a scan, when both are available. -/
def scanFigures (store chamber : Option Nat) : Option (Nat × Nat) :=
  chamber.bind fun c => store.map fun m => (c, m)

/-- Chamber and store moisture are available and lie within the purge tolerance (R134). -/
def figuresNear (tolerance : Nat) (figures : Option (Nat × Nat)) : Bool :=
  figures.any fun f => decide (f.1 ≤ f.2 + tolerance ∧ f.2 ≤ f.1 + tolerance)

theorem withinTolerance_eq (tolerance : Nat) (store chamber : Option Nat) :
    withinTolerance tolerance store chamber = figuresNear tolerance (scanFigures store chamber) := by
  cases chamber <;> cases store <;> simp [withinTolerance, figuresNear, scanFigures, Nat.add_comm]

/-- The dose of an inbound batch after a hand-off (R137). -/
def HatchContext.doseAfter (h : HatchContext) (figures : Option (Nat × Nat)) : Nat :=
  if h.holdsInbound then figures.elim h.dose fun f => min maxDose (h.dose + (f.1 - f.2)) else h.dose

variable (p : Part)

/-- A hand-off at the dose raises DOSE_SATURATED where the dose reaches its top, and changes nothing else (R137). -/
theorem Part.accumulateDose_eq (store chamber : Option Nat) :
    p.accumulateDose store chamber
      = (p.withHatch { p.hatch with dose := p.hatch.doseAfter (scanFigures store chamber) }).withExceptions
          (if p.hatch.dose < maxDose ∧ p.hatch.doseAfter (scanFigures store chamber) = maxDose then
            p.exceptions.raise p.settings.capture ⟨.doseSaturated, p.minute, .batch (p.hatch.batch.getD 0)⟩
          else p.exceptions) := by
  have still (dose : p.hatch.doseAfter (scanFigures store chamber) = p.hatch.dose) :
      p = (p.withHatch { p.hatch with dose := p.hatch.doseAfter (scanFigures store chamber) }).withExceptions
        (if p.hatch.dose < maxDose ∧ p.hatch.doseAfter (scanFigures store chamber) = maxDose then
          p.exceptions.raise p.settings.capture ⟨.doseSaturated, p.minute, .batch (p.hatch.batch.getD 0)⟩
        else p.exceptions) := by
    rw [if_neg (by omega), dose]
    rfl
  unfold Part.accumulateDose
  cases inbound : p.hatch.holdsInbound with
  | false => exact still (by simp [HatchContext.doseAfter, inbound])
  | true =>
    match chamber, store with
    | none, _ => exact still (by simp [HatchContext.doseAfter, scanFigures])
    | some _, none => exact still (by simp [HatchContext.doseAfter, scanFigures])
    | some c, some m =>
      have dose : p.hatch.doseAfter (scanFigures (some m) (some c)) = min maxDose (p.hatch.dose + (c - m)) := by
        simp [HatchContext.doseAfter, scanFigures, inbound]
      rw [dose]
      by_cases top : p.hatch.dose < maxDose ∧ min maxDose (p.hatch.dose + (c - m)) = maxDose
      · simp only [if_true, if_pos top]; rfl
      · simp only [if_true, if_neg top]; rfl

/-! ## The purge at a hand-off (R134, R135) -/

/-- The hand-off finds a purge in air path PURGE with both figures within the tolerance (R134). -/
def Part.purgeMeets (store chamber : Option Nat) : Bool :=
  p.hatch.state == .purging && p.climate.airPath == .purge && withinTolerance p.settings.purgeTolerance store chamber

/-- The tolerance run after a hand-off that meets the purge's test, or does not (R134). -/
def HatchContext.runAfter (h : HatchContext) (meets : Bool) : Nat :=
  if h.state = .purging then if meets then min 3 (h.toleranceRun + 1) else 0 else h.toleranceRun

/-- A hand-off sets the tolerance run of a purge, which completes where the run reaches 3 (R134, log 14). -/
theorem Part.toleranceHandOff_eq (store chamber : Option Nat) :
    p.toleranceHandOff store chamber =
      if p.purgeMeets store chamber && decide (2 ≤ p.hatch.toleranceRun) then
        (p.withHatch { p.hatch with toleranceRun := p.hatch.runAfter true }).completePurge false
      else p.withHatch { p.hatch with toleranceRun := p.hatch.runAfter (p.purgeMeets store chamber) } := by
  unfold Part.toleranceHandOff
  by_cases purging : p.hatch.state = .purging
  · rw [if_pos purging]
    by_cases near : p.climate.airPath = .purge ∧ withinTolerance p.settings.purgeTolerance store chamber = true
    · have meets : p.purgeMeets store chamber = true := by simp [Part.purgeMeets, purging, near]
      have after : p.hatch.runAfter true = min toleranceRunNeeded (p.hatch.toleranceRun + 1) := by
        simp [HatchContext.runAfter, purging, toleranceRunNeeded]
      rw [if_pos near, meets, after, Bool.true_and]
      by_cases run : 2 ≤ p.hatch.toleranceRun
      · have reached : toleranceRunNeeded ≤ min toleranceRunNeeded (p.hatch.toleranceRun + 1) := by
          unfold toleranceRunNeeded; omega
        simp only [if_pos reached, decide_eq_true run, if_true]
      · have short : ¬ toleranceRunNeeded ≤ min toleranceRunNeeded (p.hatch.toleranceRun + 1) := by
          unfold toleranceRunNeeded; omega
        simp only [if_neg short, decide_eq_false run, Bool.false_eq_true, if_false]
    · have misses : p.purgeMeets store chamber = false := by
        rw [← Bool.not_eq_true]
        simpa [Part.purgeMeets, purging] using near
      simp [near, misses, HatchContext.runAfter, purging]
  · have misses : p.purgeMeets store chamber = false := by simp [Part.purgeMeets, purging]
    simp only [if_neg purging, misses, Bool.false_and, Bool.false_eq_true, if_false, HatchContext.runAfter]
    rfl

/-! ## The hand-off as a whole -/

/-- The part after the climate governor's evaluation on the store moisture of the scan (R33, R40). -/
def Part.scanEvaluated : Part :=
  (p.withClimate { p.climate with demand := demandLaw p.settings p.moisture.store }).resolveAirPath

/-- The hand-off finds a purge whose request the air path serves, with both figures within the tolerance (R134). -/
def Part.scanMeets : Bool :=
  p.hatch.state == .purging && p.hatch.purgeRequest && !p.shutCondition
    && figuresNear p.settings.purgeTolerance (scanFigures p.moisture.store p.moisture.chamber)

theorem Part.scanMeets_iff : p.scanMeets = true ↔
    (p.hatch.state = .purging ∧ p.hatch.purgeRequest = true ∧ p.shutCondition = false)
      ∧ figuresNear p.settings.purgeTolerance (scanFigures p.moisture.store p.moisture.chamber) = true := by
  simp [Part.scanMeets, and_assoc]

/-- The hand-off completes the purge: its tolerance run reaches 3 (R134). -/
def Part.scanEnds : Bool := p.scanMeets && decide (2 ≤ p.hatch.toleranceRun)

/-- The hatch context after the dose (R18, R137). -/
def Part.scanDosed : HatchContext :=
  { p.hatch with
    handedStore := p.moisture.store, handedChamber := p.moisture.chamber
    dose := p.hatch.doseAfter (scanFigures p.moisture.store p.moisture.chamber) }

/-- The hatch context after the hand-off, before a purge that completes (R18, R134, R137). -/
def Part.scanHatch : HatchContext := { p.scanDosed with toleranceRun := p.hatch.runAfter p.scanMeets }

/-- The exceptions after the hand-off (R137). -/
def Part.scanExceptions : ExceptionStore :=
  if p.hatch.dose < maxDose ∧ p.hatch.doseAfter (scanFigures p.moisture.store p.moisture.chamber) = maxDose then
    p.exceptions.raise p.settings.capture ⟨.doseSaturated, p.minute, .batch (p.hatch.batch.getD 0)⟩
  else p.exceptions

/-- The part after both receivers of the hand-off, before a purge that completes and STATUS. -/
def Part.scanTaken : Part := (p.scanEvaluated.handClimate.withHatch p.scanHatch).withExceptions p.scanExceptions

@[simp] theorem Part.scanEvaluated_frame :
    p.scanEvaluated.moisture = p.moisture ∧ p.scanEvaluated.substitution = p.substitution ∧
    p.scanEvaluated.loops = p.loops ∧ p.scanEvaluated.inputs = p.inputs ∧ p.scanEvaluated.fire = p.fire ∧
    p.scanEvaluated.custody = p.custody ∧ p.scanEvaluated.hatch = p.hatch ∧
    p.scanEvaluated.exceptions = p.exceptions ∧ p.scanEvaluated.peers = p.peers ∧
    p.scanEvaluated.clock = p.clock ∧ p.scanEvaluated.occupancy = p.occupancy ∧
    p.scanEvaluated.startUp = p.startUp ∧ p.scanEvaluated.freeDraws = p.freeDraws := by
  simp [Part.scanEvaluated]

theorem Part.scanEvaluated_airPath :
    p.scanEvaluated.climate.airPath = .purge ↔ p.shutCondition = false ∧ p.hatch.purgeRequest = true := by
  unfold Part.scanEvaluated
  rw [Part.resolveAirPath_airPath, Part.airPathChoice_purge_iff]
  rfl

/-- The dose at the hand-off, after the climate governor. -/
theorem Part.scanDosed_eq :
    (p.scanEvaluated.handClimate.withHatch { p.scanEvaluated.handClimate.hatch with
        handedStore := p.moisture.store, handedChamber := p.moisture.chamber }).accumulateDose p.moisture.store
      p.moisture.chamber
      = (p.scanEvaluated.handClimate.withHatch p.scanDosed).withExceptions p.scanExceptions := by
  rw [Part.accumulateDose_eq]
  have hatch : p.scanEvaluated.handClimate.hatch = p.hatch := by simp
  simp only [Part.withHatch_hatch, Part.withHatch_exceptions, Part.settings_eq, Part.minute_eq, hatch,
    Part.withHatch_startUp, Part.withHatch_clock, Part.handClimate_frame, Part.scanEvaluated_frame]
  rfl

theorem Part.scanMeets_eq :
    ((p.scanEvaluated.handClimate.withHatch p.scanDosed).withExceptions p.scanExceptions).purgeMeets p.moisture.store
      p.moisture.chamber = p.scanMeets := by
  have path : (p.scanEvaluated.climate.airPath == .purge) = (p.hatch.purgeRequest && !p.shutCondition) := by
    rw [Bool.eq_iff_iff, beq_iff_eq, Part.scanEvaluated_airPath]
    simp [and_comm]
  simp [Part.purgeMeets, Part.scanMeets, Part.scanDosed, path, withinTolerance_eq, Part.settings_eq, Bool.and_assoc]

/-- A hand-off is the evaluation with CLIMATE, the dose, the tolerance run, the purge where its test is fulfilled, and
STATUS, in this order (R4, log 9, log 14). -/
theorem Part.handScan_eq :
    p.handScan = (if p.scanEnds then p.scanTaken.completePurge false else p.scanTaken).handStatus := by
  have climate : p.climateHandOff p.moisture.store = p.scanEvaluated.handClimate := rfl
  unfold Part.handScan Part.hatchHandOff
  rw [climate, Part.scanDosed_eq, Part.toleranceHandOff_eq, Part.scanMeets_eq]
  cases meets : p.scanMeets
  · simp only [Part.scanEnds, Part.scanTaken, Part.scanHatch, meets, Bool.false_and, Bool.false_eq_true, if_false]
    rfl
  · simp only [Part.scanEnds, Part.scanTaken, Part.scanHatch, meets, Bool.true_and]
    rfl

@[simp] theorem Part.scanTaken_frame :
    p.scanTaken.moisture = p.moisture ∧ p.scanTaken.substitution = p.substitution ∧
    p.scanTaken.climate = p.scanEvaluated.climate ∧ p.scanTaken.loops = p.loops ∧ p.scanTaken.inputs = p.inputs ∧
    p.scanTaken.fire = p.fire ∧ p.scanTaken.custody = p.custody ∧ p.scanTaken.hatch = p.scanHatch ∧
    p.scanTaken.exceptions = p.scanExceptions ∧ p.scanTaken.peers = p.peers ∧ p.scanTaken.clock = p.clock ∧
    p.scanTaken.outputs = p.scanEvaluated.outputs ∧ p.scanTaken.occupancy = p.occupancy ∧
    p.scanTaken.startUp = p.startUp ∧ p.scanTaken.freeDraws = p.freeDraws := by
  simp [Part.scanTaken]

theorem Part.scanEvaluated_bus : p.scanEvaluated.bus = p.bus.faultShown p.climate.damperFault p.scanEvaluated :=
  Part.resolveAirPath_bus _

theorem Part.scanEvaluated_demand : p.scanEvaluated.climate.demand = demandLaw p.settings p.moisture.store :=
  Part.resolveAirPath_demand _

theorem Part.scanTaken_bus :
    p.scanTaken.bus = (p.bus.faultShown p.climate.damperFault p.scanEvaluated).handed
      (newFrame .routine 63#6 (.climate p.scanEvaluated.climateContent)) := by
  rw [← Part.scanEvaluated_bus]
  exact p.scanEvaluated.handClimate_bus

theorem Part.handStatus_bus :
    p.handStatus.bus = p.bus.handed (newFrame .routine 63#6 (.status p.handStatus.statusContent)) := by
  have content : p.handStatus.statusContent = p.statusContent := by
    rw [Part.handStatus, Part.handFrame_eq]
    rfl
  rw [content]
  exact p.handFrame_bus _

/-! ## A leaf unlocked with its notices (R114, R122) -/

section
variable {p} {l : Leaf} (t : NoticeType) (stations : List Station)

theorem Part.unlockWithNotice_withheld (held : p.canUnlock l = false) : p.unlockWithNotice l t stations = p := by
  simp [Part.unlockWithNotice, held]

variable (free : p.canUnlock l = true)
include free

theorem Part.unlockWithNotice_eq : p.unlockWithNotice l t stations
    = (p.unlock l).handNotices stations t p.hatch.direction p.hatch.batch none := by
  simp [Part.unlockWithNotice, free]

theorem Part.unlockWithNotice_hatch : (p.unlockWithNotice l t stations).hatch =
    { p.hatch with locks := p.hatch.locks.set l true, windows := p.hatch.windows.set l (some (p.now + windowTime)) } := by
  simp [Part.unlockWithNotice_eq t stations free, Part.unlock_hatch, free]

theorem Part.unlockWithNotice_outputs : (p.unlockWithNotice l t stations).outputs =
    p.outputs.set (lockOutput l) ((p.outputs.get (lockOutput l)).take
      (outputFitted p.settings (outputNumber (lockOutput l))) p.now .drivenOn) := by
  simp [Part.unlockWithNotice_eq t stations free, Part.unlock, free, Part.setLock, Part.requestOutput,
    Part.settings_eq, Part.now_eq, onOff]

theorem Part.unlockWithNotice_bus : (p.unlockWithNotice l t stations).bus =
    p.bus.notified stations t (p.hatch.direction.getD .out) (p.hatch.batch.getD 0) p.hatch.state none := by
  simp [Part.unlockWithNotice_eq t stations free, Part.handNotices_eq, Part.unlock_hatch, free]

end

theorem Part.unlockWithNotice_holdsReply (h : p.bus.holdsReply 8) (l : Leaf) (t : NoticeType)
    (stations : List Station) : (p.unlockWithNotice l t stations).bus.holdsReply 8 := by
  cases free : p.canUnlock l
  · rwa [Part.unlockWithNotice_withheld t stations free]
  · rw [Part.unlockWithNotice_bus t stations free]
    exact h.notified _ _ _ _ _ _

/-! ## A purge that completes (R135) -/

/-- The part after a purge's request has ended with its evaluation, in INNER_RELEASE, before the unlock. -/
def Part.purgeReleased : Part :=
  (p.withHatch { p.hatch with purgeRequest := false }).evaluate.setHatchState .innerRelease

@[simp] theorem Part.purgeReleased_frame :
    p.purgeReleased.moisture = p.moisture ∧ p.purgeReleased.loops = p.loops ∧ p.purgeReleased.inputs = p.inputs ∧
    p.purgeReleased.fire = p.fire ∧ p.purgeReleased.exceptions = p.exceptions ∧ p.purgeReleased.peers = p.peers ∧
    p.purgeReleased.clock = p.clock ∧ p.purgeReleased.startUp = p.startUp := by
  simp [Part.purgeReleased]

theorem Part.completePurge_requested (request : p.hatch.purgeRequest = true) :
    p.completePurge false = p.purgeReleased.unlockWithNotice .inner .innerUnlocked p.hatch.participants := by
  simp [Part.completePurge, Part.endPurge, request, Part.purgeReleased]

theorem Part.purgeReleased_climate :
    p.purgeReleased.climate = (p.withHatch { p.hatch with purgeRequest := false }).resolveAirPath.climate := by
  simp [Part.purgeReleased, Part.evaluate_climate]

theorem Part.purgeReleased_outputs :
    p.purgeReleased.outputs = (p.withHatch { p.hatch with purgeRequest := false }).resolveAirPath.outputs := by
  simp [Part.purgeReleased, Part.evaluate_outputs]

theorem Part.purgeReleased_hatch :
    p.purgeReleased.hatch =
      { p.hatch with purgeRequest := false, state := .innerRelease, backupState := .innerRelease } := by
  simp [Part.purgeReleased, Part.setHatchState]

theorem Part.purgeReleased_bus : p.purgeReleased.bus = p.bus.evaluated p p.purgeReleased := by
  have bus : p.purgeReleased.bus = (p.withHatch { p.hatch with purgeRequest := false }).evaluate.bus := by
    simp [Part.purgeReleased]
  rw [bus, Part.evaluate_bus]
  exact BusPort.evaluated_congr _ rfl (by simp [Part.purgeReleased]) (by simp) (by simp) (by simp)

/-! ## The hand-off of a scan that completes a purge -/

section
variable {p} (ends : p.scanEnds = true)
include ends

theorem Part.scanEnds_serves :
    p.hatch.state = .purging ∧ p.hatch.purgeRequest = true ∧ p.shutCondition = false := by
  obtain ⟨meets, _⟩ : p.scanMeets = true ∧ 2 ≤ p.hatch.toleranceRun := by simpa [Part.scanEnds] using ends
  exact (p.scanMeets_iff.1 meets).1

theorem Part.scanEnds_hatch : p.scanHatch = { p.scanDosed with toleranceRun := 3 } := by
  obtain ⟨meets, run⟩ : p.scanMeets = true ∧ 2 ≤ p.hatch.toleranceRun := by simpa [Part.scanEnds] using ends
  have three : min 3 (p.hatch.toleranceRun + 1) = 3 := by omega
  simp [Part.scanHatch, HatchContext.runAfter, (Part.scanEnds_serves ends).1, meets, three]

theorem Part.handScan_ends :
    p.handScan
      = (p.scanTaken.purgeReleased.unlockWithNotice .inner .innerUnlocked p.hatch.participants).handStatus := by
  obtain ⟨_, served, _⟩ := Part.scanEnds_serves ends
  have request : p.scanTaken.hatch.purgeRequest = true := by simpa [Part.scanHatch, Part.scanDosed] using served
  rw [Part.handScan_eq, if_pos ends, Part.completePurge_requested _ request]
  congr 2

/-- The evaluation of a hand-off that serves a purge changes no DAMPER_FAULT, so CLIMATE is its only frame. -/
theorem Part.scanTaken_bus_ends :
    p.scanTaken.bus = p.bus.handed (newFrame .routine 63#6 (.climate p.scanEvaluated.climateContent)) := by
  obtain ⟨_, request, unshut⟩ := Part.scanEnds_serves ends
  have fault : p.scanEvaluated.climate.damperFault = p.climate.damperFault :=
    Part.resolveAirPath_purge_fault (p.withClimate _) unshut request
  rw [Part.scanTaken_bus, BusPort.faultShown, if_pos fault]

/-- The inner leaf is unlocked where the outer lock request is off and no start tally is awaited (R114, R141). -/
theorem Part.purgeReleased_canUnlock :
    p.scanTaken.purgeReleased.canUnlock .inner = true ↔ p.hatch.locks.outer = false ∧ p.hatch.startTally = .no := by
  have unsealed : p.fire.state.sealed = false := by
    obtain ⟨_, _, unshut⟩ := Part.scanEnds_serves ends
    simp_all [Part.shutCondition]
  simp [Part.canUnlock, Part.purgeReleased_hatch, Part.scanHatch, Part.scanDosed, unsealed, otherLeaf, PerLeaf.get]

end

/-- A hand-off that completes no purge. -/
theorem Part.handScan_continues (goes : p.scanEnds = false) : p.handScan = p.scanTaken.handStatus := by
  simp [Part.handScan_eq, goes]

/-- The frames of a hand-off leave the marked reply of a pending restart in the queue. -/
theorem Part.handScan_holdsReply (h : p.bus.holdsReply 6) : p.handScan.bus.holdsReply 8 := by
  cases ends : p.scanEnds
  · rw [Part.handScan_continues p ends, Part.handStatus_bus, Part.scanTaken_bus]
    exact ((h.faultShown (by decide) _ _).handed (by decide) _).handed_notFire (by simp [newFrame])
  · rw [Part.handScan_ends ends, Part.handStatus_bus]
    refine BusPort.holdsReply.handed_notFire (Part.unlockWithNotice_holdsReply _ ?_ _ _ _) (by simp [newFrame])
    rw [Part.purgeReleased_bus, Part.scanTaken_bus_ends ends]
    exact (h.handed (by decide) _).evaluated _ _

end Sys2Proof.Machine
end

section
/-! PROOF. The outcome of a channel: marked in its scan, and, where it is the last, the completion of the scan (R2, R4 to
R7, R11 to R13). -/

namespace Sys2Proof.Machine

/-- The part with a channel's record after its outcome, marked in the scan (R2, R7). -/
def Part.marked (p : Part) (x : Scan) (g : Group) (pl : Place) (record : Channel) : Part :=
  p.withMoisture (p.moisture.withOutcome x g pl record)

/-- What an outcome makes of the part: it is marked, and the scan completes where it was the last (R2, R4). -/
def Part.outcomeTaken (p : Part) (x : Scan) (g : Group) (pl : Place) (record : Channel) : Part :=
  if (x.marked g pl).allDecided then (p.marked x g pl record).scanCompletes else p.marked x g pl record

section
variable (p : Part) (x : Scan) (g : Group) (pl : Place)

theorem Part.channelMisses_eq : p.channelMisses x g pl = p.outcomeTaken x g pl (p.moisture.channel g pl).misses := rfl

theorem Part.channelReads_unclamped {t : Int} {rh : Nat} (within : readingClamped t rh = false) :
    p.channelReads x g pl t rh = p.outcomeTaken x g pl ((p.moisture.channel g pl).reads t rh) := by
  simp only [Part.channelReads, within, Bool.false_eq_true, if_false]
  rfl

/-- A reading that needed clamping raises READING_CLAMPED before its outcome is marked (R5). -/
theorem Part.channelReads_clamped {t : Int} {rh : Nat} (beyond : readingClamped t rh = true) :
    p.channelReads x g pl t rh
      = (p.raise .readingClamped (.group g)).outcomeTaken x g pl ((p.moisture.channel g pl).reads t rh) := by
  simp only [Part.channelReads, beyond, if_true]
  rfl

end

variable {p : Part} {x : Scan} {g : Group} {pl : Place} (record : Channel)

theorem Part.outcomeTaken_waiting (others : x.othersOpen g pl) :
    p.outcomeTaken x g pl record = p.marked x g pl record :=
  if_neg fun complete => Scan.marked_allDecided_iff.1 complete others

theorem Part.outcomeTaken_last (last : ¬ x.othersOpen g pl) :
    p.outcomeTaken x g pl record = (p.marked x g pl record).scanCompletes :=
  if_pos (Scan.marked_allDecided_iff.2 last)

/-! ## The completed scan (R4, R11 to R13, R16, R17) -/

/-- The part with its groups evaluated and their figures taken, before the hand-off. -/
def Part.scanMeasured (p : Part) : Part :=
  p.withMoisture { p.moisture.withGroups (PerGroup.of p.groupAfterScan) with scan := none }

theorem Part.scanCompletes_eq (p : Part) : p.scanCompletes = p.scanMeasured.handScan := rfl

@[simp] theorem Part.scanCompletes_moisture (p : Part) : p.scanCompletes.moisture = p.scanMeasured.moisture := by
  simp [Part.scanCompletes_eq]

theorem Part.outcomeTaken_startUp : (p.outcomeTaken x g pl record).startUp = p.startUp := by
  unfold Part.outcomeTaken
  split <;> simp [Part.marked]

theorem Part.outcomeTaken_holdsReply (h : p.bus.holdsReply 6) : (p.outcomeTaken x g pl record).bus.holdsReply 8 := by
  unfold Part.outcomeTaken
  split
  · exact Part.handScan_holdsReply _ h
  · exact h.mono (by decide)

/-- A scan's completion touches the measurement, the governor, the hatch, the exceptions, the outputs and the bus port
alone. -/
theorem Part.scanCompletes_only (p : Part) : p.scanCompletes = { p with
    moisture := p.scanCompletes.moisture, climate := p.scanCompletes.climate, hatch := p.scanCompletes.hatch
    exceptions := p.scanCompletes.exceptions, outputs := p.scanCompletes.outputs, bus := p.scanCompletes.bus } := by
  have frame := p.scanCompletes_frame
  generalize p.scanCompletes = q at frame
  cases q
  simp_all

theorem Part.groupAfterScan_held {k : Group} (held : p.substitution.holdsGroup k = true) :
    p.groupAfterScan k = p.moisture.groups.get k := by
  simp [Part.groupAfterScan, held]

theorem Part.groupAfterScan_evaluated {k : Group} (free : p.substitution.holdsGroup k = false) :
    p.groupAfterScan k
      = (p.moisture.groups.get k).evaluated p.now (p.usableMoisture k .a) (p.usableMoisture k .b) := by
  simp [Part.groupAfterScan, free]

/-! ## The four commands that bring an outcome -/

/-- An answer makes of the part what its outcome does. -/
theorem channelAnswer_outcome {s : State} (ready : s.ready) {t : Int} {rh : Nat} {agrees : Bool} {q : Part} {record : Channel}
    (taken : s.toPart.takeAnswer g pl t rh agrees = q.outcomeTaken x g pl record) (startUp : q.startUp = s.startUp)
    (bus : q.bus = s.bus) :
    exec (.channelAnswer g pl t rh agrees) s = .next { s with toPart := q.outcomeTaken x g pl record } := by
  rw [exec_channelAnswer, ready.become_event, taken]
  · rw [taken, Part.outcomeTaken_startUp, startUp]
  · rw [taken, ← bus]; exact Part.outcomeTaken_holdsReply _

section
variable {s : State} (ready : s.ready) (scan : s.moisture.scan = some x) (waits : (x.decided.get g).get pl = false)
include ready scan waits

theorem answerWindowExpiry_outcome (ran : x.windowEnd ≤ s.clock.localTime) :
    exec (.answerWindowExpiry g pl) s
      = .next { s with toPart := s.toPart.outcomeTaken x g pl (s.moisture.channel g pl).misses } := by
  have same : s.toPart.windowCloses g pl = s.toPart.outcomeTaken x g pl (s.moisture.channel g pl).misses :=
    (Part.windowCloses_open scan waits).trans (s.toPart.channelMisses_eq x g pl)
  rw [exec_answerWindowExpiry, ready.become_timed (Part.windowDue_iff.2 ⟨x, scan, waits, ran⟩), same]
  · rw [same]; exact Part.outcomeTaken_startUp _
  · rw [same]; exact Part.outcomeTaken_holdsReply _

variable (inTime : s.clock.localTime ≤ x.windowEnd) (t : Int) (rh : Nat)
include inTime

theorem channelAnswer_disagreeing :
    exec (.channelAnswer g pl t rh false) s
      = .next { s with toPart := s.toPart.outcomeTaken x g pl (s.moisture.channel g pl).misses } :=
  channelAnswer_outcome ready (Part.takeAnswer_disagreeing t rh scan waits inTime) rfl rfl

theorem channelAnswer_good (cold : -200 ≤ t) (hot : t ≤ 500) (wet : rh ≤ 1000) :
    exec (.channelAnswer g pl t rh true) s
      = .next { s with toPart := s.toPart.outcomeTaken x g pl ((s.moisture.channel g pl).reads t rh) } :=
  channelAnswer_outcome ready
    ((Part.takeAnswer_agreeing t rh scan waits inTime).trans
      (Part.channelReads_unclamped _ x g pl (readingClamped_eq_false cold hot wet))) rfl rfl

theorem channelAnswer_clamped (beyond : t < -200 ∨ 500 < t ∨ 1000 < rh) :
    exec (.channelAnswer g pl t rh true) s
      = .next { s with
          toPart := (s.toPart.raise .readingClamped (.group g)).outcomeTaken x g pl
            ((s.moisture.channel g pl).reads t rh) } :=
  channelAnswer_outcome ready
    ((Part.takeAnswer_agreeing t rh scan waits inTime).trans
      (Part.channelReads_clamped _ x g pl (readingClamped_iff.2 beyond))) rfl rfl

end

/-- Settles O6: each of the four commands is `Part.outcomeTaken`, which marks the outcome alone while others wait. -/
theorem channelOutcomesAreApplied : Obligations.ChannelOutcomesAreApplied := by
  intro s g pl ready x scan waits others
  refine ⟨fun ran => ?_, fun inTime t rh => ⟨?_, fun cold hot wet => ?_, fun beyond => ?_⟩⟩
  · rw [answerWindowExpiry_outcome ready scan waits ran, Part.outcomeTaken_waiting _ others]
    rfl
  · rw [channelAnswer_disagreeing ready scan waits inTime, Part.outcomeTaken_waiting _ others]
    rfl
  · rw [channelAnswer_good ready scan waits inTime t rh cold hot wet, Part.outcomeTaken_waiting _ others,
      Channel.reads_good _ cold hot wet]
    rfl
  · rw [channelAnswer_clamped ready scan waits inTime t rh beyond, Part.outcomeTaken_waiting _ others,
      Channel.reads_clamped _ beyond]
    rfl

end Sys2Proof.Machine
end

section
/-! PROOF. The last outcome of a scan, whatever it is: the completed scan as its receivers leave it (R4, R11 to R13, R33,
R35, R134, R135, R137, R177). -/

namespace Sys2Proof.Machine

/-! ## The part after a hand-off, block by block -/

section
variable (m : Part)

theorem Part.handScan_exceptions : m.handScan.exceptions = m.scanExceptions := by
  cases ends : m.scanEnds
  · simp [Part.handScan_continues m ends]
  · simp [Part.handScan_ends ends]

/-- Demand is that of the scan's store moisture: the evaluation at a purge's end keeps it (R33). -/
theorem Part.handScan_demand : m.handScan.climate.demand = demandLaw m.settings m.moisture.store := by
  rw [← Part.scanEvaluated_demand]
  cases ends : m.scanEnds
  · simp [Part.handScan_continues m ends]
  · simp [Part.handScan_ends ends, Part.purgeReleased_climate, Part.resolveAirPath_demand]

/-- The hatch context of a completed purge before the unlock (R134, R135). -/
def Part.purgeDone : HatchContext :=
  { m.scanDosed with
    toleranceRun := 3, purgeRequest := false, state := .innerRelease, backupState := .innerRelease }

section
variable {m} (goes : m.scanEnds = false)
include goes

theorem Part.handScan_hatch_continues : m.handScan.hatch = m.scanHatch := by
  simp [Part.handScan_continues m goes]

theorem Part.handScan_climate_continues : m.handScan.climate = m.scanEvaluated.climate := by
  simp [Part.handScan_continues m goes]

theorem Part.handScan_outputs_continues : m.handScan.outputs = m.scanEvaluated.outputs := by
  simp [Part.handScan_continues m goes]

theorem Part.handScan_bus_continues : m.handScan.bus =
    ((m.bus.faultShown m.climate.damperFault m.handScan).handed
      (newFrame .routine 63#6 (.climate m.handScan.climateContent))).handed
        (newFrame .routine 63#6 (.status m.handScan.statusContent)) := by
  have climate := Part.handScan_climate_continues goes
  have fire : m.handScan.fireContent = m.scanEvaluated.fireContent :=
    Part.fireContent_congr (by simp) (by simp) (congrArg _ climate)
  have content : m.handScan.climateContent = m.scanEvaluated.climateContent :=
    Part.climateContent_congr (by simp) climate
  have status := m.scanTaken.handStatus_bus
  rw [← Part.handScan_continues m goes, Part.scanTaken_bus] at status
  rw [status, content, BusPort.faultShown, BusPort.faultShown, climate, fire]

end

section
variable {m} (ends : m.scanEnds = true)
include ends

theorem Part.purgeReleased_hatch_ends : m.scanTaken.purgeReleased.hatch = m.purgeDone := by
  simp [Part.purgeReleased_hatch, Part.scanEnds_hatch ends, Part.purgeDone]

theorem Part.handScan_climate_ends : m.handScan.climate = m.scanTaken.purgeReleased.climate := by
  simp [Part.handScan_ends ends]

/-- CLIMATE of the hand-off, then the frames of the evaluation at the purge's end (R35, R135). -/
theorem Part.purgeReleased_bus_ends : m.scanTaken.purgeReleased.bus =
    (m.bus.handed (newFrame .routine 63#6 (.climate m.scanEvaluated.climateContent))).evaluated m.scanEvaluated
      m.handScan := by
  rw [Part.purgeReleased_bus, Part.scanTaken_bus_ends ends]
  exact BusPort.evaluated_congr _ (by simp) (Part.handScan_climate_ends ends).symm (by simp) (by simp) (by simp)

theorem Part.handScan_withheld (held : m.scanTaken.purgeReleased.canUnlock .inner = false) :
    m.handScan = m.scanTaken.purgeReleased.handStatus := by
  rw [Part.handScan_ends ends, Part.unlockWithNotice_withheld _ _ held]

/-- The unlock withheld leaves the hatch locked, and sends no notice (R114, R141). -/
theorem Part.handScan_ends_withheld (held : ¬(m.hatch.locks.outer = false ∧ m.hatch.startTally = .no)) :
    m.handScan.hatch = m.purgeDone ∧ m.handScan.outputs = m.scanTaken.purgeReleased.outputs
      ∧ m.handScan.bus = ((m.bus.handed (newFrame .routine 63#6 (.climate m.scanEvaluated.climateContent))).evaluated
          m.scanEvaluated m.handScan).handed (newFrame .routine 63#6 (.status m.handScan.statusContent)) := by
  have locked : m.scanTaken.purgeReleased.canUnlock .inner = false := by
    rwa [← Bool.not_eq_true, Part.purgeReleased_canUnlock ends]
  have whole := Part.handScan_withheld ends locked
  have status := m.scanTaken.purgeReleased.handStatus_bus
  rw [← whole, Part.purgeReleased_bus_ends ends] at status
  refine ⟨?_, ?_, status⟩
  · rw [whole, ← Part.purgeReleased_hatch_ends ends]; simp
  · rw [whole]; simp

/-- The inner leaf unlocked: its lock request and window, its output, and the notices before STATUS (R115, R122). -/
theorem Part.handScan_ends_unlocked (free : m.hatch.locks.outer = false ∧ m.hatch.startTally = .no) :
    m.handScan.hatch = { m.purgeDone with
      locks := m.hatch.locks.set .inner true, windows := m.hatch.windows.set .inner (some (m.now + windowTime)) }
    ∧ m.handScan.outputs = m.scanTaken.purgeReleased.outputs.set .out0
        ((m.scanTaken.purgeReleased.outputs.get .out0).take (outputFitted m.settings 0) m.now .drivenOn)
    ∧ m.handScan.bus = (((m.bus.handed (newFrame .routine 63#6 (.climate m.scanEvaluated.climateContent))).evaluated
          m.scanEvaluated m.handScan).notified m.hatch.participants .innerUnlocked (m.hatch.direction.getD .out)
            (m.hatch.batch.getD 0) .innerRelease none).handed
              (newFrame .routine 63#6 (.status m.handScan.statusContent)) := by
  have unlocks := (Part.purgeReleased_canUnlock ends).2 free
  have whole := Part.handScan_ends ends
  have hatch := Part.purgeReleased_hatch_ends ends
  have status := Part.handStatus_bus
    (m.scanTaken.purgeReleased.unlockWithNotice .inner .innerUnlocked m.hatch.participants)
  rw [← whole, Part.unlockWithNotice_bus _ _ unlocks, Part.purgeReleased_bus_ends ends, hatch] at status
  refine ⟨?_, ?_, status⟩
  · rw [whole]
    simp only [Part.handStatus_frame, Part.unlockWithNotice_hatch _ _ unlocks, hatch, Part.now_eq,
      Part.purgeReleased_frame, Part.scanTaken_frame]
    rfl
  · rw [whole]
    simp [Part.unlockWithNotice_outputs _ _ unlocks, Part.now_eq, Part.settings_eq, lockOutput, outputNumber]

end

/-- The dose of a hand-off (R137). -/
theorem Part.handScan_handed : m.handScan.hatch.handedStore = m.moisture.store
    ∧ m.handScan.hatch.handedChamber = m.moisture.chamber
    ∧ m.handScan.hatch.dose = m.hatch.doseAfter (scanFigures m.moisture.store m.moisture.chamber) := by
  cases ends : m.scanEnds
  · rw [Part.handScan_hatch_continues ends]
    exact ⟨rfl, rfl, rfl⟩
  · by_cases free : m.hatch.locks.outer = false ∧ m.hatch.startTally = .no
    · rw [(Part.handScan_ends_unlocked ends free).1]
      exact ⟨rfl, rfl, rfl⟩
    · rw [(Part.handScan_ends_withheld ends free).1]
      exact ⟨rfl, rfl, rfl⟩

end

/-! ## The evaluations of a hand-off, made of a part that agrees in what they read -/

theorem Part.SameForAirPath.withHatch {p q : Part} (same : p.SameForAirPath q) {h k : HatchContext}
    (request : h.purgeRequest = k.purgeRequest) : (p.withHatch h).SameForAirPath (q.withHatch k) :=
  ⟨same.climate, same.outputs, same.fire, same.peers, same.inputs, same.clock, same.startUp, request⟩

theorem Part.SameForAirPath.resolved {p q : Part} (same : p.SameForAirPath q) :
    p.resolveAirPath.SameForAirPath q.resolveAirPath :=
  ⟨same.resolve_climate, same.resolve_outputs, by simp [same.fire], by simp [same.peers], by simp [same.inputs],
    by simp [same.clock], by simp [same.startUp], by simp [same.purgeRequest]⟩

theorem Part.scanTaken_same (m : Part) : m.scanEvaluated.SameForAirPath m.scanTaken :=
  ⟨by simp, by simp, by simp, by simp, by simp, by simp, by simp, by simp [Part.scanHatch, Part.scanDosed]⟩

section
variable {m e : Part} (same : e.SameForAirPath m.scanEvaluated)
include same

/-- The evaluation at the purge's end, from the part as the hand-off's evaluation left it (R41, R135). -/
theorem Part.SameForAirPath.purgeEnd {h : HatchContext} (request : h.purgeRequest = false) :
    (e.withHatch h).SameForAirPath (m.scanTaken.withHatch { m.scanTaken.hatch with purgeRequest := false }) :=
  let taken := m.scanTaken_same
  Part.SameForAirPath.withHatch
    ⟨same.climate.trans taken.climate, same.outputs.trans taken.outputs, same.fire.trans taken.fire,
      same.peers.trans taken.peers, same.inputs.trans taken.inputs, same.clock.trans taken.clock,
      same.startUp.trans taken.startUp, same.purgeRequest.trans taken.purgeRequest⟩ request

theorem Part.SameForAirPath.purgeReleased_climate {h : HatchContext} (request : h.purgeRequest = false) :
    m.scanTaken.purgeReleased.climate = (e.withHatch h).resolveAirPath.climate :=
  m.scanTaken.purgeReleased_climate.trans (same.purgeEnd request).resolve_climate.symm

theorem Part.SameForAirPath.purgeReleased_outputs {h : HatchContext} (request : h.purgeRequest = false) :
    m.scanTaken.purgeReleased.outputs = (e.withHatch h).resolveAirPath.outputs :=
  m.scanTaken.purgeReleased_outputs.trans (same.purgeEnd request).resolve_outputs.symm

/-- CLIMATE of the hand-off and the frames after it, from a part that agrees with the evaluated one. -/
theorem Part.SameForAirPath.evaluated_bus (b : BusPort) (q : Part) :
    (b.handed (newFrame .routine 63#6 (.climate m.scanEvaluated.climateContent))).evaluated m.scanEvaluated q
      = (b.handed (newFrame .routine 63#6 (.climate e.climateContent))).evaluated e q := by
  rw [Part.climateContent_congr same.startUp same.climate]
  exact BusPort.evaluated_congr _ same.climate.symm rfl rfl rfl rfl

end

theorem Part.scanEnds_iff (m : Part) : m.scanEnds = true ↔
    (m.hatch.state = .purging ∧ m.hatch.purgeRequest = true ∧ m.shutCondition = false)
      ∧ figuresNear m.settings.purgeTolerance (scanFigures m.moisture.store m.moisture.chamber) = true
      ∧ 2 ≤ m.hatch.toleranceRun := by
  rw [Part.scanEnds, Bool.and_eq_true, decide_eq_true_iff, Part.scanMeets_iff, and_assoc]

theorem Part.scanHatch_eq (m : Part) : m.scanHatch = { m.scanDosed with
    toleranceRun :=
      if m.hatch.state = .purging then
        if (m.hatch.state = .purging ∧ m.hatch.purgeRequest = true ∧ m.shutCondition = false)
            ∧ figuresNear m.settings.purgeTolerance (scanFigures m.moisture.store m.moisture.chamber) = true then
          min 3 (m.hatch.toleranceRun + 1)
        else 0
      else m.hatch.toleranceRun } := by
  simp only [Part.scanHatch, HatchContext.runAfter, Part.scanMeets_iff]

/-- A group after a scan, on its positions: the mean of two, the one, or kept and turned STALE (R12). -/
theorem GroupRecord.evaluated_cases (r : GroupRecord) (now : Time) (u v : Option Nat) :
    (∀ a b, u = some a → v = some b → r.evaluated now u v = ⟨some ((a + b + 1) / 2), .fresh, none⟩)
    ∧ (∀ a, u = some a → v = none → r.evaluated now u v = ⟨some a, .fresh, none⟩)
    ∧ (∀ b, u = none → v = some b → r.evaluated now u v = ⟨some b, .fresh, none⟩)
    ∧ (u = none → v = none →
      r.evaluated now u v = if r.freshness = .fresh then ⟨r.moisture, .stale, some now⟩ else r) := by
  refine ⟨?_, ?_, ?_, ?_⟩
  · rintro a b rfl rfl; rfl
  · rintro a rfl rfl; rfl
  · rintro b rfl rfl; rfl
  · rintro rfl rfl; rfl

/-- Settles O7: each of the four commands is `Part.scanCompletes` on the marked part (`key`), and the hand-off of the
measured part `m` either completes a purge or does not (`Part.scanEnds`). -/
theorem lastOutcomeCompletesTheScan : Obligations.LastOutcomeCompletesTheScan := by
  unfold Obligations.LastOutcomeCompletesTheScan
  intro s g pl ready x scan waits last old h cfg completes
  have key (c : Instr) (record : Channel) (raised : ExceptionStore)
      (run : exec c s = .next { s with
        toPart := ((s.toPart.withExceptions raised).marked x g pl record).scanCompletes }) :
      completes c record raised := by
    let p : Part := (s.toPart.withExceptions raised).marked x g pl record
    let m : Part := p.scanMeasured
    have only := p.scanCompletes_only
    have moisture : p.scanCompletes.moisture = m.moisture := p.scanCompletes_moisture
    have handed : p.scanCompletes = m.handScan := p.scanCompletes_eq
    have groups (k : Group) : m.moisture.groups.get k = p.groupAfterScan k := PerGroup.get_of _ _
    generalize p.scanCompletes = t at run only moisture handed
    refine ⟨{ s with toPart := t }, run, ?_, ?_, ?_, ?_, ?_, ?_, ?_, ?_, ?_, ?_, ?_⟩
    · exact congrArg (fun q : Part => ({ s with toPart := q } : State)) only
    · exact congrArg (·.scan) moisture
    · exact congrArg (·.channels) moisture
    · intro k held
      exact (congrArg (·.groups.get k) moisture).trans ((groups k).trans (Part.groupAfterScan_held held))
    · intro k free
      have evaluated : t.moisture.groups.get k = (s.moisture.groups.get k).evaluated s.clock.localTime
          (p.usableMoisture k .a) (p.usableMoisture k .b) :=
        (congrArg (·.groups.get k) moisture).trans ((groups k).trans (Part.groupAfterScan_evaluated free))
      dsimp only
      rw [evaluated]
      exact GroupRecord.evaluated_cases _ _ _ _
    · dsimp only; rw [moisture]; rfl
    · dsimp only; rw [moisture]; rfl
    · dsimp only; rw [moisture, handed]; exact m.handScan_demand
    · dsimp only; rw [moisture, handed]; exact m.handScan_handed.1
    · dsimp only; rw [moisture, handed]; exact m.handScan_handed.2.1
    · dsimp only
      rw [moisture]
      have same : ((s.toPart.withMoisture m.moisture).withClimate
          { s.climate with demand := t.climate.demand }).resolveAirPath.SameForAirPath m.scanEvaluated := by
        rw [handed, m.handScan_demand]
        exact Part.SameForAirPath.resolved ⟨rfl, rfl, rfl, rfl, rfl, rfl, rfl, rfl⟩
      generalize ((s.toPart.withMoisture m.moisture).withClimate
        { s.climate with demand := t.climate.demand }).resolveAirPath = e at same ⊢
      subst handed
      refine ⟨m.handScan_handed.2.2, fun below top b batch => ?_, fun quiet => ?_, fun ends => ?_, fun goes => ?_⟩
      · refine m.handScan_exceptions.trans ((if_pos ⟨below, top⟩).trans ?_)
        rw [show m.hatch.batch = some b from batch]
        rfl
      · exact m.handScan_exceptions.trans (if_neg quiet)
      · have served : m.scanEnds = true := m.scanEnds_iff.2 ends
        have ended := same.purgeReleased_outputs (h := { h with purgeRequest := false }) rfl
        refine ⟨(Part.handScan_climate_ends served).trans (same.purgeReleased_climate rfl), fun held => ?_,
          fun free => ?_⟩
        · obtain ⟨hatch, outputs, bus⟩ := Part.handScan_ends_withheld served held
          rw [same.evaluated_bus] at bus
          rw [ended] at outputs
          refine ⟨?_, outputs, bus⟩
          rw [hatch]
          rfl
        · obtain ⟨hatch, outputs, bus⟩ := Part.handScan_ends_unlocked served free
          rw [same.evaluated_bus] at bus
          rw [ended] at outputs
          refine ⟨?_, outputs, fun b batch d direction => ?_⟩
          · have locks : m.hatch.locks.set .inner true = ⟨true, false⟩ := congrArg (PerLeaf.mk true) free.1
            rw [hatch, locks]
            rfl
          · rw [bus, show m.hatch.batch = some b from batch, show m.hatch.direction = some d from direction]
            rfl
      · have on : m.scanEnds = false := by
          rw [← Bool.not_eq_true, m.scanEnds_iff]
          exact goes
        have climate := Part.handScan_climate_continues on
        refine ⟨?_, climate.trans same.climate.symm, (Part.handScan_outputs_continues on).trans same.outputs.symm,
          Part.handScan_bus_continues on⟩
        rw [Part.handScan_hatch_continues on, m.scanHatch_eq]
        rfl
  refine ⟨fun ran => key _ _ _ ?_, fun inTime t rh => ⟨key _ _ _ ?_, fun cold hot wet => key _ _ _ ?_,
    fun beyond => key _ _ _ ?_⟩⟩
  · rw [answerWindowExpiry_outcome ready scan waits ran, Part.outcomeTaken_last _ last]
    rfl
  · rw [channelAnswer_disagreeing ready scan waits inTime, Part.outcomeTaken_last _ last]
    rfl
  · rw [channelAnswer_good ready scan waits inTime t rh cold hot wet, Part.outcomeTaken_last _ last,
      Channel.reads_good _ cold hot wet]
    rfl
  · rw [channelAnswer_clamped ready scan waits inTime t rh beyond, Part.outcomeTaken_last _ last,
      Channel.reads_clamped _ beyond]
    rfl

end Sys2Proof.Machine
end

section
/-! PROOF. The ranges that every step keeps: the relation between the part before and after a change, and what each
shared operation does to it. -/

namespace Sys2Proof.Machine

/-! ## Ranges kept -/

/-- Every law of the ranges that holds of `p` holds of `q`, the law of the outputs that are not fitted aside. -/
structure Part.FiguresKept (p q : Part) : Prop where
  moisture : p.MoistureBounded → q.MoistureBounded
  demand : p.DemandBounded → q.DemandBounded
  purge : p.PurgeBounded → q.PurgeBounded
  exceptions : p.ExceptionsSound → q.ExceptionsSound
  clock : p.ClockBounded → q.ClockBounded
  spare : p.SpareSound → q.SpareSound
  fire : p.FireSound → q.FireSound
  settings : p.SettingsInRange → q.SettingsInRange

/-- Every law of the ranges that holds of `p` holds of `q`. -/
structure Part.RangesKept (p q : Part) : Prop extends p.FiguresKept q where
  unfitted : p.UnfittedReleased → q.UnfittedReleased

/-- `q` is what a block may make of `p` in an event: the start-up unit stays, but for a restart that becomes pending, and
every law of the ranges is kept. -/
structure Part.Acts (p q : Part) : Prop extends p.RangesKept q where
  startUp : q.startUp = { p.startUp with restartDeadline := q.startUp.restartDeadline }

variable {p q r : Part}

theorem Part.FiguresKept.refl (p : Part) : p.FiguresKept p := ⟨id, id, id, id, id, id, id, id⟩

theorem Part.FiguresKept.trans (h : p.FiguresKept q) (k : q.FiguresKept r) : p.FiguresKept r :=
  ⟨k.moisture ∘ h.moisture, k.demand ∘ h.demand, k.purge ∘ h.purge, k.exceptions ∘ h.exceptions, k.clock ∘ h.clock,
    k.spare ∘ h.spare, k.fire ∘ h.fire, k.settings ∘ h.settings⟩

theorem Part.RangesKept.refl (p : Part) : p.RangesKept p := ⟨.refl p, id⟩

theorem Part.RangesKept.trans (h : p.RangesKept q) (k : q.RangesKept r) : p.RangesKept r :=
  ⟨h.toFiguresKept.trans k.toFiguresKept, k.unfitted ∘ h.unfitted⟩

theorem Part.Acts.refl (p : Part) : p.Acts p := ⟨.refl p, rfl⟩

theorem Part.Acts.trans (h : p.Acts q) (k : q.Acts r) : p.Acts r :=
  ⟨h.toRangesKept.trans k.toRangesKept, by rw [k.startUp, h.startUp]⟩

theorem Part.Acts.ite {c : Prop} [Decidable c] (yes : p.Acts q) (no : p.Acts r) : p.Acts (if c then q else r) := by
  split
  · exact yes
  · exact no

/-! ## The sequencer's own table -/

/-- `Part.FireSound` of a sequencer alone; `acts` says that the part acts. -/
def FireSequencer.Sound (f : FireSequencer) (acts : Prop) : Prop :=
  (f.alarm = none ↔ f.state = .quiet)
  ∧ (f.countdown ≠ none → f.state = .preDischarge)
  ∧ (f.pulseEnd ≠ none → f.state = .discharged)
  ∧ (f.confirmationEnd ≠ none → f.state = .discharged)
  ∧ (f.holdEnd ≠ none → f.state = .hold)
  ∧ (f.paused = true → f.state = .preDischarge)
  ∧ (acts →
    (f.state = .preDischarge → f.countdown ≠ none)
    ∧ (f.state = .discharged → f.confirmationEnd ≠ none)
    ∧ (f.state = .hold → f.holdEnd ≠ none))

theorem Part.fireSound_iff : p.FireSound ↔ p.fire.Sound (p.running = true) := Iff.rfl

/-! ## One block replaced

Of the nine laws a new value of one block concerns at most the law of that block; where the fields that law speaks of
stand, the law is the same proposition, and `id` keeps it. -/

section
variable (h : p.Acts q)
include h

theorem Part.Acts.withMoisture (x : MoistureUnit)
    (kept : q.MoistureBounded → (q.withMoisture x).MoistureBounded := by exact id) : p.Acts (q.withMoisture x) :=
  h.trans ⟨⟨⟨kept, id, id, id, id, id, id, id⟩, id⟩, rfl⟩

theorem Part.Acts.withSubstitution (x : SubstitutionStore)
    (kept : q.SpareSound → (q.withSubstitution x).SpareSound := by exact id) : p.Acts (q.withSubstitution x) :=
  h.trans ⟨⟨⟨id, id, id, id, id, kept, id, id⟩, id⟩, rfl⟩

theorem Part.Acts.withClimate (x : ClimateGovernor)
    (kept : q.DemandBounded → (q.withClimate x).DemandBounded := by exact id) : p.Acts (q.withClimate x) :=
  h.trans ⟨⟨⟨id, kept, id, id, id, id, id, id⟩, id⟩, rfl⟩

theorem Part.Acts.withLoops (x : PerLoop LoopState) : p.Acts (q.withLoops x) :=
  h.trans ⟨⟨⟨id, id, id, id, id, id, id, id⟩, id⟩, rfl⟩

theorem Part.Acts.withInputs (x : PerInput InputState) : p.Acts (q.withInputs x) :=
  h.trans ⟨⟨⟨id, id, id, id, id, id, id, id⟩, id⟩, rfl⟩

theorem Part.Acts.withFire (x : FireSequencer)
    (kept : q.fire.Sound (q.running = true) → x.Sound (q.running = true) := by exact id) : p.Acts (q.withFire x) :=
  h.trans ⟨⟨⟨id, id, id, id, id, id, kept, id⟩, id⟩, rfl⟩

theorem Part.Acts.withCustody (x : CustodyTable) : p.Acts (q.withCustody x) :=
  h.trans ⟨⟨⟨id, id, id, id, id, id, id, id⟩, id⟩, rfl⟩

theorem Part.Acts.withHatch (x : HatchContext)
    (kept : q.PurgeBounded → (q.withHatch x).PurgeBounded := by exact id) : p.Acts (q.withHatch x) :=
  h.trans ⟨⟨⟨id, id, kept, id, id, id, id, id⟩, id⟩, rfl⟩

theorem Part.Acts.withExceptions (x : ExceptionStore)
    (kept : q.ExceptionsSound → (q.withExceptions x).ExceptionsSound) : p.Acts (q.withExceptions x) :=
  h.trans ⟨⟨⟨id, id, id, kept, id, id, id, id⟩, id⟩, rfl⟩

theorem Part.Acts.withBus (x : BusPort) : p.Acts (q.withBus x) :=
  h.trans ⟨⟨⟨id, id, id, id, id, id, id, id⟩, id⟩, rfl⟩

theorem Part.Acts.withPeers (x : PeerView) : p.Acts (q.withPeers x) :=
  h.trans ⟨⟨⟨id, id, id, id, id, id, id, id⟩, id⟩, rfl⟩

theorem Part.Acts.withClock (x : ArchiveClock)
    (kept : q.ClockBounded → (q.withClock x).ClockBounded := by exact id) : p.Acts (q.withClock x) :=
  h.trans ⟨⟨⟨id, id, id, id, kept, id, id, id⟩, id⟩, rfl⟩

theorem Part.Acts.withOutputs (x : OutputDriver)
    (kept : q.UnfittedReleased → (q.withOutputs x).UnfittedReleased) : p.Acts (q.withOutputs x) :=
  h.trans ⟨⟨⟨id, id, id, id, id, id, id, id⟩, kept⟩, rfl⟩

theorem Part.Acts.withOccupancy (x : Occupancy) : p.Acts (q.withOccupancy x) :=
  h.trans ⟨⟨⟨id, id, id, id, id, id, id, id⟩, id⟩, rfl⟩

theorem Part.Acts.draw : p.Acts q.draw := h.trans ⟨⟨⟨id, id, id, id, id, id, id, id⟩, id⟩, rfl⟩

/-- A restart becomes pending (R182). -/
theorem Part.Acts.restartPending (deadline : Option Time) :
    p.Acts (q.withStartUp { q.startUp with restartDeadline := deadline }) :=
  h.trans ⟨⟨⟨id, id, id, id, id, id, id, id⟩, id⟩, rfl⟩

/-! ## Shared operations: frames, outputs, exceptions -/

theorem Part.Acts.handFrame (f : TxFrame) : p.Acts (q.handFrame f) := by
  rw [Part.handFrame_eq]; exact h.withBus _

theorem Part.Acts.reply (a : Asker) (st : Status) (d : ReplyData) : p.Acts (q.reply a st d) := h.handFrame _

theorem Part.Acts.refuseSequence (a : Asker) (x : HatchContext) : p.Acts (q.refuseSequence a x) := h.reply _ _ _

theorem Part.Acts.handFireState : p.Acts q.handFireState := h.handFrame _

theorem Part.Acts.handStatus : p.Acts q.handStatus := h.handFrame _

theorem Part.Acts.handNotices (xs : List Station) (t : NoticeType) (d : Option Direction) (b : Option Nat)
    (c : Option Cause) : p.Acts (q.handNotices xs t d b c) := by
  rw [Part.handNotices_eq]; exact h.withBus _

/-- An output that is not fitted is RELEASED whatever is requested of it (R170). -/
theorem Part.Acts.requestOutput (o : OutputId) (x : OutputRequest) : p.Acts (q.requestOutput o x) := by
  refine h.withOutputs _ fun ⟨digital, damper⟩ => ⟨fun u unfitted => ?_, fun unfitted => ?_⟩
  · have unfit : outputFitted q.settings (outputNumber u) = false := unfitted
    by_cases same : u = o
    · subst same; simp [DigitalOutput.take, unfit]
    · simpa [OutputDriver.get_set_other _ _ same] using digital u unfit
  · simpa using damper unfitted

theorem Part.Acts.requestOpening (n : Nat) : p.Acts (q.requestOpening n) := by
  refine h.withOutputs _ fun ⟨digital, _⟩ => ⟨fun u unfitted => ?_, fun unfitted => ?_⟩
  · cases u <;> exact digital _ unfitted
  · have unfit : outputFitted q.settings 5 = false := unfitted
    simp [unfit]

/-- With capture set the list grows while it holds fewer than 4 entries; with capture clear it is left (R149). -/
theorem Part.Acts.raise (k : ExceptionKind) (x : ExceptionSubject) : p.Acts (q.raise k x) := by
  refine h.withExceptions _ fun ⟨room, off⟩ => ?_
  unfold ExceptionStore.raise
  dsimp only
  split
  · next on =>
    split
    · next short =>
      refine ⟨?_, fun _ clear => absurd on (Bool.not_eq_true _ ▸ clear)⟩
      simpa using Nat.succ_le_of_lt (show q.exceptions.entries.length < 4 from short)
    · exact ⟨room, off⟩
  · exact ⟨room, off⟩

end

end Sys2Proof.Machine
end

section
/-! PROOF. The ranges through the climate governor and the hatch (chapters 3 and 7). -/

namespace Sys2Proof.Machine

/-! ## Climate: figures of an evaluation (R33, R34, R37, R44) -/

theorem grantLaw_le (fault : Bool) (effective peers capacity : Nat) :
    grantLaw fault effective peers capacity ≤ effective := by
  unfold grantLaw
  dsimp only
  split
  · exact Nat.zero_le _
  · split
    · exact Nat.zero_le _
    · split
      · exact Nat.le_refl _
      · next more =>
        calc effective * capacity / (effective + peers)
            ≤ effective * (effective + peers) / (effective + peers) :=
              Nat.div_le_div_right (Nat.mul_le_mul_left _ (Nat.le_of_lt (Nat.not_le.1 more)))
          _ = effective := Nat.mul_div_cancel _ (by omega)

theorem demandLaw_le (s : Settings) (store : Option Nat) : demandLaw s store ≤ 255 := by
  unfold demandLaw
  split
  · exact Nat.zero_le _
  · split
    · exact Nat.zero_le _
    · exact Nat.min_le_left _ _

theorem driveOpening_le {grant : Nat} (le : grant ≤ 255) : driveOpening grant ≤ 100 := by
  unfold driveOpening; omega

theorem resolve_damper_le {shut purge park : Bool} {grant opening : Nat} (g : grant ≤ 255) (o : opening ≤ 30) :
    (resolve shut purge grant park opening).damper ≤ 100 := by
  unfold resolve
  split
  · exact Nat.zero_le _
  · split
    · exact Nat.le_refl _
    · split
      · exact driveOpening_le g
      · split
        · exact o.trans (by decide)
        · exact Nat.zero_le _

variable {p q : Part}

theorem Part.DemandBounded.effectiveDemand_le (h : q.DemandBounded) : q.effectiveDemand ≤ 255 := by
  obtain ⟨demand, _, _, _, purge, _⟩ := h
  unfold Part.effectiveDemand
  split
  · exact Nat.zero_le _
  · split
    · exact Nat.max_le.2 ⟨demand, purge⟩
    · exact demand

/-- What an evaluation makes of the governor's figures lies in their ranges (R34, R37, R44, R45). -/
theorem Part.DemandBounded.chosen (h : q.DemandBounded) :
    (q.withClimate { q.climate with
      effective := q.effectiveDemand, grant := q.computedGrant, airPath := q.airPathChoice.airPath
      damper := q.airPathChoice.damper, fan := q.airPathChoice.fan, plant := q.airPathChoice.plant }).DemandBounded := by
  have effective := h.effectiveDemand_le
  have grant : q.computedGrant ≤ q.effectiveDemand := grantLaw_le _ _ _ _
  obtain ⟨demand, _, _, _, purge, park⟩ := h
  exact ⟨demand, effective, grant, resolve_damper_le (grant.trans effective) park, purge, park⟩

section
variable (h : p.Acts q)
include h

theorem Part.Acts.setDamperFault (fault : Bool) : p.Acts (q.setDamperFault fault) := by
  unfold Part.setDamperFault
  split
  · exact h
  · exact (h.withClimate _).handFireState

theorem Part.Acts.startConfirmation : p.Acts q.startConfirmation := by
  unfold Part.startConfirmation
  split
  · exact h.withClimate _
  · exact h

theorem Part.Acts.endConfirmation : p.Acts q.endConfirmation := h.withClimate _

theorem Part.Acts.superviseCommand (old : Nat) : p.Acts (q.superviseCommand old) := by
  unfold Part.superviseCommand
  split
  · exact h
  · split
    · split
      · exact h.endConfirmation.setDamperFault _
      · exact h.startConfirmation
    · split
      · exact h.endConfirmation
      · exact h

theorem Part.Acts.superviseSwitch (closed : Bool) : p.Acts (q.superviseSwitch closed) := by
  unfold Part.superviseSwitch
  split
  · split
    · exact h.endConfirmation.setDamperFault _
    · exact h.startConfirmation
  · exact h

theorem Part.Acts.resolveAirPath : p.Acts q.resolveAirPath :=
  ((((h.withClimate _ Part.DemandBounded.chosen).requestOpening _).requestOutput _ _).requestOutput _ _).superviseCommand _

theorem Part.Acts.handClimate : p.Acts q.handClimate := h.handFrame _

theorem Part.Acts.evaluate : p.Acts q.evaluate := by
  unfold Part.evaluate
  dsimp only
  split
  · exact h.resolveAirPath
  · unfold Part.offerClimate
    split
    · exact h.resolveAirPath.handClimate
    · exact h.resolveAirPath

theorem Part.Acts.climateHandOff (store : Option Nat) : p.Acts (q.climateHandOff store) :=
  (h.withClimate { q.climate with demand := demandLaw q.settings store }
    fun ⟨_, rest⟩ => ⟨demandLaw_le _ _, rest⟩).resolveAirPath.handClimate

theorem Part.Acts.takePlantInput (faulted : Bool) : p.Acts (q.takePlantInput faulted) := (h.withClimate _).evaluate

theorem Part.Acts.confirmationExpires : p.Acts q.confirmationExpires := by
  unfold Part.confirmationExpires
  split
  · exact h.endConfirmation.setDamperFault _
  · exact h

/-! ## Hatch: locks, notices, abandonment (R114, R115, R122, R125) -/

theorem Part.Acts.setHatchState (st : HatchState) : p.Acts (q.setHatchState st) := h.withHatch _

theorem Part.Acts.setLock (l : Leaf) (on : Bool) : p.Acts (q.setLock l on) := (h.withHatch _).requestOutput _ _

theorem Part.Acts.clearWindow (l : Leaf) : p.Acts (q.clearWindow l) := h.withHatch _

theorem Part.Acts.lockBoth : p.Acts q.lockBoth :=
  (((h.setLock _ _).setLock _ _).clearWindow _).clearWindow _

theorem Part.Acts.unlock (l : Leaf) : p.Acts (q.unlock l) := by
  unfold Part.unlock
  split
  · exact (h.setLock l true).withHatch _
  · exact h

theorem Part.Acts.unlockWithNotice (l : Leaf) (t : NoticeType) (xs : List Station) :
    p.Acts (q.unlockWithNotice l t xs) := by
  unfold Part.unlockWithNotice
  split
  · exact (h.unlock l).handNotices _ _ _ _ _
  · exact h

theorem Part.Acts.endPurge : p.Acts q.endPurge := by
  unfold Part.endPurge
  split
  · exact (h.withHatch _).evaluate
  · exact h

theorem Part.Acts.abandonStage : p.Acts q.abandonStage := by
  unfold Part.abandonStage
  split
  · exact (h.withHatch _).withCustody _
  · exact (h.withHatch _).endPurge
  · exact (h.withHatch _).endPurge
  · exact h.withHatch _

theorem Part.Acts.returnAccess (abandoned : Bool) : p.Acts (q.returnAccess abandoned) := by
  unfold Part.returnAccess
  split
  · exact (h.withHatch _).setHatchState _
  · exact h

theorem Part.Acts.abandonHatchState (before : HatchContext) : p.Acts (q.abandonHatchState before) := by
  unfold Part.abandonHatchState
  split
  case h_1 =>
    split
    · exact h
    · split
      · exact (h.withHatch _).setHatchState _
      · exact h
      · exact h.setHatchState _
  case h_2 => exact h.setHatchState _
  case h_3 => exact h.setHatchState _
  case h_4 =>
    split
    · exact h
    · exact h.setHatchState _
  case h_5 =>
    split
    · exact h
    · exact h.returnAccess _
  all_goals exact h

theorem Part.Acts.abandonCore : p.Acts q.abandonCore := (h.lockBoth.withHatch _).abandonStage.abandonHatchState _

theorem Part.Acts.abandon (c : Cause) : p.Acts (q.abandon c) := h.abandonCore.handNotices _ _ _ _ _

/-! ## Hatch: leaves (R115 to R117) -/

theorem Part.Acts.forceLeaf (l : Leaf) : p.Acts (q.forceLeaf l) := ((h.withHatch _).setLock _ _).setHatchState _

theorem Part.Acts.forced (l : Leaf) : p.Acts (q.forced l) := by
  unfold Part.forced
  split
  · exact (h.abandonCore.forceLeaf l).handNotices _ _ _ _ _
  · exact h.forceLeaf l

theorem Part.Acts.discardTally (l : Leaf) : p.Acts (q.discardTally l) := by
  unfold Part.discardTally
  split
  · exact (h.withHatch _).setHatchState _
  · exact h

theorem Part.Acts.leafOpens (l : Leaf) : p.Acts (q.leafOpens l) := by
  unfold Part.leafOpens
  split
  · exact (h.withHatch _).discardTally l
  · exact h.forced l

theorem Part.Acts.leafCloses (l : Leaf) : p.Acts (q.leafCloses l) := by
  unfold Part.leafCloses
  dsimp only
  split
  · exact (((h.clearWindow l).setLock l false).withHatch _).setHatchState _
  · exact (h.clearWindow l).setLock l false

theorem Part.Acts.takeLeaf (l : Leaf) (closed : Bool) : p.Acts (q.takeLeaf l closed) := by
  unfold Part.takeLeaf
  split
  · exact h.leafCloses l
  · exact h.leafOpens l

/-! ## Hatch: tallies (R118 to R143) -/

theorem Part.Acts.stagingTally (t : TagReport) : p.Acts (q.stagingTally t) := by
  unfold Part.stagingTally
  dsimp only
  (repeat' split) <;> exact ((h.withCustody _).withHatch _).setHatchState _

theorem Part.Acts.departureTally (t : TagReport) : p.Acts (q.departureTally t) := by
  unfold Part.departureTally
  extract_lets before table gone settled
  have left : p.Acts settled := .ite ((h.withCustody table).setHatchState _) (((h.withCustody table).withHatch _).setHatchState _)
  exact .ite ((left.withHatch _).handNotices _ _ _ _ _) left

/-- A matching tally begins dose, purge time and tolerance run at 0 (R131). -/
theorem Part.Acts.comparisonTally (t : TagReport) : p.Acts (q.comparisonTally t) := by
  unfold Part.comparisonTally
  dsimp only
  split
  · exact ((h.withCustody _).withHatch _ fun _ => ⟨Nat.zero_le _, Nat.zero_le _, Nat.zero_le _⟩).setHatchState _
  · exact ((h.abandonCore.setHatchState _).handNotices _ _ _ _ _).unlockWithNotice _ _ _

theorem Part.Acts.retrieveTally (t : TagReport) : p.Acts (q.retrieveTally t) := by
  unfold Part.retrieveTally
  split
  · exact (h.withHatch _).setHatchState _
  · exact (h.setHatchState _).unlockWithNotice _ _ _

theorem Part.Acts.releaseExceptions (t : TagReport) (rs : List CustodyRecord) : p.Acts (q.releaseExceptions t rs) := by
  unfold Part.releaseExceptions
  dsimp only
  have capped := Part.Acts.ite
    (c := (rs.filter fun r => r.leaves t q.hatch.batch).any (dwellCapped q.settings q.hatch.excess q.hatch.dose) = true)
    (h.raise .dwellCapped (.batch (q.hatch.batch.getD 0))) h
  split
  · exact capped
  · exact .ite capped (capped.raise _ _)

end
end Sys2Proof.Machine
end

section
/-! PROOF. The ranges through tallies that release, purge and dose, and the requests of the hatch (chapter 7). -/

namespace Sys2Proof.Machine

variable {p q : Part}

section
variable (h : p.Acts q)
include h

/-! ## Release tally, expiries (R115, R117, R124, R136) -/

/-- The batch of a release tally that is done leaves a dose of 0 (R136). -/
theorem Part.Acts.releaseTally (t : TagReport) : p.Acts (q.releaseTally t) := by
  unfold Part.releaseTally
  extract_lets before table tallied emptied settled
  have gone : p.Acts tallied := (h.withCustody table).releaseExceptions _ _
  have done : p.Acts emptied := gone.withHatch _ fun ⟨_, run, time⟩ => by
    have context : tallied.hatch = before := by simp [tallied, before]
    rw [context] at run time
    exact ⟨Nat.zero_le _, run, time⟩
  have left : p.Acts settled := .ite (done.setHatchState _) (done.stagingTally t)
  split
  · exact .ite ((gone.setHatchState _).unlockWithNotice _ _ _) (gone.setHatchState _)
  · exact .ite (left.handNotices _ _ _ _ _) left

theorem Part.Acts.applyTally (o : TallyOutcome) (t : TagReport) : p.Acts (q.applyTally o t) := by
  cases o with
  | staging => exact h.stagingTally t
  | departure => exact h.departureTally t
  | comparison => exact h.comparisonTally t
  | retrieve => exact h.retrieveTally t
  | release => exact h.releaseTally t
  | heldBatch => exact h.setHatchState _

theorem Part.Acts.tallyCompletes (report : TagReport) : p.Acts (q.tallyCompletes report) := by
  unfold Part.tallyCompletes
  split
  · exact ((h.withHatch _).applyTally _ _).withHatch _
  · exact h

theorem Part.Acts.windowExpires (l : Leaf) : p.Acts (q.windowExpires l) := by
  have closed := (h.setLock l false).clearWindow l
  unfold Part.windowExpires
  dsimp only
  split
  · split
    · exact closed.returnAccess _
    · exact .ite (closed.abandon _) closed
    · exact closed
  · exact h

theorem Part.Acts.stepTimeoutExpires : p.Acts q.stepTimeoutExpires := by
  unfold Part.stepTimeoutExpires
  split
  · exact .ite (h.abandon _) (h.withHatch _)
  · exact h

/-- A fire locks the hatch, whatever it finds there (R126). -/
theorem Part.Acts.hatchTakesFire (old : FireState) : p.Acts (q.hatchTakesFire old) := by
  unfold Part.hatchTakesFire
  dsimp only
  split
  · split
    · exact h.lockBoth.abandon _
    · split
      · exact .ite (h.lockBoth.returnAccess _) h.lockBoth
      · split
        · split
          · exact h.lockBoth.setHatchState _
          · exact h.lockBoth.setHatchState _
          · exact h.lockBoth.stagingTally _
        · exact h.lockBoth
      · exact h.lockBoth
  · exact h

/-! ## Purge and dose (R134, R135, R137) -/

theorem Part.Acts.completePurge (timedOut : Bool) : p.Acts (q.completePurge timedOut) :=
  ((Part.Acts.ite (h.raise _ _) h).endPurge.setHatchState _).unlockWithNotice _ _ _

/-- The purge time stops at purge max (R134). -/
theorem Part.Acts.purgeSecond : p.Acts q.purgeSecond := by
  unfold Part.purgeSecond
  split
  · have timed : p.Acts (q.withHatch { q.hatch with purgeTime := min q.settings.purgeMax (q.hatch.purgeTime + 1) }) :=
      h.withHatch _ fun ⟨dose, run, _⟩ => ⟨dose, run, Nat.min_le_left _ _⟩
    exact .ite (timed.completePurge _) timed
  · exact h

/-- The dose stops at its top (R137). -/
theorem Part.Acts.accumulateDose (store chamber : Option Nat) : p.Acts (q.accumulateDose store chamber) := by
  unfold Part.accumulateDose
  split
  · split
    · next c s =>
      have dosed : p.Acts (q.withHatch { q.hatch with dose := min maxDose (q.hatch.dose + (c - s)) }) :=
        h.withHatch _ fun ⟨_, rest⟩ => ⟨Nat.min_le_left _ _, rest⟩
      exact .ite (dosed.raise _ _) dosed
    · exact h
  · exact h

/-- The tolerance run stops at 3 (R134). -/
theorem Part.Acts.toleranceHandOff (store chamber : Option Nat) : p.Acts (q.toleranceHandOff store chamber) := by
  unfold Part.toleranceHandOff
  split
  · split
    · have longer : p.Acts (q.withHatch { q.hatch with toleranceRun := min toleranceRunNeeded (q.hatch.toleranceRun + 1) }) :=
        h.withHatch _ fun ⟨dose, _, time⟩ => ⟨dose, Nat.min_le_left _ _, time⟩
      exact .ite (longer.completePurge _) longer
    · exact h.withHatch _ fun ⟨dose, _, time⟩ => ⟨dose, Nat.zero_le _, time⟩
  · exact h

theorem Part.Acts.hatchHandOff (store chamber : Option Nat) : p.Acts (q.hatchHandOff store chamber) :=
  ((h.withHatch _).accumulateDose _ _).toleranceHandOff _ _

/-! ## Requests of the hatch (R119, R121 to R133) -/

theorem Part.Acts.takeOpenInner (a : Asker) : p.Acts (q.takeOpenInner a) := by
  unfold Part.takeOpenInner
  dsimp only
  refine .ite (h.reply _ _ _) (.ite (h.reply _ _ _) (.ite (h.reply _ _ _) (.ite (h.reply _ _ _) ?_)))
  exact (((h.withHatch _).unlock _).setHatchState _).reply _ _ _

theorem Part.Acts.takeInboundAttest (a : Asker) (x : HandoverRequest) : p.Acts (q.takeInboundAttest a x) :=
  ((h.withHatch _).setHatchState _).evaluate.reply _ _ _

theorem Part.Acts.takeStep (a : Asker) (x : HandoverRequest) : p.Acts (q.takeStep a x) := by
  unfold Part.takeStep
  split
  · exact h.takeInboundAttest a _
  · exact (((h.withHatch _).setHatchState _).unlockWithNotice _ _ _).reply _ _ _
  · exact (h.withHatch _).reply _ _ _

theorem Part.Acts.takeWhileOpen (a : Asker) (x : HandoverRequest) : p.Acts (q.takeWhileOpen a x) :=
  .ite (h.reply _ _ _) (.ite (h.takeStep a x) (.ite ((h.reply _ _ _).abandon _) ((h.refuseSequence _ _).abandon _)))

theorem Part.Acts.takePresentOut (a : Asker) (b n c : Nat) : p.Acts (q.takePresentOut a b n c) := by
  unfold Part.takePresentOut
  dsimp only
  refine .ite (h.reply _ _ _) (.ite (h.reply _ _ _) (.ite (h.reply _ _ _) (.ite (h.refuseSequence _ _) ?_)))
  exact (h.withHatch _).reply _ _ _

theorem Part.Acts.takePresentIn (a : Asker) (b n c : Nat) : p.Acts (q.takePresentIn a b n c) := by
  unfold Part.takePresentIn
  dsimp only
  refine .ite (h.reply _ _ _) (.ite (h.reply _ _ _) (.ite (h.reply _ _ _) (.ite (h.reply _ _ _) ?_)))
  exact ((((h.withCustody _).withHatch _).setHatchState _).unlockWithNotice _ _ _).reply _ _ _

theorem Part.Acts.takeWhileClosed (a : Asker) (x : HandoverRequest) : p.Acts (q.takeWhileClosed a x) := by
  unfold Part.takeWhileClosed
  split
  · exact h.takePresentOut a _ _ _
  · exact h.takePresentIn a _ _ _
  · exact .ite (.ite (h.reply _ _ _) (.ite (h.reply _ _ _) (h.takeInboundAttest _ _))) (h.refuseSequence _ _)
  · exact .ite (.ite (h.reply _ _ _) (((h.withHatch _).unlockWithNotice _ _ _).reply _ _ _)) (h.refuseSequence _ _)
  · exact h.refuseSequence _ _

theorem Part.Acts.takeHandover (a : Asker) (x : HandoverRequest) : p.Acts (q.takeHandover a x) :=
  .ite (h.reply _ _ _) (.ite (h.takeWhileOpen a x) (h.takeWhileClosed a x))

end

end Sys2Proof.Machine
end

section
/-! PROOF. The ranges through the fire sequencer (chapter 5): the table of the sequencer's fields, rule by rule, and the
rules at the part. -/

namespace Sys2Proof.Machine

/-! ## The fields of the sequencer (Table 5-1) -/

/-- PRE_DISCHARGE with a countdown and a recorded alarm (R72). -/
theorem FireSequencer.sound_preDischarge (f : FireSequencer) {acts : Prop} {alarm : Option AlarmRecord}
    (recorded : alarm ≠ none) (paused : Bool) (n : Nat) :
    FireSequencer.Sound { f with
      state := .preDischarge, paused := paused, countdown := some n, pulseEnd := none, confirmationEnd := none
      pressureFall := false, holdEnd := none, alarm := alarm } acts := by
  simp_all [FireSequencer.Sound]

namespace FireSequencer.Sound

variable {f : FireSequencer} {acts : Prop} (h : f.Sound acts)
include h

theorem alarm_ne_none (burns : f.state ≠ .quiet) : f.alarm ≠ none := fun absent => burns (h.1.1 absent)

/-- CYLINDER_LOW is in no law of the sequencer (R83). -/
theorem entered (low : Bool) : (f.entered low).Sound acts := by
  unfold FireSequencer.entered
  split
  · exact h
  · exact h

/-- An alarm that is recorded, in QUIET (R68). -/
theorem alert_of_quiet (state : f.state = .quiet) (a : AlarmRecord) :
    Sound { f with state := .alert, alarm := some a } acts := by
  simp_all [Sound]

/-- A discharge cancelled, in PRE_DISCHARGE (R76). -/
theorem alert_of_preDischarge (state : f.state = .preDischarge) :
    Sound { f with state := .alert, paused := false, countdown := none } acts := by
  simp_all [Sound]

/-- The countdown of PRE_DISCHARGE expired (R75, R77). -/
theorem discharged (state : f.state = .preDischarge) (pulse confirmation : Time) :
    Sound { f with
      state := .discharged, paused := false, countdown := none, pulseEnd := some pulse
      confirmationEnd := some confirmation, pressureFall := false } acts := by
  simp_all [Sound]

/-- The release over (R78 to R80). -/
theorem hold (state : f.state = .discharged) (e : Time) (unconfirmed : Bool) :
    Sound { f with
      state := .hold, pulseEnd := none, confirmationEnd := none, holdEnd := some e
      releaseUnconfirmed := unconfirmed } acts := by
  simp_all [Sound]

/-- The hold over (R81). -/
theorem spent (state : f.state = .hold) : Sound { f with state := .spent, holdEnd := none } acts := by
  simp_all [Sound]

/-- A fire reset, from ALERT or SPENT (R82). -/
theorem quiet (state : f.state = .alert ∨ f.state = .spent) :
    Sound { f with state := .quiet, alarm := none, releaseUnconfirmed := false } acts := by
  rcases state with state | state
  · simp_all [Sound]
  · simp_all [Sound]

/-- The release pulse over, the confirmation not (R79). -/
theorem pulseEnded : Sound { f with pulseEnd := none } acts := by
  obtain ⟨alarm, countdown, _, rest⟩ := h
  exact ⟨alarm, countdown, fun runs => absurd rfl runs, rest⟩

/-- A countdown that goes on at another value (R69, R73). -/
theorem counting (g : Nat → Nat) : Sound { f with countdown := f.countdown.map g } acts := by
  simp_all [Sound]

/-- A pause of the countdown (R74). -/
theorem pause (state : f.state = .preDischarge) : Sound { f with paused := true } acts := by
  simp_all [Sound]

/-- The end of a pause (R74). -/
theorem resume (g : Nat → Nat) : Sound { f with paused := false, countdown := f.countdown.map g } acts := by
  simp_all [Sound]

end FireSequencer.Sound

/-- The states RESET_FIRE leaves (R82). -/
theorem FireState.resettable_iff {st : FireState} : st.resettable = true ↔ st = .alert ∨ st = .spent := by
  cases st <;> decide

/-! ## The rules of the sequencer at the part -/

variable {p q : Part} (h : p.Acts q)
include h

/-- A change of the fire state keeps the ranges where the sequencer it gives meets its table (R66). -/
theorem Part.Acts.changeFire (f : FireSequencer)
    (sound : q.fire.Sound (q.running = true) → f.Sound (q.running = true)) : p.Acts (q.changeFire f) :=
  ((((h.withFire _ fun fire => (sound fire).entered _).requestOutput _ _).requestOutput _ _).handFireState.evaluate).hatchTakesFire _

theorem Part.Acts.updateFire (f : FireSequencer)
    (sound : q.fire.Sound (q.running = true) → f.Sound (q.running = true)) : p.Acts (q.updateFire f) :=
  (h.withFire f sound).handFireState

/-! ### PRE_DISCHARGE and release (R72 to R81) -/

theorem Part.Acts.discharge (state : q.fire.state = .preDischarge) : p.Acts q.discharge :=
  (h.changeFire _ fun sound => sound.discharged state _ _).requestOutput _ _

theorem Part.Acts.expireAtZero : p.Acts q.expireAtZero := by
  unfold Part.expireAtZero
  split
  · next expires => exact h.discharge (Part.countdownOver_iff.1 expires).1
  · exact h

theorem Part.Acts.enterPreDischarge (n : Nat) (alarm : Option AlarmRecord)
    (recorded : q.fire.Sound (q.running = true) → alarm ≠ none) : p.Acts (q.enterPreDischarge n alarm) :=
  (h.changeFire _ fun sound => q.fire.sound_preDischarge (recorded sound) _ _).expireAtZero

theorem Part.Acts.confirmFire (state : q.fire.state = .alert) : p.Acts q.confirmFire :=
  h.enterPreDischarge _ _ fun sound => sound.alarm_ne_none (by simp [state])

theorem Part.Acts.enterHold (unconfirmed : Bool) (state : q.fire.state = .discharged) : p.Acts (q.enterHold unconfirmed) :=
  (h.requestOutput _ _).changeFire _ fun sound => sound.hold state _ _

theorem Part.Acts.pulseEnds (due : q.pulseDue = true) : p.Acts q.pulseEnds := by
  have state : q.fire.state = .discharged := by simp_all [Part.pulseDue]
  exact .ite (h.enterHold _ state) ((h.requestOutput _ _).withFire _ fun sound => sound.pulseEnded)

theorem Part.Acts.confirmationEnds (due : q.confirmationDue = true) : p.Acts q.confirmationEnds :=
  h.enterHold _ (by simp_all [Part.confirmationDue])

theorem Part.Acts.holdEnds (due : q.holdDue = true) : p.Acts q.holdEnds :=
  h.changeFire _ fun sound => sound.spent (by simp_all [Part.holdDue])

theorem Part.Acts.countdownSecond : p.Acts q.countdownSecond :=
  .ite (h.withFire _ fun sound => sound.counting _).expireAtZero h

/-! ### What confirms (R68 to R71) -/

theorem Part.Acts.enterAlert (a : AlarmRecord) (state : q.fire.state = .quiet) : p.Acts (q.enterAlert a) := by
  have entered := h.changeFire _ fun sound => sound.alert_of_quiet state a
  exact .ite (entered.confirmFire (by rw [Part.changeFire_fire, FireSequencer.entered_state])) entered

theorem Part.Acts.takeLoopChange (l : LoopId) (old new : LoopClass) : p.Acts (q.takeLoopChange l old new) := by
  unfold Part.takeLoopChange
  dsimp only
  split
  · next state =>
    exact .ite (.ite (h.enterPreDischarge _ _ fun _ => nofun) (h.enterAlert _ state)) h
  · next state =>
    exact .ite (h.confirmFire state) (.ite (.ite h (h.confirmFire state)) h)
  all_goals exact h

theorem Part.Acts.takeNeighbourChange (st : FireState) : p.Acts (q.takeNeighbourChange st) := by
  unfold Part.takeNeighbourChange
  split
  · next alert => exact h.confirmFire alert.1
  · exact h

/-! ### Inputs (R69, R74, R78, R83) -/

theorem Part.Acts.manualRelease : p.Acts q.manualRelease := by
  unfold Part.manualRelease
  dsimp only
  split
  · exact h.enterPreDischarge _ _ fun _ => nofun
  · next state => exact h.enterPreDischarge _ _ fun sound => sound.alarm_ne_none (by simp [state])
  · exact .ite h (h.updateFire _ fun sound => sound.counting _).expireAtZero
  all_goals exact h

theorem Part.Acts.takeAbort (active : Bool) : p.Acts (q.takeAbort active) := by
  unfold Part.takeAbort
  split
  · next state =>
    exact .ite (.ite h (h.updateFire _ fun sound => sound.pause state))
      (.ite (h.updateFire _ fun sound => sound.resume _) h)
  · exact h

theorem Part.Acts.setCylinderLow (low : Bool) : p.Acts (q.setCylinderLow low) := .ite h (h.updateFire _ id)

theorem Part.Acts.takePressure (normal : Bool) : p.Acts (q.takePressure normal) := by
  unfold Part.takePressure
  dsimp only
  split
  · exact h.setCylinderLow _
  · split
    · exact h.setCylinderLow _
    · exact h.setCylinderLow _
    · next state => exact .ite ((h.withFire _).enterHold _ state) (h.withFire _)
    all_goals exact h

/-! ### Requests (R76, R82) -/

theorem Part.Acts.takeCancelDischarge (a : Asker) : p.Acts (q.takeCancelDischarge a) := by
  unfold Part.takeCancelDischarge
  split
  · exact h.reply _ _ _
  · next state =>
    have cancelled := h.changeFire _ fun sound => sound.alert_of_preDischarge (Decidable.not_not.1 state)
    exact .ite (h.reply _ _ _) (cancelled.reply _ _ _)

theorem Part.Acts.takeResetFire (a : Asker) : p.Acts (q.takeResetFire a) := by
  unfold Part.takeResetFire
  split
  · exact h.reply _ _ _
  · next taken =>
    have resettable : q.fire.state.resettable = true := by simp_all
    have left := FireState.resettable_iff.1 resettable
    exact (h.changeFire _ fun sound => sound.quiet left).reply _ _ _

end Sys2Proof.Machine
end

section
/-! PROOF. The ranges through the moisture unit, the substitution store and the inputs (chapters 1, 2 and 4). -/

namespace Sys2Proof.Machine

/-! ## Moisture: figures and counts (R5 to R17) -/

/-- The law of one channel record (Table 1-2). -/
def Channel.InRange (c : Channel) : Prop := moistureInRange c.lastMoisture ∧ c.goodCount ≤ 10 ∧ c.missCount ≤ 3

/-- Whatever the counts were, an outcome leaves both in their ranges (Table 1-3). -/
theorem Channel.judged_counts (c : Channel) (o : Outcome) :
    (c.judged o).goodCount ≤ 10 ∧ (c.judged o).missCount ≤ 3 ∧ (c.judged o).lastMoisture = c.lastMoisture := by
  cases o with
  | good => cases hc : c.health <;> simp [Channel.judged, hc, topGood]
  | clamped => cases hc : c.health <;> simp [Channel.judged, hc]
  | miss => cases hc : c.health <;> simp [Channel.judged, hc, topMiss]

theorem Channel.reads_inRange (c : Channel) (t : Int) (rh : Nat) : (c.reads t rh).InRange := by
  obtain ⟨good, misses, _⟩ := c.judged_counts (if readingClamped t rh then .clamped else .good)
  refine ⟨fun x figure => ?_, good, misses⟩
  cases figure
  exact moistureOf_le (by unfold clampTemperature; omega) (by unfold clampTemperature; omega) (Nat.min_le_left _ _)

theorem Channel.InRange.misses {c : Channel} (h : c.InRange) : c.misses.InRange := by
  obtain ⟨good, misses, same⟩ := c.judged_counts .miss
  exact ⟨fun x figure => h.1 x (same ▸ figure), good, misses⟩

/-- The mean of two figures of the range, rounded half up, and a single figure, lie in it (R12). -/
theorem GroupRecord.evaluated_inRange {r : GroupRecord} {a b : Option Nat} (now : Time) (hr : moistureInRange r.moisture)
    (ha : moistureInRange a) (hb : moistureInRange b) : moistureInRange (r.evaluated now a b).moisture := by
  unfold GroupRecord.evaluated
  split
  · next x y =>
    have := ha x rfl
    have := hb y rfl
    intro m mean
    cases mean
    unfold topMoisture at *
    omega
  · exact ha
  · exact hb
  · split
    · exact hr
    · exact hr

theorem GroupRecord.counted_inRange {r : GroupRecord} (h : moistureInRange r.moisture) : moistureInRange r.counted :=
  fun x figure => h x (GroupRecord.counted_eq_some.1 figure).2

variable {p q : Part}

theorem Part.MoistureBounded.channel (h : q.MoistureBounded) (g : Group) (pl : Place) : (q.moisture.channel g pl).InRange :=
  h.1 g pl

theorem Part.MoistureBounded.usableMoisture (h : q.MoistureBounded) (g : Group) (pos : Position) :
    moistureInRange (q.usableMoisture g pos) := by
  unfold Part.usableMoisture
  dsimp only
  split
  · exact (h.channel _ _).1
  · nofun

theorem Part.MoistureBounded.groupAfterScan (h : q.MoistureBounded) (g : Group) :
    moistureInRange (q.groupAfterScan g).moisture := by
  unfold Part.groupAfterScan
  split
  · exact h.2.1 g
  · exact GroupRecord.evaluated_inRange _ (h.2.1 g) (h.usableMoisture g .a) (h.usableMoisture g .b)

/-- Store and chamber moisture are figures of groups (R16, R17). -/
theorem Part.MoistureBounded.withGroups (h : q.MoistureBounded) {groups : PerGroup GroupRecord}
    (range : ∀ g, moistureInRange (groups.get g).moisture) (scan : Option Scan) :
    (q.withMoisture { q.moisture.withGroups groups with scan := scan }).MoistureBounded := by
  refine ⟨h.1, range, fun m store => ?_, GroupRecord.counted_inRange (range .g3)⟩
  obtain ⟨⟨g, _, counted⟩, _⟩ := storeMoisture_eq_some.1 store
  exact GroupRecord.counted_inRange (range g) m counted

/-- A channel record replaced by one in its ranges (R7). -/
theorem Part.MoistureBounded.setChannel (h : q.MoistureBounded) (g : Group) (pl : Place) {c : Channel} (range : c.InRange) :
    (q.withMoisture (q.moisture.setChannel g pl c)).MoistureBounded := by
  refine ⟨fun g' pl' => ?_, h.2⟩
  show (((q.moisture.channels.set g ((q.moisture.channels.get g).set pl c)).get g').get pl').InRange
  by_cases group : g' = g
  · subst group
    rw [PerGroup.get_set_same]
    by_cases place : pl' = pl
    · subst place; rwa [PerPlace.get_set_same]
    · rw [PerPlace.get_set_other _ _ place]; exact h.1 g' pl'
  · rw [PerGroup.get_set_other _ _ group]; exact h.1 g' pl'

section
variable (h : p.Acts q)
include h

theorem Part.Acts.stalenessExpires (g : Group) : p.Acts (q.stalenessExpires g) := by
  refine h.withMoisture _ fun bounded => bounded.withGroups
    (groups := q.moisture.groups.set g { q.moisture.groups.get g with freshness := .lost }) (fun g' => ?_) q.moisture.scan
  by_cases group : g' = g
  · subst group; rw [PerGroup.get_set_same]; exact bounded.2.1 g'
  · rw [PerGroup.get_set_other _ _ group]; exact bounded.2.1 g'

theorem Part.Acts.beginScan : p.Acts q.beginScan := by
  refine h.withMoisture _ fun bounded => ⟨fun g pl => ?_, bounded.2⟩
  simpa [MoistureUnit.channel] using bounded.1 g pl

theorem Part.Acts.rescheduleScan : p.Acts q.rescheduleScan := h.withMoisture _

theorem Part.Acts.handScan : p.Acts q.handScan := ((h.climateHandOff _).hatchHandOff _ _).handStatus

theorem Part.Acts.scanCompletes : p.Acts q.scanCompletes := by
  refine (h.withMoisture _ fun bounded => bounded.withGroups (fun g => ?_) none).handScan
  rw [PerGroup.get_of]
  exact bounded.groupAfterScan g

theorem Part.Acts.decideChannel (x : Scan) (g : Group) (pl : Place) : p.Acts (q.decideChannel x g pl) :=
  .ite (h.withMoisture _).scanCompletes (h.withMoisture _)

theorem Part.Acts.channelMisses (x : Scan) (g : Group) (pl : Place) : p.Acts (q.channelMisses x g pl) :=
  (h.withMoisture _ fun bounded => bounded.setChannel g pl (bounded.channel g pl).misses).decideChannel x g pl

theorem Part.Acts.channelReads (x : Scan) (g : Group) (pl : Place) (t : Int) (rh : Nat) :
    p.Acts (q.channelReads x g pl t rh) := by
  have read : p.Acts (q.withMoisture (q.moisture.setChannel g pl ((q.moisture.channel g pl).reads t rh))) :=
    h.withMoisture _ fun bounded => bounded.setChannel g pl (Channel.reads_inRange _ _ _)
  exact (Part.Acts.ite (read.raise _ _) read).decideChannel x g pl

theorem Part.Acts.takeAnswer (g : Group) (pl : Place) (t : Int) (rh : Nat) (agrees : Bool) :
    p.Acts (q.takeAnswer g pl t rh agrees) := by
  unfold Part.takeAnswer
  split
  · exact .ite h (.ite (h.channelReads _ _ _ _ _) (h.channelMisses _ _ _))
  · exact h

theorem Part.Acts.windowCloses (g : Group) (pl : Place) : p.Acts (q.windowCloses g pl) := by
  unfold Part.windowCloses
  split
  · exact h.channelMisses _ _ _
  · exact h

end

/-! ## Substitution: soft remaps and burns (R21) -/

theorem SubstitutionStore.holdsGroup_iff {x : SubstitutionStore} {g : Group} :
    x.holdsGroup g = true ↔ ∃ b, x.burn = some b ∧ b.group = g := by
  cases hb : x.burn <;> simp [SubstitutionStore.holdsGroup, hb]

/-- With no burn in flight, a soft remap of a group whose cell reads UNUSED (R23). -/
theorem Part.SpareSound.setSoft (h : q.SpareSound) {g : Group} {soft : Option Position} (idle : q.substitution.burn = none)
    (unused : soft ≠ none → q.substitution.cell.get g = .unused) : (q.setSoft g soft).SpareSound := by
  have free (g' : Group) : q.substitution.holdsGroup g' = false := by simp [SubstitutionStore.holdsGroup, idle]
  refine ⟨fun g' set => ⟨?_, free g'⟩, h.2⟩
  by_cases group : g' = g
  · subst group
    rw [Part.setSoft, Part.withSubstitution_substitution, PerGroup.get_set_same] at set
    exact unused set
  · rw [Part.setSoft, Part.withSubstitution_substitution, PerGroup.get_set_other _ _ group] at set
    exact (h.1 g' set).1

/-- A burn begun in a group without soft remap whose cell reads UNUSED (R26). -/
theorem Part.SpareSound.beginBurn (h : q.SpareSound) {g : Group} (pos : Position)
    (none : q.substitution.soft.get g = none) (unused : q.substitution.cell.get g = .unused) :
    (q.beginBurn g pos).SpareSound := by
  have held {g' : Group} : (q.beginBurn g pos).substitution.holdsGroup g' = true ↔ g' = g := by
    rw [SubstitutionStore.holdsGroup_iff]; simp [Part.beginBurn, eq_comm]
  refine ⟨fun g' set => ⟨(h.1 g' set).1, ?_⟩, fun g' burning => held.1 burning ▸ unused⟩
  rw [← Bool.not_eq_true, held]
  rintro rfl
  exact set none

/-- The group of a burn that completes has no soft remap (R28). -/
theorem Part.SpareSound.burnCompletes (h : q.SpareSound) : q.burnCompletes.SpareSound := by
  unfold Part.burnCompletes
  split
  · next b burn =>
    refine ⟨fun g set => ⟨?_, rfl⟩, nofun⟩
    obtain ⟨unused, free⟩ := h.1 g set
    have other : g ≠ b.group := fun same =>
      absurd (SubstitutionStore.holdsGroup_iff.2 ⟨b, burn, same.symm⟩) (by simp [free])
    rwa [Part.withSubstitution_substitution, PerGroup.get_set_other _ _ other]
  · exact h

section
variable (h : p.Acts q)
include h

theorem Part.Acts.replyRemap (a : Asker) (st : Status) (g : Group) : p.Acts (q.replyRemap a st g) := h.reply _ _ _

theorem Part.Acts.takeRemapSoft (a : Asker) (g : Group) (pos : Position) : p.Acts (q.takeRemapSoft a g pos) := by
  unfold Part.takeRemapSoft
  split
  · exact h.replyRemap _ _ _
  · next idle =>
    split
    · exact h.replyRemap _ _ _
    · next unused =>
      refine .ite (h.replyRemap _ _ _) (.ite (h.replyRemap _ _ _) ((h.withSubstitution _ fun sound => ?_).replyRemap _ _ _))
      exact sound.setSoft (by simpa using idle) fun _ => Decidable.not_not.1 unused

theorem Part.Acts.takeRemapClear (a : Asker) (g : Group) : p.Acts (q.takeRemapClear a g) := by
  unfold Part.takeRemapClear
  split
  · exact h.replyRemap _ _ _
  · next idle =>
    exact (h.withSubstitution _ fun sound => sound.setSoft (by simpa using idle) (absurd rfl)).replyRemap _ _ _

theorem Part.Acts.takeRemapHard (a : Asker) (g : Group) (pos : Position) : p.Acts (q.takeRemapHard a g pos) := by
  unfold Part.takeRemapHard
  split
  · exact h.replyRemap _ _ _
  · split
    · exact h.replyRemap _ _ _
    · next none =>
      split
      · exact h.replyRemap _ _ _
      · next unused =>
        refine .ite (h.replyRemap _ _ _) (.ite (h.reply _ _ _) ((h.withSubstitution _ fun sound => ?_).replyRemap _ _ _))
        exact sound.beginBurn pos (Decidable.not_not.1 none) (Decidable.not_not.1 unused)

theorem Part.Acts.burnCompletes : p.Acts q.burnCompletes := by
  have sound := Part.SpareSound.burnCompletes (q := q)
  unfold Part.burnCompletes at sound ⊢
  split at sound
  · exact h.withSubstitution _ sound
  · exact h

/-! ## Loops and inputs (R51 to R63) -/

theorem Part.Acts.takeLoopReading (l : LoopId) (reading : Nat) : p.Acts (q.takeLoopReading l reading) := by
  unfold Part.takeLoopReading
  extract_lets old new counted shown
  have kept : p.Acts shown := .ite (h.withLoops _) (h.withLoops _).handFireState
  exact .ite kept (kept.takeLoopChange _ _ _)

theorem Part.Acts.handInput (i : InputId) (active : Bool) : p.Acts (q.handInput i active) := by
  cases i with
  | in0 => exact h.takeLeaf _ _
  | in1 => exact h.takeLeaf _ _
  | in2 => exact .ite h.manualRelease h
  | in3 => exact h.takeAbort _
  | in4 => exact h.takePressure _
  | in5 => exact h.superviseSwitch _
  | in6 => exact h.takePlantInput _
  | in7 => exact h

theorem Part.Acts.acceptInput (i : InputId) : p.Acts (q.acceptInput i) := by
  unfold Part.acceptInput
  dsimp only
  split
  · exact h
  · exact .ite (h.withInputs _) ((h.withInputs _).handInput _ _)

theorem Part.Acts.takeAckEvents (a : Asker) (named : Byte) : p.Acts (q.takeAckEvents a named) :=
  ((((h.withInputs _).withSubstitution _).withHatch _).withCustody _).reply _ _ _

end

end Sys2Proof.Machine
end

section
/-! PROOF. The ranges through frames, requests and the clock (chapters 6, 8 and 9). -/

namespace Sys2Proof.Machine

/-! ## Numbers of a payload (R160) -/

theorem numberOfBytes_append (bs : List Byte) (b : Byte) :
    numberOfBytes (bs ++ [b]) = numberOfBytes bs * 256 + b.toNat := by
  simp [numberOfBytes]

theorem numberOfBytes_lt (bs : List Byte) : numberOfBytes bs < 256 ^ bs.length := by
  induction bs using List.reverseRecOn with
  | nil => decide
  | append_singleton bs b ih =>
    rw [numberOfBytes_append, List.length_append, List.length_singleton, Nat.pow_succ]
    have := b.isLt
    omega

theorem payloadField_lt (payload : List Byte) (offset n : Nat) : payloadField payload offset n < 256 ^ n :=
  (numberOfBytes_lt _).trans_le (Nat.pow_le_pow_right (by decide) (List.length_take_le _ _))

/-- The minute count that a STATUS carries has 32 bits (R169). -/
theorem contentOf_minute_le {f : RxFrame} {n : Minute} (carried : (contentOf f).minute = some n) : n ≤ 4294967295 := by
  unfold contentOf at carried
  dsimp only at carried
  split at carried
  · split at carried <;> cases carried
  · split at carried
    · cases carried
      exact Nat.le_of_lt_succ (payloadField_lt f.payload 0 4)
    · cases carried
  · split at carried <;> cases carried
  all_goals cases carried

variable {p q : Part} (h : p.Acts q)
include h

/-! ## Clock (R168, R169) -/

theorem Part.Acts.adoptMinute (f : RxFrame) : p.Acts (q.adoptMinute (contentOf f).minute) := by
  unfold Part.adoptMinute
  split
  · next n carried =>
    exact .ite (h.withClock _ fun ⟨second, ofMinute, _⟩ => ⟨second, ofMinute, contentOf_minute_le carried⟩) h
  · exact h

theorem Part.Acts.countSecond : p.Acts q.countSecond := by
  unfold Part.countSecond
  split
  · next below => exact h.withClock _ fun ⟨_, rest⟩ => ⟨Nat.succ_le_of_lt below, rest⟩
  · exact h.draw.withClock _ fun ⟨_, rest⟩ => ⟨Nat.le_of_lt_succ (Config.secondCountPastTop _).isLt, rest⟩

theorem Part.Acts.advanceSecond : p.Acts q.advanceSecond := by
  refine (h.countSecond.withClock q.countSecond.clock.countSecondOfMinute
    fun ⟨second, _, minute⟩ => ⟨second, ?_, minute⟩).countdownSecond.purgeSecond
  show (if 60 ≤ q.countSecond.clock.secondOfMinute + 1 then 0 else q.countSecond.clock.secondOfMinute + 1) ≤ 59
  split
  · exact Nat.zero_le _
  · omega

theorem Part.Acts.riseMinute : p.Acts q.riseMinute := by
  unfold Part.riseMinute
  split
  · next below =>
    exact (h.withClock { q.clock with minute := q.minute + 1, minuteRiseDue := false }
      fun ⟨second, ofMinute, _⟩ => ⟨second, ofMinute, Nat.succ_le_of_lt below⟩).withCustody _
  · exact h.withClock _

/-! ## Patterns (R172) -/

theorem Part.Acts.phaseEnds (g : Signal) : p.Acts (q.phaseEnds g) := by
  refine h.withOutputs _ fun ⟨digital, damper⟩ => ⟨fun u unfitted => ?_, fun unfitted => ?_⟩
  · have released := digital u unfitted
    by_cases same : u = signalOutput g
    · subst same; simp [released, OutputState.nextPhase]
    · simpa [OutputDriver.get_set_other _ _ same] using released
  · simpa using damper unfitted

/-! ## Peer view (R163 to R166) -/

theorem Part.Acts.handPeerChange (old : Option PeerEntry) (new : PeerEntry) : p.Acts (q.handPeerChange old new) := by
  unfold Part.handPeerChange
  extract_lets told
  have kept : p.Acts told := by
    unfold told
    split
    · exact h.takeNeighbourChange _
    · exact h
  exact .ite kept.evaluate kept

theorem Part.Acts.hearFrame (f : RxFrame) : p.Acts (q.hearFrame f) := by
  unfold Part.hearFrame
  dsimp only
  split
  · exact (h.withPeers _).handPeerChange _ _
  · exact h.withPeers _

theorem Part.Acts.peerEntryExpires (s : Station) : p.Acts (q.peerEntryExpires s) := (h.withPeers _).evaluate

theorem Part.Acts.watchExpires (s : Station) : p.Acts (q.watchExpires s) := h.withPeers _

/-! ## Requests (R158, R159) -/

theorem Part.Acts.takeCheckout (a : Asker) (n : Nat) (ls : List Label) : p.Acts (q.takeCheckout a n ls) :=
  .ite (h.reply _ _ _) ((h.withCustody _).reply _ _ _)

/-- A conditional request that its tests refuse is answered (R95). -/
theorem Part.Acts.conditional (a : Asker) (l : Label) (n : Nat) (st : RecordState) {act : CustodyRecord → Part}
    (taken : ∀ x, p.Acts (act x)) : p.Acts (q.conditional a l n st act) := by
  unfold Part.conditional
  split
  · exact h.reply _ _ _
  · split
    · exact h.reply _ _ _
    · exact .ite (h.reply _ _ _) (.ite (h.reply _ _ _) (taken _))

theorem Part.Acts.takeQuery (a : Asker) (l : Label) : p.Acts (q.takeQuery a l) := by
  unfold Part.takeQuery
  split
  · exact h.reply _ _ _
  · exact h.reply _ _ _

theorem Part.Acts.takeClearExceptions (a : Asker) : p.Acts (q.takeClearExceptions a) :=
  (h.withExceptions _ fun _ => ⟨Nat.zero_le _, fun _ _ => rfl⟩).reply _ _ _

theorem Part.Acts.takeSetOccupancy (a : Asker) (o : Occupancy) : p.Acts (q.takeSetOccupancy a o) :=
  .ite (h.reply _ _ _) (.ite (h.reply _ _ _) ((h.withOccupancy _).rescheduleScan.reply _ _ _))

theorem Part.Acts.takeRestart (a : Asker) : p.Acts (q.takeRestart a) :=
  .ite (h.reply _ _ _) ((h.restartPending _).handFrame _)

theorem Part.Acts.handToOwner (a : Asker) (r : Request) : p.Acts (q.handToOwner a r) := by
  cases r with
  | cancelDischarge => exact h.takeCancelDischarge a
  | resetFire => exact h.takeResetFire a
  | present _ _ _ _ => exact h.takeHandover a _
  | attest _ _ => exact h.takeHandover a _
  | accept _ => exact h.takeHandover a _
  | withdraw _ => exact h.takeHandover a _
  | checkout _ _ => exact h.takeCheckout a _ _
  | cancel _ _ => exact h.conditional _ _ _ _ fun _ => (h.withCustody _).reply _ _ _
  | extendLoan _ _ _ => exact h.conditional _ _ _ _ fun _ => (h.withCustody _).reply _ _ _
  | shelved _ _ => exact h.conditional _ _ _ _ fun _ => (h.withCustody _).reply _ _ _
  | query _ => exact h.takeQuery a _
  | list _ => exact h.reply _ _ _
  | openInner => exact h.takeOpenInner a
  | ackEvents _ => exact h.takeAckEvents a _
  | setOccupancy _ => exact h.takeSetOccupancy a _
  | remapSoft _ _ => exact h.takeRemapSoft a _ _
  | remapClear _ => exact h.takeRemapClear a _
  | remapHard _ _ => exact h.takeRemapHard a _ _
  | exceptionList => exact h.reply _ _ _
  | clearExceptions => exact h.takeClearExceptions a
  | restart => exact h.takeRestart a

theorem Part.Acts.refuseLength (a : Asker) : p.Acts (q.refuseLength a) := h.draw.reply _ _ _

theorem Part.Acts.answer (a : Asker) (role : Role) (r : Request) : p.Acts (q.answer a role r) := by
  unfold Part.answer
  refine .ite (h.reply _ _ _) (.ite (h.refuseLength a) ?_)
  split
  · exact h.reply _ _ _
  · exact h.handToOwner a r

theorem Part.Acts.takeRequest (src : Station) (role : Role) (r : Request) : p.Acts (q.takeRequest src role r) :=
  .ite (h.answer _ _ _) h

theorem Part.Acts.dispatch (f : RxFrame) : p.Acts (q.dispatch f) := by
  unfold Part.dispatch
  dsimp only
  split
  case h_1 => exact h.reply _ _ _
  case h_6 =>
    refine .ite (h.reply _ _ _) ?_
    split
    · exact h.answer _ _ _
    · exact h.refuseLength _
  all_goals exact h

theorem Part.Acts.receiveFrame (f : RxFrame) : p.Acts (q.receiveFrame f) := by
  have minute := Part.Acts.ite (c := (q.bus.station == some f.dest || f.dest == broadcastStation) = true)
    ((h.hearFrame f).adoptMinute f) (h.hearFrame f)
  exact .ite (.ite (minute.dispatch f) minute) h

theorem Part.Acts.onQueue (g : List TxFrame → List TxFrame) : p.Acts (q.onQueue g) := h.withBus _

end Sys2Proof.Machine
end

section
/-! PROOF. The ranges through a start: the configuration it reads, its stages, its completion (chapter 11). -/

namespace Sys2Proof.Machine

/-! ## The configuration record (Table 11-1, R147, R183) -/

theorem recordNeighbours_length_le (r : List Byte) : (recordNeighbours r).length ≤ 4 :=
  calc (recordNeighbours r).length
      ≤ (((r.drop 1).take 4).filterMap fun b => if b.toNat = 0 then none else some (BitVec.ofNat 6 b.toNat)).length :=
        (List.dedup_sublist _).length_le
    _ ≤ ((r.drop 1).take 4).length := List.length_filterMap_le _ _
    _ ≤ 4 := List.length_take_le _ _

theorem validStation_ofNat {n : Nat} (low : n ≠ 0) (high : n ≤ 62) : validStation (BitVec.ofNat 6 n) = true := by
  have notZero : BitVec.ofNat 6 n ≠ 0#6 := by bv_omega
  have notBroadcast : BitVec.ofNat 6 n ≠ 63#6 := by bv_omega
  simp [validStation, notZero, notBroadcast]

/-- The neighbours of a record in its ranges are stations that can send (R183). -/
theorem validStation_of_mem_recordNeighbours {own : Option Station} {r : List Byte} {n : Station}
    (good : ((r.drop 1).take 4).all (neighbourByteGood own) = true) (mem : n ∈ recordNeighbours r) :
    validStation n = true := by
  obtain ⟨b, place, named⟩ := List.mem_filterMap.1 (List.mem_dedup.1 mem)
  have range := List.all_eq_true.1 good b place
  split at named
  · cases named
  · next low =>
    cases named
    exact validStation_ofNat low (by simp [neighbourByteGood] at range; exact range.1)

variable {p q : Part}

/-- A record in its ranges gives a configuration in the ranges of Table 11-1. -/
theorem recordSettings_inRange {own : Option Station} {r : List Byte} (good : recordInRange own r = true)
    (read : p.settings = recordSettings r) : p.SettingsInRange := by
  simp only [recordInRange, inRange, Bool.and_eq_true, decide_eq_true_eq] at good
  obtain ⟨⟨⟨⟨⟨⟨⟨⟨⟨⟨⟨⟨⟨⟨⟨⟨⟨⟨⟨⟨duct, neighbours⟩, setpoint⟩, deadband⟩, gain⟩, share⟩, _⟩, park⟩, tolerance⟩, purgeMax⟩, staffed⟩,
    unstaffed⟩, manual⟩, hold⟩, step⟩, base⟩, cap⟩, detectors⟩, _⟩, _⟩, dwell⟩ := good
  have purgeDemand : (r.getD 14 0#8).toNat < 256 := (r.getD 14 0#8).isLt
  have senders (n : Station) : n ∈ recordNeighbours r → validStation n = true :=
    validStation_of_mem_recordNeighbours neighbours
  have few := recordNeighbours_length_le r
  unfold Part.SettingsInRange
  rw [read]
  exact ⟨duct.2, few, senders, setpoint.1, setpoint.2, deadband.2, gain.1, gain.2, share.1, share.2, park.2,
    Nat.le_of_lt_succ purgeDemand, tolerance.1, tolerance.2, purgeMax.1, purgeMax.2, staffed.1, staffed.2, unstaffed.2,
    manual.2, hold.1, hold.2, step.1, step.2, base.2, cap.1, cap.2, dwell, detectors.1, detectors.2⟩

theorem default_inRange (read : p.settings = Settings.default) : p.SettingsInRange := by
  unfold Part.SettingsInRange
  rw [read]
  decide

theorem goodRecord_some {own : Option Station} {answer : Option (List Byte)} {c : Settings}
    (good : goodRecord own answer = some c) : ∃ r, recordInRange own r = true ∧ c = recordSettings r := by
  unfold goodRecord at good
  split at good
  · cases good
  · next r =>
    split at good
    · next passes =>
      simp only [Bool.and_eq_true] at passes
      cases good
      exact ⟨r, passes.2, rfl⟩
    · cases good

/-- A power start runs on settings in their ranges, whatever its memory answers (R183, R184). -/
theorem PowerReading.basis_inRange (x : PowerReading) (read : p.settings = x.basis.settings) : p.SettingsInRange := by
  unfold PowerReading.basis at read
  dsimp only at read
  split at read
  · next good =>
    obtain ⟨r, range, rfl⟩ := goodRecord_some good
    exact recordSettings_inRange range read
  · exact default_inRange read

end Sys2Proof.Machine
end

section
/-! PROOF. The ranges through the stages of a start, and through its completion (R186). -/

namespace Sys2Proof.Machine

variable {p q : Part}

/-! ## What stage 1 ends -/

/-- No timer of the sequencer runs (R86). -/
structure FireSequencer.Rests (f : FireSequencer) : Prop where
  paused : f.paused = false
  countdown : f.countdown = none
  pulseEnd : f.pulseEnd = none
  confirmationEnd : f.confirmationEnd = none
  holdEnd : f.holdEnd = none

/-- A start is in progress that has passed stage 1, and nothing that it ended has begun again. -/
structure Part.Abandoned (p : Part) : Prop where
  unfinished : p.startUp.inProgress ≠ none
  fire : p.fire.Rests
  purge : p.hatch.purgeTime = 0
  burn : p.substitution.burn = none

theorem Part.not_acting (unfinished : p.startUp.inProgress ≠ none) : p.running ≠ true := by
  simp [Part.running_eq, Option.isNone_iff_eq_none, unfinished]

/-- Of a sequencer whose timers have ended, in a part that does not act, the alarm record alone is asked. -/
theorem FireSequencer.Rests.sound_iff {f : FireSequencer} {acts : Prop} (h : f.Rests) (held : ¬ acts) :
    f.Sound acts ↔ (f.alarm = none ↔ f.state = .quiet) := by
  obtain ⟨paused, countdown, pulse, confirmation, hold⟩ := h
  simp [FireSequencer.Sound, paused, countdown, pulse, confirmation, hold, held]

theorem FireSequencer.endTimers_rests (f : FireSequencer) : f.endTimers.Rests := ⟨rfl, rfl, rfl, rfl, rfl⟩

/-- What a cold start writes of the sequencer starts no timer (R180). -/
theorem FireSequencer.Rests.written {f : FireSequencer} (h : f.Rests) :
    FireSequencer.Rests { f with state := .quiet, alarm := none, releaseUnconfirmed := false } :=
  ⟨h.paused, h.countdown, h.pulseEnd, h.confirmationEnd, h.holdEnd⟩

theorem Part.abandonInFlight_abandoned (unfinished : p.startUp.inProgress ≠ none) : p.abandonInFlight.Abandoned :=
  ⟨unfinished, p.fire.endTimers_rests, rfl, rfl⟩

theorem Part.Abandoned.readConfiguration (h : p.Abandoned) (run : StartInProgress) :
    (p.readConfiguration run).Abandoned := ⟨h.unfinished, h.fire, h.purge, h.burn⟩

theorem Part.Abandoned.writeBackup (h : p.Abandoned) (run : StartInProgress) : (p.writeBackup run).Abandoned := by
  unfold Part.writeBackup
  split
  · exact ⟨h.unfinished, h.fire.written, h.purge, h.burn⟩
  all_goals exact h

theorem Part.Abandoned.markBackup (h : p.Abandoned) (run : StartInProgress) : (p.markBackup run).Abandoned := by
  unfold Part.markBackup
  split
  · exact ⟨h.unfinished, h.fire, h.purge, h.burn⟩
  all_goals exact h

theorem Part.Abandoned.makeOutputsSafe (h : p.Abandoned) : p.makeOutputsSafe.Abandoned :=
  ⟨h.unfinished, h.fire, h.purge, h.burn⟩

/-! ## The figures, stage by stage -/

/-- A burn in flight is ended: its cell reads LOST, and it holds no group (R29). -/
theorem SubstitutionStore.endBurn_get (x : SubstitutionStore) (g : Group) :
    x.endBurn.cell.get g = (if x.holdsGroup g then .lost else x.cell.get g) ∧ x.endBurn.holdsGroup g = false := by
  simp [endBurn, cellAtStart, holdsGroup]

theorem Part.SpareSound.abandonInFlight (h : p.SpareSound) : p.abandonInFlight.SpareSound := by
  refine ⟨fun g active => ?_, fun g burns => ?_⟩
  · obtain ⟨unused, free⟩ := h.1 g active
    obtain ⟨cell, ended⟩ := p.substitution.endBurn_get g
    rw [free] at cell
    exact ⟨cell.trans unused, ended⟩
  · exact absurd burns (by simp [Part.abandonInFlight, (p.substitution.endBurn_get g).2])

theorem Part.abandonInFlight_figuresKept (unfinished : p.startUp.inProgress ≠ none) :
    p.FiguresKept p.abandonInFlight where
  moisture := id
  demand := id
  purge := fun ⟨dose, tolerance, _⟩ => ⟨dose, tolerance, Nat.zero_le _⟩
  exceptions := id
  clock := id
  spare := Part.SpareSound.abandonInFlight
  fire := fun h => (p.fire.endTimers_rests.sound_iff (Part.not_acting unfinished)).2 h.1
  settings := id

/-- What a start reads lies in the ranges of Table 11-1; a restart reads nothing (R183). -/
theorem Part.readConfiguration_settings (run : StartInProgress) (h : p.SettingsInRange ∨ run ≠ .restart) :
    (p.readConfiguration run).SettingsInRange := by
  cases run with
  | power x => exact x.reading.basis_inRange rfl
  | restart => exact h.resolve_right fun other => other rfl

namespace Part.Abandoned

variable (h : p.Abandoned) (run : StartInProgress)
include h

theorem readConfiguration_figuresKept : p.FiguresKept (p.readConfiguration run) where
  moisture := id
  demand := fun ⟨demand, effective, grant, damper, purge, park⟩ => by
    cases run with
    | power x =>
      obtain ⟨_, _, _, _, _, _, _, _, _, _, park, purge, _⟩ := p.readConfiguration_settings (.power x) (.inr nofun)
      exact ⟨demand, effective, grant, damper, purge, park⟩
    | restart => exact ⟨demand, effective, grant, damper, purge, park⟩
  purge := fun ⟨dose, tolerance, _⟩ => ⟨dose, tolerance, h.purge.trans_le (Nat.zero_le _)⟩
  exceptions := fun ⟨room, _⟩ => ⟨room, fun acts => absurd acts (Part.not_acting h.unfinished)⟩
  clock := id
  spare := id
  fire := id
  settings := fun range => p.readConfiguration_settings run (.inl range)

/-- A cold start writes QUIET, no alarm record, dose 0 and minute 0 (R180). -/
theorem writeBackup_figuresKept : p.FiguresKept (p.writeBackup run) := by
  unfold Part.writeBackup
  split
  · have quiet := (h.fire.written.sound_iff (Part.not_acting h.unfinished)).2 ⟨fun _ => rfl, fun _ => rfl⟩
    exact ⟨id, id, fun ⟨_, tolerance, time⟩ => ⟨Nat.zero_le _, tolerance, time⟩, id,
      fun ⟨second, count, _⟩ => ⟨second, count, Nat.zero_le _⟩, id, fun _ => quiet, id⟩
  all_goals exact .refl p

end Part.Abandoned

theorem Part.markBackup_figuresKept (run : StartInProgress) : p.FiguresKept (p.markBackup run) := by
  unfold Part.markBackup
  split
  · exact ⟨id, id, id, id, id, id, id, id⟩
  all_goals exact .refl p

theorem Part.makeOutputsSafe_figuresKept : p.FiguresKept p.makeOutputsSafe := ⟨id, id, id, id, id, id, id, id⟩

/-! ## Start values (R186 stage 4) -/

/-- A retained DISCHARGED is a HOLD, a retained PRE_DISCHARGE counts down anew; a HOLD runs from completion (R88). -/
theorem FireSequencer.Rests.atStart_sound {f : FireSequencer} {acts : Prop} (rests : f.Rests) (held : ¬ acts)
    (c : Settings) (o : Occupancy) (h : f.Sound acts) : (f.atStart c o).Sound acts := by
  obtain ⟨paused, _, pulse, confirmation, hold⟩ := rests
  obtain ⟨alarm, _⟩ := h
  cases state : f.state <;>
    simp_all [FireSequencer.Sound, FireSequencer.atStart, FireState.retained]

theorem MoistureUnit.clear_bounded (unit : q.moisture = p.moisture.clear) : q.MoistureBounded := by
  unfold Part.MoistureBounded
  rw [unit]
  simp [MoistureUnit.clear, moistureInRange, Channel.atStart, GroupRecord.atStart]

theorem HatchContext.atStart_purge (x : HatchContext) (k : StartKind) (dose : x.dose ≤ 65535) (ended : x.purgeTime = 0) :
    (x.atStart k).dose ≤ 65535 ∧ (x.atStart k).toleranceRun = 0 ∧ (x.atStart k).purgeTime = 0 := by
  cases k <;> simp [HatchContext.atStart, HatchContext.cold, dose, ended]

theorem Part.Abandoned.takeStartValues_figuresKept (h : p.Abandoned) (run : StartInProgress) :
    p.FiguresKept (p.takeStartValues run) where
  moisture := fun _ => MoistureUnit.clear_bounded rfl
  demand := fun ⟨_, _, _, _, purge, park⟩ => ⟨Nat.zero_le _, Nat.zero_le _, Nat.zero_le _, Nat.zero_le _, purge, park⟩
  purge := fun ⟨dose, _, _⟩ => by
    obtain ⟨dose, tolerance, time⟩ := p.hatch.atStart_purge run.kind dose h.purge
    exact ⟨dose, tolerance.trans_le (Nat.zero_le _), time.trans_le (Nat.zero_le _)⟩
  exceptions := fun _ => ⟨Nat.zero_le _, fun _ _ => rfl⟩
  clock := id
  spare := fun _ => by
    refine ⟨fun g active => absurd ?_ active, fun g burns => absurd burns ?_⟩
    · simp [Part.takeStartValues, SubstitutionStore.clearSoft]
    · simp [Part.takeStartValues, SubstitutionStore.clearSoft, SubstitutionStore.holdsGroup, h.burn]
  fire := h.fire.atStart_sound (Part.not_acting h.unfinished) _ _
  settings := id

/-- The figures at any stage of a start (R186). -/
theorem Part.afterStage_figuresKept (run : StartInProgress) (stage : StartStage) (unfinished : p.startUp.inProgress ≠ none) :
    p.FiguresKept (p.afterStage run stage) := by
  have abandoned := Part.abandonInFlight_abandoned unfinished
  have read := abandoned.readConfiguration run
  have written := read.writeBackup run
  have marked := written.markBackup run
  have atAbandoned := Part.abandonInFlight_figuresKept unfinished
  have atRead := atAbandoned.trans (abandoned.readConfiguration_figuresKept run)
  have atWritten := atRead.trans (read.writeBackup_figuresKept run)
  have atMarked := atWritten.trans (Part.markBackup_figuresKept run)
  have atSafe := atMarked.trans Part.makeOutputsSafe_figuresKept
  cases stage with
  | begun => exact .refl p
  | abandoned => exact atAbandoned
  | read => exact atRead
  | written => exact atWritten
  | marked => exact atMarked
  | safe => exact atSafe
  | valued => exact atSafe.trans (marked.makeOutputsSafe.takeStartValues_figuresKept run)

/-! ## The outputs that are not fitted, stage by stage (R170, R173, R186) -/

theorem Part.unfittedReleased_of_released (outputs : q.outputs = OutputDriver.released) : q.UnfittedReleased := by
  unfold Part.UnfittedReleased
  rw [outputs]
  exact ⟨fun o _ => by cases o <;> rfl, fun _ => rfl⟩

theorem OutputDriver.get_safe (c : Settings) (o : OutputId) : (OutputDriver.safe c).get o = safeOutput c o := by
  cases o <;> rfl

theorem Part.unfittedReleased_of_safe (outputs : q.outputs = OutputDriver.safe q.settings) : q.UnfittedReleased := by
  unfold Part.UnfittedReleased
  rw [outputs]
  refine ⟨fun o unfitted => ?_, fun unfitted => ?_⟩
  · simp [OutputDriver.get_safe, safeOutput, unfitted]
  · simp [OutputDriver.safe, unfitted]

theorem DigitalOutput.endPattern_released {o : DigitalOutput} (released : o.state = .released) :
    o.endPattern.state = .released := by
  simp [DigitalOutput.endPattern, released]

theorem Part.UnfittedReleased.abandonInFlight (h : p.UnfittedReleased) : p.abandonInFlight.UnfittedReleased := by
  obtain ⟨digital, damper⟩ := h
  refine ⟨fun o unfitted => ?_, damper⟩
  have released := digital o unfitted
  cases o with
  | out3 => exact DigitalOutput.endPattern_released released
  | out4 => exact DigitalOutput.endPattern_released released
  | _ => exact released

/-- Before stage 3 the outputs are those that the abandonment leaves (R186). -/
theorem Part.afterStage_outputs (run : StartInProgress) {stage : StartStage}
    (early : stage = .read ∨ stage = .written ∨ stage = .marked) :
    (p.afterStage run stage).outputs = p.abandonInFlight.outputs := by
  rcases early with rfl | rfl | rfl <;> simp [Part.afterStage]

/-- From stage 3 on the outputs are safe by the flags in force (R173). -/
theorem Part.afterStage_safe_outputs (run : StartInProgress) {stage : StartStage} (late : stage = .safe ∨ stage = .valued) :
    (p.afterStage run stage).outputs = OutputDriver.safe (p.afterStage run stage).settings := by
  rcases late with rfl | rfl <;> rfl

/-- A restart reads no settings (R183). -/
theorem Part.afterStage_restart_settings (stage : StartStage) :
    (p.afterStage .restart stage).settings = p.settings := by
  cases stage <;> rfl

theorem Part.UnfittedReleased.congr (h : p.UnfittedReleased) (outputs : q.outputs = p.outputs)
    (settings : q.settings = p.settings) : q.UnfittedReleased := by
  unfold Part.UnfittedReleased
  rw [outputs, settings]
  exact h

/-- An output that is not fitted is RELEASED at every stage: a power start drives none before stage 3, and a restart
reads no other flags (R170, R186). -/
theorem Part.UnfittedReleased.afterStage (h : p.UnfittedReleased) {run : StartInProgress} (stage : StartStage)
    (begun : run ≠ .restart → p.outputs = OutputDriver.released) : (p.afterStage run stage).UnfittedReleased := by
  have early (outputs : (p.afterStage run stage).outputs = p.abandonInFlight.outputs) :
      (p.afterStage run stage).UnfittedReleased := by
    cases run with
    | power x =>
      refine Part.unfittedReleased_of_released (outputs.trans ?_)
      simp only [Part.abandonInFlight, begun nofun]
      rfl
    | restart => exact h.abandonInFlight.congr outputs (Part.afterStage_restart_settings stage)
  cases stage with
  | begun => exact h
  | abandoned => exact h.abandonInFlight
  | read => exact early (Part.afterStage_outputs run (.inl rfl))
  | written => exact early (Part.afterStage_outputs run (.inr (.inl rfl)))
  | marked => exact early (Part.afterStage_outputs run (.inr (.inr rfl)))
  | safe => exact Part.unfittedReleased_of_safe (Part.afterStage_safe_outputs run (.inl rfl))
  | valued => exact Part.unfittedReleased_of_safe (Part.afterStage_safe_outputs run (.inr rfl))

/-! ## Completion (R186 stage 5) -/

/-- The part is at the end of stage 4: no exception stands, and every timer of the fire state but that of a HOLD runs. -/
structure Part.Valued (p : Part) : Prop where
  exceptions : p.exceptions.entries = []
  countdown : p.fire.state = .preDischarge → p.fire.countdown ≠ none
  discharged : p.fire.state ≠ .discharged

theorem Part.takeStartValues_valued (run : StartInProgress) : (p.takeStartValues run).Valued where
  exceptions := rfl
  countdown := by
    cases state : p.fire.state <;> simp [Part.takeStartValues, FireSequencer.atStart, FireState.retained, state]
  discharged := by
    show p.fire.state.retained ≠ _
    cases p.fire.state <;> simp [FireState.retained]

/-- The hold of a zone in HOLD has begun, so every timer that a state asks for runs (R88). -/
theorem FireSequencer.Sound.startHold {f : FireSequencer} {acts now : Prop} (h : f.Sound acts)
    (countdown : f.state = .preDischarge → f.countdown ≠ none) (discharged : f.state ≠ .discharged) (c : Settings) :
    (f.startHold c).Sound now := by
  obtain ⟨alarm, counts, pulse, confirmation, _, pause, _⟩ := h
  refine ⟨alarm, counts, pulse, confirmation, ?_, pause, fun _ => ⟨countdown, fun state => absurd state discharged, ?_⟩⟩
  · simp [FireSequencer.startHold]
  · simp +contextual [FireSequencer.startHold]

theorem Part.MoistureBounded.startCounting (h : p.MoistureBounded) : p.startCounting.MoistureBounded := by
  obtain ⟨channels, groups, store, chamber⟩ := h
  exact ⟨channels, fun g => by simpa [Part.startCounting] using groups g, store, chamber⟩

theorem Part.ClockBounded.startCounting (h : p.ClockBounded) : p.startCounting.ClockBounded :=
  ⟨Nat.zero_le _, Nat.zero_le _, h.2.2⟩

/-- What counts from completion, with the hold of a zone in HOLD; then the part acts (R88, R168, R186). -/
def Part.started (p : Part) : Part := p.startCounting.markSpareLost.markCustodyLost.endProgress

/-- What a completion does before the part acts leaves every block but the counting ones. -/
theorem Part.started_frame :
    p.started.moisture = p.startCounting.moisture ∧ p.started.substitution = p.substitution.markLost
    ∧ p.started.climate = p.climate ∧ p.started.fire = p.fire.startHold p.settings ∧ p.started.hatch = p.hatch
    ∧ p.started.exceptions = p.exceptions ∧ p.started.clock = p.startCounting.clock ∧ p.started.outputs = p.outputs
    ∧ p.started.settings = p.settings := by
  unfold Part.started Part.markCustodyLost
  split <;> exact ⟨rfl, rfl, rfl, rfl, rfl, rfl, rfl, rfl, rfl⟩

theorem Part.Valued.started_rangesKept (h : p.Valued) : p.RangesKept p.started := by
  obtain ⟨moisture, substitution, climate, fire, hatch, exceptions, clock, outputs, settings⟩ := p.started_frame
  refine ⟨⟨fun ok => ?_, fun ok => ?_, fun ok => ?_, fun ok => ?_, fun ok => ?_, fun ok => ?_, fun ok => ?_, fun ok => ?_⟩,
    fun ok => ok.congr outputs settings⟩
  · unfold Part.MoistureBounded
    rw [moisture]
    exact ok.startCounting
  · unfold Part.DemandBounded
    rw [climate, settings]
    exact ok
  · unfold Part.PurgeBounded
    rw [hatch, settings]
    exact ok
  · unfold Part.ExceptionsSound
    rw [exceptions, h.exceptions]
    exact ⟨Nat.zero_le _, fun _ _ => rfl⟩
  · unfold Part.ClockBounded
    rw [clock]
    exact ok.startCounting
  · unfold Part.SpareSound
    rw [substitution]
    exact ok
  · rw [Part.fireSound_iff, fire]
    exact FireSequencer.Sound.startHold ok h.countdown h.discharged _
  · unfold Part.SettingsInRange
    rw [settings]
    exact ok

theorem Part.Acts.requestSignals (h : p.Acts q) : p.Acts q.requestSignals := (h.requestOutput _ _).requestOutput _ _

theorem Part.Acts.startShut (h : p.Acts q) : p.Acts q.startShut := .ite (h.withClimate _) h

/-- What the blocks do at completion is what they do at events: the first scan, the signals, FIRE_STATE, SHUT, the
damper's confirmation, a countdown of 0 (R3, R49, R72, R89). -/
theorem Part.Valued.completion_rangesKept (h : p.Valued) : p.RangesKept p.completion := by
  have acts := (Part.Acts.refl p.started).beginScan.requestSignals.handFireState.startShut.startConfirmation.expireAtZero
  exact h.started_rangesKept.trans acts.toRangesKept

/-- A start that is in progress, whatever it has done, completes with every range kept (R186). -/
theorem Part.completeStart_rangesKept : p.RangesKept p.completeStart := by
  unfold Part.completeStart
  split
  · next run progress =>
    have unfinished : p.startUp.inProgress ≠ none := by simp [progress]
    have valued : p.RangesKept (p.afterStage run .valued) := ⟨p.afterStage_figuresKept run .valued unfinished,
      fun _ => Part.unfittedReleased_of_safe (Part.afterStage_safe_outputs run (.inr rfl))⟩
    exact valued.trans (Part.takeStartValues_valued run).completion_rangesKept
  · exact .refl p

/-- A start left unfinished at a stage keeps every range, if it is a restart or has driven no output (R186). -/
theorem Part.unfinished_rangesKept (stage : StartStage)
    (begun : p.startUp.inProgress ≠ some .restart → p.outputs = OutputDriver.released) : p.RangesKept (p.unfinished stage) := by
  unfold Part.unfinished
  split
  · next run progress =>
    exact ⟨p.afterStage_figuresKept run stage (by simp [progress]),
      fun ok => ok.afterStage stage fun other => begun (by simpa [progress] using other)⟩
  · exact .refl p

end Sys2Proof.Machine
end

section
/-! PROOF. O59: the ranges through events, supplies, pins and idle steps, and so through every step. -/

namespace Sys2Proof.Machine

variable {p q : Part}

/-! ## What an event may make of a part -/

/-- `q` is what an event may make of `p`: the ranges are kept, and where it has begun a power start, no output is driven
yet (R186). -/
structure Part.Becomes (p q : Part) : Prop extends p.RangesKept q where
  begun : q.starting = true → p.starting = false → q.startUp.inProgress ≠ some .restart →
    q.outputs = OutputDriver.released

theorem Part.Acts.becomes (h : p.Acts q) : p.Becomes q where
  toRangesKept := h.toRangesKept
  begun := fun starts before => by
    rw [Part.starting_eq, h.startUp] at starts
    exact absurd starts (by simp [← Part.starting_eq, before])

theorem Part.Becomes.refl (p : Part) : p.Becomes p := (Part.Acts.refl p).becomes

/-- Supplies, pin, held start and marks change in a part that does not act then (R180, R181). -/
theorem Part.withStartUp_rangesKept (u : StartUp) (same : u.settings = p.settings)
    (held : (p.withStartUp u).running ≠ true) : p.RangesKept (p.withStartUp u) := by
  have settings : (p.withStartUp u).settings = p.settings := same
  refine ⟨⟨id, fun ok => ?_, fun ok => ?_, fun ⟨room, _⟩ => ⟨room, fun acts => absurd acts held⟩, id, id,
    fun ⟨alarm, countdown, pulse, confirmation, hold, pause, _⟩ =>
      ⟨alarm, countdown, pulse, confirmation, hold, pause, fun acts => absurd acts held⟩,
    fun ok => ?_⟩, fun ok => ok.congr rfl settings⟩
  · unfold Part.DemandBounded
    rw [settings]
    exact ok
  · unfold Part.PurgeBounded
    rw [settings]
    exact ok
  · unfold Part.SettingsInRange
    rw [settings]
    exact ok

/-- No law speaks of an output that is RELEASED. -/
theorem Part.RangesKept.release (h : p.RangesKept q) : p.RangesKept (q.withOutputs OutputDriver.released) :=
  h.trans ⟨⟨id, id, id, id, id, id, id, id⟩, fun _ => Part.unfittedReleased_of_released rfl⟩

/-- A start begins (R181, R182). -/
theorem Part.RangesKept.beginStart (h : p.RangesKept q) (run : StartInProgress) : p.Becomes (q.beginStart run) := by
  have started := h.trans (q.withStartUp_rangesKept (q.beginStart run).startUp (by rw [Part.beginStart_startUp]; rfl)
    (Part.not_acting (by simp)))
  cases run with
  | power x => exact ⟨started.release, fun _ _ _ => rfl⟩
  | restart => exact ⟨started, fun _ _ other => absurd rfl other⟩

/-- A part that is held by the pin, or has no supply, neither acts nor has a start in progress (R181). -/
theorem Part.withStartUp_unpowered {u : StartUp} (same : u.settings = p.settings)
    (off : u.mainOn = false ∨ u.resetAsserted = true) : p.Becomes (p.withStartUp u) := by
  have unpowered : (p.withStartUp u).powered = false := by
    rcases off with off | off
    · simp [Part.powered, off]
    · simp [Part.powered, off]
  exact ⟨p.withStartUp_rangesKept u same (by simp [Part.running, unpowered]),
    fun starts => absurd starts (by simp [Part.starting, unpowered])⟩

theorem Part.Becomes.release (h : p.Becomes q) : p.Becomes (q.withOutputs OutputDriver.released) :=
  ⟨h.toRangesKept.release, fun _ _ _ => rfl⟩

/-! ## Events (R181, R182) -/

/-- The end of an event: a restart that is due begins (R182). -/
theorem Part.Becomes.settle (h : p.Becomes q) : p.Becomes q.settle := by
  unfold Part.settle
  split
  · exact h.toRangesKept.beginStart .restart
  · exact h

theorem Part.event_becomes {f : Part → Part} (h : p.Becomes (f p)) : p.Becomes (p.event f) := by
  unfold Part.event
  split
  · exact h.settle
  · exact .refl p

theorem Part.timed_becomes {due : Part → Bool} {f : Part → Part} (h : due p = true → p.Becomes (f p)) :
    p.Becomes (p.timed due f) := by
  refine Part.event_becomes ?_
  split
  · next ran => exact h ran
  · exact .refl p

/-- A timer whose block acts whether it is due or not. -/
theorem Part.Acts.timed {due : Part → Bool} {f : Part → Part} (h : p.Acts (f p)) : p.Becomes (p.timed due f) :=
  Part.timed_becomes fun _ => h.becomes

theorem Part.Acts.event {f : Part → Part} (h : p.Acts (f p)) : p.Becomes (p.event f) := Part.event_becomes h.becomes

/-! ## Supplies and the reset pin (R180, R181) -/

theorem Part.mainRises_becomes (r : PowerReading) : p.Becomes (p.mainRises r) := by
  unfold Part.mainRises
  split
  · exact .refl p
  · split
    · next pin => exact Part.withStartUp_unpowered rfl (.inr pin)
    · exact (Part.RangesKept.refl p).beginStart _

theorem Part.mainFalls_becomes : p.Becomes p.mainFalls := by
  unfold Part.mainFalls
  split
  · refine (Part.withStartUp_unpowered ?_ (.inl ?_)).release
    · rfl
    · rfl
  · exact .refl p

theorem Part.backupFalls_becomes : p.Becomes p.backupFalls := by
  unfold Part.backupFalls
  split
  · exact .refl p
  · next off => exact Part.withStartUp_unpowered rfl (.inl (Bool.not_eq_true _ ▸ off))

theorem Part.resetAsserts_becomes : p.Becomes p.resetAsserts := by
  unfold Part.resetAsserts
  refine (Part.withStartUp_unpowered ?_ (.inr ?_)).release
  · rfl
  · rfl

theorem Part.resetReleases_becomes : p.Becomes p.resetReleases := by
  unfold Part.resetReleases
  split
  · split
    · split
      · exact (Part.RangesKept.refl p).beginStart _
      · exact (Part.RangesKept.refl p).beginStart _
    · next off => exact Part.withStartUp_unpowered rfl (.inl (Bool.not_eq_true _ ▸ off))
  · exact .refl p

/-- The level of a wire is in no law of the ranges (R57, R64). -/
theorem Part.levelChange_becomes (i : InputId) (high : Bool) :
    p.Becomes (if p.running then p.event (fun p => p.takeLevelChange i high) else p.wireChanges i high) := by
  have acts := Part.Acts.refl p
  split
  · exact (show p.Acts (p.takeLevelChange i high) from acts.withInputs _).event
  · exact (show p.Acts (p.wireChanges i high) from acts.withInputs _).becomes

/-! ## The machine after an event -/

/-- The start that an event has begun completes or is left at a stage (R186, log 21). -/
theorem Part.afterBegin_rangesKept (waiting : List Instr)
    (begun : p.startUp.inProgress ≠ some .restart → p.outputs = OutputDriver.released) :
    p.RangesKept (p.afterBegin waiting) := by
  unfold Part.afterBegin
  have drawn : p.RangesKept (p.withFreeDraws (p.freeDraws + 1)) := (Part.Acts.refl p).draw.toRangesKept
  split
  · dsimp only
    split
    · exact drawn.trans (Part.unfinished_rangesKept _ begun)
    · exact drawn.trans Part.completeStart_rangesKept
  · exact Part.completeStart_rangesKept

/-- A step leaves the machine with every range kept. -/
def State.KeepsRanges (s : State) (o : Host.Outcome State Fault Refusal) : Prop :=
  ∀ t, o = .next t → s.toPart.RangesKept t.toPart

theorem Part.Becomes.become {s : State} (h : s.toPart.Becomes q) : s.KeepsRanges (s.become q) := by
  rintro t ⟨⟩
  dsimp only
  split
  · next starts =>
    simp only [Bool.and_eq_true, Bool.not_eq_true'] at starts
    exact h.toRangesKept.trans (Part.afterBegin_rangesKept _ (h.begun starts.1 starts.2))
  · exact h.toRangesKept

theorem State.timed_keepsRanges (s : State) {due : Part → Bool} {f : Part → Part} (h : s.toPart.Acts (f s.toPart)) :
    s.KeepsRanges (s.become (s.toPart.timed due f)) := h.timed.become

theorem State.event_keepsRanges (s : State) {f : Part → Part} (h : s.toPart.Acts (f s.toPart)) :
    s.KeepsRanges (s.become (s.toPart.event f)) := h.event.become

theorem State.request_keepsRanges (s : State) (src : Station) (role : Role) (r : Request) :
    s.KeepsRanges (s.request src role r) :=
  s.event_keepsRanges ((Part.Acts.refl s.toPart).takeRequest src role r)

/-! ## The commands -/

/-- Countdown expiry is due only in PRE_DISCHARGE (R75). -/
theorem Part.Acts.countdownExpires (due : p.countdownOver = true) : p.Acts p.discharge :=
  (Part.Acts.refl p).discharge ((Part.countdownOver_iff.1 due).1)

theorem exec_keepsRanges (i : Instr) (s : State) : s.KeepsRanges (exec i s) := by
  have acts := Part.Acts.refl s.toPart
  cases i with
  | scanStart => exact s.timed_keepsRanges acts.beginScan
  | channelAnswer g pl t rh agrees => exact s.event_keepsRanges (acts.takeAnswer g pl t rh agrees)
  | answerWindowExpiry g pl => exact s.timed_keepsRanges (acts.windowCloses g pl)
  | groupStalenessExpiry g => exact s.timed_keepsRanges (acts.stalenessExpires g)
  | burnCompletion => exact s.timed_keepsRanges acts.burnCompletes
  | damperConfirmationExpiry => exact s.timed_keepsRanges acts.confirmationExpires
  | loopReading l reading => exact s.timed_keepsRanges (acts.takeLoopReading l reading.toNat)
  | inputLevelChange input high => exact (s.toPart.levelChange_becomes input high).become
  | inputHoldExpiry input => exact s.timed_keepsRanges (acts.acceptInput input)
  | localSecondAdvance => exact s.timed_keepsRanges acts.advanceSecond
  | countdownExpiry => exact (Part.timed_becomes fun due => (Part.Acts.countdownExpires due).becomes).become
  | releasePulseEnd => exact (Part.timed_becomes fun due => (acts.pulseEnds due).becomes).become
  | confirmationEnd => exact (Part.timed_becomes fun due => (acts.confirmationEnds due).becomes).become
  | holdExpiry => exact (Part.timed_becomes fun due => (acts.holdEnds due).becomes).become
  | archiveMinuteRise => exact s.timed_keepsRanges acts.riseMinute
  | stepTimeoutExpiry => exact s.timed_keepsRanges acts.stepTimeoutExpires
  | unlockWindowExpiry l => exact s.timed_keepsRanges (acts.windowExpires l)
  | tallyEnd report => exact s.timed_keepsRanges (acts.tallyCompletes report)
  | purgeCompletion => exact s.timed_keepsRanges (acts.completePurge _)
  | frameReceived f => exact s.event_keepsRanges (acts.receiveFrame f)
  | frameTransmitStart => exact s.event_keepsRanges (.ite acts (acts.onQueue startHead))
  | contentionLost bit =>
    refine s.event_keepsRanges ?_
    split
    · exact acts.onQueue _
    · exact acts
  | frameSent => exact s.event_keepsRanges (acts.onQueue removeOnLine)
  | peerEntryExpiry x => exact s.timed_keepsRanges (acts.peerEntryExpires x)
  | neighbourWatchExpiry x => exact s.timed_keepsRanges (acts.watchExpires x)
  | patternPhaseEnd g => exact s.timed_keepsRanges (acts.phaseEnds g)
  | backupSupplyFall => exact Part.backupFalls_becomes.become
  | mainPowerLoss => exact Part.mainFalls_becomes.become
  | powerStart record pins => exact (Part.mainRises_becomes _).become
  | resetPinAssert => exact Part.resetAsserts_becomes.become
  | resetPinRelease => exact Part.resetReleases_becomes.become
  | restartPendingExpiry => exact (Part.timed_becomes fun _ => (Part.RangesKept.refl _).beginStart .restart).become
  | _ => exact s.request_keepsRanges _ _ _

/-! ## The step -/

theorem State.idle_rangesKept (s : State) : s.toPart.RangesKept s.idle.toPart := by
  have acts := Part.Acts.refl s.toPart
  unfold State.idle
  split
  · exact Part.completeStart_rangesKept
  · split
    · split
      · exact (acts.withClock _).toRangesKept
      · exact ⟨⟨id, id, id, id, id, id, id, id⟩, id⟩
    · exact acts.toRangesKept

theorem step_keepsRanges (s : State) : s.KeepsRanges (step s) := by
  unfold step
  split
  · rintro t ⟨⟩
    exact s.idle_rangesKept
  · next c rest _ => exact exec_keepsRanges c { s with pending := rest }

/-- Settles O59: what a block does in an event keeps each law (`Part.Acts`), and so does every stage of a start. -/
theorem rangesAreKept : Obligations.RangesAreKept := by
  intro s t taken
  obtain ⟨⟨moisture, demand, purge, exceptions, clock, spare, fire, settings⟩, unfitted⟩ := step_keepsRanges s t taken
  exact ⟨moisture, demand, purge, exceptions, clock, spare, fire, unfitted, settings⟩

end Sys2Proof.Machine
end

section
/-! PROOF. O9 to O11: the remap requests, each test in its order, with the substitution summary of the reply (R22 to R27). -/

namespace Sys2Proof.Machine

/-! ## Answered requests -/

/-- A request whose owner makes the one reply to it, on a part with another substitution store or none other (R158, R159). -/
theorem State.request_answered {s u : State} {src : Station} {role : Role} {r : Request} {status : Status}
    {data : ReplyData} (h : s.takesFrom src) (taken : r.kind.takenFrom role = true) (fits : r.fits = true)
    (range : r.offence = none) (bus : u.bus = s.bus) (startUp : u.startUp = s.startUp) (pending : u.pending = s.pending)
    (owner : s.toPart.handToOwner (requester src r) r = u.toPart.reply (requester src r) status data) :
    s.request src role r = .next (u.answered src r.kind status data) := by
  have ready : u.ready := by
    obtain ⟨running, deadline⟩ := h.1
    unfold State.ready
    rw [Part.running_eq, startUp, bus]
    exact ⟨running, deadline⟩
  have kept := ready.reply_restartReplyLeft (requester src r) status data
  have calm : (u.toPart.reply (requester src r) status data).startUp.inProgress = none := by simpa using ready.inProgress
  rw [State.request_eq h taken fits range (owner ▸ kept) (owner ▸ calm), owner, ← pending]
  exact congrArg Host.Outcome.next (congrArg (State.mk · u.pending) (u.answered_toPart src r.kind status data).symm)

/-! ## The remap requests at the store (R22, R23, R25, R26) -/

/-- The summary of a group, from the values it shows (Table 2-3). -/
theorem Part.substitutionSummary_eq (p : Part) {g : Group} {soft : Option Position} {cell : SpareCell}
    {burn : Option (Group × Position)} (hsoft : p.substitution.soft.get g = soft) (hcell : p.substitution.cell.get g = cell)
    (hburn : p.substitution.burn.map (fun b => (b.group, b.position)) = burn) :
    p.substitutionSummary g = ⟨g, soft, cell, ((p.moisture.channels.get g).get .s).health, burn⟩ := by
  subst hsoft hcell hburn
  rfl

/-- The reply of a remap, with the summary spelled out (R22). -/
theorem Part.replyRemap_eq (p : Part) (a : Asker) (status : Status) {g : Group} {soft : Option Position} {cell : SpareCell}
    {burn : Option (Group × Position)} (hsoft : p.substitution.soft.get g = soft) (hcell : p.substitution.cell.get g = cell)
    (hburn : p.substitution.burn.map (fun b => (b.group, b.position)) = burn) :
    p.replyRemap a status g
      = p.reply a status (.substitution ⟨g, soft, cell, ((p.moisture.channels.get g).get .s).health, burn⟩) := by
  rw [Part.replyRemap, p.substitutionSummary_eq hsoft hcell hburn]

section
variable {s u : State} {src : Station} {role : Role} {gb pb : Byte} {status : Status} {data : ReplyData}

variable (h : s.takesFrom src) (from_ : role = .console ∨ role = .service) (group : gb.toNat ≤ 3) (position : pb.toNat ≤ 1)
  (bus : u.bus = s.bus) (startUp : u.startUp = s.startUp) (pending : u.pending = s.pending)
include h from_ group bus startUp pending

theorem exec_remapClear_answered
    (owner : s.toPart.takeRemapClear (requester src (.remapClear gb)) (groupOfByte gb)
      = u.toPart.reply (requester src (.remapClear gb)) status data) :
    exec (.remapClear src role gb) s = .next (u.answered src .remapClear status data) := by
  refine State.request_answered h ?_ rfl ?_ bus startUp pending owner
  · rcases from_ with rfl | rfl <;> rfl
  · simp [Request.offence, offenceUnless, group]

include position

theorem exec_remapSoft_answered
    (owner : s.toPart.takeRemapSoft (requester src (.remapSoft gb pb)) (groupOfByte gb) (positionOfByte pb)
      = u.toPart.reply (requester src (.remapSoft gb pb)) status data) :
    exec (.remapSoft src role gb pb) s = .next (u.answered src .remapSoft status data) := by
  refine State.request_answered h ?_ rfl ?_ bus startUp pending owner
  · rcases from_ with rfl | rfl <;> rfl
  · simp [Request.offence, offenceUnless, group, position]

theorem exec_remapHard_answered
    (owner : s.toPart.takeRemapHard (requester src (.remapHard gb pb)) (groupOfByte gb) (positionOfByte pb)
      = u.toPart.reply (requester src (.remapHard gb pb)) status data) :
    exec (.remapHard src role gb pb) s = .next (u.answered src .remapHard status data) := by
  refine State.request_answered h ?_ rfl ?_ bus startUp pending owner
  · rcases from_ with rfl | rfl <;> rfl
  · simp [Request.offence, offenceUnless, group, position]

end

/-! ## O9: REMAP_SOFT -/

/-- With the cell UNUSED a position is served by the spare exactly where it is the soft remap (Table 2-2). -/
theorem Part.setSoft_servingPlace {p : Part} {g : Group} (unused : p.substitution.cell.get g = .unused)
    (soft : Option Position) (pos : Position) :
    (p.setSoft g soft).substitution.servingPlace g pos = if soft = some pos then .s else ownPlace pos := by
  simp [Part.setSoft, SubstitutionStore.servingPlace, spareServes, unused]

/-- Settles O9: the four tests of R23 are the four branches of the request at the store. -/
theorem remapSoftTests : Obligations.RemapSoftTests := by
  intro s src role gb pb h from_ group position idle
  have flight : s.substitution.burn.map (fun b => (b.group, b.position)) = none := by rw [idle]; rfl
  refine ⟨fun used => ?_, fun unused same => ?_, fun unused other failed => ?_, fun unused other fit => ⟨_, ?_, rfl, ?_, ?_⟩⟩
  · refine exec_remapSoft_answered h from_ group position rfl rfl rfl ?_
    rw [← s.toPart.replyRemap_eq _ _ rfl rfl flight]
    simp [Part.takeRemapSoft, idle, used]
  · refine exec_remapSoft_answered h from_ group position rfl rfl rfl ?_
    rw [← s.toPart.replyRemap_eq _ _ rfl rfl flight]
    simp [Part.takeRemapSoft, idle, unused, same]
  · refine exec_remapSoft_answered h from_ group position rfl rfl rfl ?_
    rw [← s.toPart.replyRemap_eq _ _ rfl rfl flight]
    simp [Part.takeRemapSoft, Part.spareHealth, idle, unused, other, failed]
  · refine exec_remapSoft_answered h from_ group position rfl rfl rfl ?_
    have reply := (s.toPart.setSoft (groupOfByte gb) (some (positionOfByte pb))).replyRemap_eq
      (requester src (.remapSoft gb pb)) .done (PerGroup.get_set_same _ _ _) rfl flight
    refine Eq.trans ?_ reply
    simp [Part.takeRemapSoft, Part.spareHealth, idle, unused, other, fit]
  · exact (Part.setSoft_servingPlace unused _ _).trans (if_pos rfl)
  · exact fun place ne => (Part.setSoft_servingPlace unused _ _).trans (if_neg fun same => ne (Option.some.inj same).symm)

/-! ## O10: REMAP_CLEAR, and every remap during a burn -/

theorem PerGroup.set_get {α : Type} (v : PerGroup α) (g : Group) : v.set g (v.get g) = v := by
  cases g <;> rfl

/-- Settles O10: with no burn the soft remap is set to none; during a burn the first branch of each request is BUSY. -/
theorem remapClearAndBusyRemaps : Obligations.RemapClearAndBusyRemaps := by
  refine ⟨fun s src role gb h from_ group idle => ?_, fun s src role gb pb h from_ group position b burns => ?_⟩
  · have flight : s.substitution.burn.map (fun b => (b.group, b.position)) = none := by rw [idle]; rfl
    have cleared := exec_remapClear_answered (u := { s with substitution := (s.setSoft (groupOfByte gb) none).substitution })
      (status := .done) h from_ group rfl rfl rfl (Eq.trans (by simp [Part.takeRemapClear, idle])
        ((s.setSoft (groupOfByte gb) none).replyRemap_eq _ _ (PerGroup.get_set_same _ _ _) rfl flight))
    refine ⟨cleared, fun without => cleared.trans ?_⟩
    have same := PerGroup.set_get s.substitution.soft (groupOfByte gb)
    rw [without] at same
    simp [Part.setSoft, same]
  · have flight : s.substitution.burn.map (fun b => (b.group, b.position)) = some (b.group, b.position) := by rw [burns]; rfl
    refine ⟨exec_remapSoft_answered h from_ group position rfl rfl rfl ?_,
      exec_remapClear_answered h from_ group rfl rfl rfl ?_,
      exec_remapHard_answered h from_ group position rfl rfl rfl ?_⟩
    · rw [← s.toPart.replyRemap_eq _ _ rfl rfl flight]
      simp [Part.takeRemapSoft, burns]
    · rw [← s.toPart.replyRemap_eq _ _ rfl rfl flight]
      simp [Part.takeRemapClear, burns]
    · rw [← s.toPart.replyRemap_eq _ _ rfl rfl flight]
      simp [Part.takeRemapHard, burns]

/-! ## O11: REMAP_HARD -/

/-- Settles O11: the five tests of R26 are the branches of the request at the store. -/
theorem remapHardTests : Obligations.RemapHardTests := by
  intro s src role gb pb h from_ group position idle
  have flight : s.substitution.burn.map (fun b => (b.group, b.position)) = none := by rw [idle]; rfl
  refine ⟨fun active => ?_, fun free used => ?_, fun free unused failed => ?_, fun free unused fit held => ?_,
    fun free unused fit quiet => ?_⟩
  · refine exec_remapHard_answered h from_ group position rfl rfl rfl ?_
    rw [← s.toPart.replyRemap_eq _ _ rfl rfl flight]
    simp [Part.takeRemapHard, idle, active]
  · refine exec_remapHard_answered h from_ group position rfl rfl rfl ?_
    rw [← s.toPart.replyRemap_eq _ _ rfl rfl flight]
    simp [Part.takeRemapHard, idle, free, used]
  · refine exec_remapHard_answered h from_ group position rfl rfl rfl ?_
    rw [← s.toPart.replyRemap_eq _ _ rfl rfl flight]
    simp [Part.takeRemapHard, Part.spareHealth, idle, free, unused, failed]
  · refine exec_remapHard_answered h from_ group position rfl rfl rfl ?_
    rw [← s.toPart.substitutionSummary_eq free unused flight]
    simp [Part.takeRemapHard, Part.spareHealth, idle, free, unused, fit, held]
  · refine exec_remapHard_answered h from_ group position rfl rfl rfl ?_
    have reply := (s.toPart.beginBurn (groupOfByte gb) (positionOfByte pb)).replyRemap_eq
      (requester src (.remapHard gb pb)) .done free unused rfl
    refine Eq.trans ?_ reply
    simp [Part.takeRemapHard, Part.spareHealth, idle, free, unused, fit, quiet]

end Sys2Proof.Machine
end

section
/-! PROOF. O12 is refuted. A frame from a station whose role changes makes the climate governor act before the request in
it is dispatched: a FIRE_STATE it hands displaces the marked reply of a pending restart from a full queue (R48, R162), the
request, a REMAP_HARD, begins a burn in the same event, and the restart at the end of the event makes the cell LOST (R29),
though no burn was in flight before the event. -/

namespace Sys2Proof.Machine

/-! ## A frame that lets a restart begin -/

/-- A frame after which the marked reply has left the queue: the restart runs to its completion in the same event. -/
theorem exec_frameReceived_restarts {s : State} {f : RxFrame} (acts : s.toPart.running = true) (alone : s.pending = [])
    (left : (s.toPart.receiveFrame f).restartReplyLeft = true) :
    exec (.frameReceived f) s
      = .next { s with toPart := (s.toPart.receiveFrame f).beginRestart.completeStart } := by
  have settled : s.toPart.event (fun p => p.receiveFrame f) = (s.toPart.receiveFrame f).beginRestart := by
    rw [Part.event_eq_settle acts, Part.settle, if_pos left]
  have before : s.toPart.starting = false := by
    rw [Part.running_eq] at acts
    simp_all [Part.starting_eq]
  show s.become (s.toPart.event fun p => p.receiveFrame f) = _
  rw [settled]
  exact State.become_started (Part.beginStart_starting _ .restart) before (by rw [alone]; rfl)

/-- A start leaves the store with the burn ended, no soft remap, and SPARE_LOST by the cells (R29, R30, R31). -/
theorem Part.completeStart_substitution {p : Part} {run : StartInProgress} (progress : p.startUp.inProgress = some run) :
    p.completeStart.substitution = p.substitution.endBurn.clearSoft.markLost := by
  unfold Part.completeStart
  rw [progress]
  have stages : (p.afterStage run .valued).substitution = p.substitution.endBurn.clearSoft := by
    simp [Part.afterStage, Part.takeStartValues, Part.abandonInFlight]
  have completed (q : Part) : q.completion.substitution = q.started.substitution := by
    simp [Part.completion, Part.started]
  rw [completed, (Part.started_frame (p := _)).2.1, stages]

/-- The burn that a start finds in flight makes its cell read LOST (R29). -/
theorem Part.beginRestart_completeStart_cell {p : Part} {g : Group} (burns : p.substitution.holdsGroup g = true) :
    p.beginRestart.completeStart.substitution.cell.get g = .lost := by
  rw [Part.completeStart_substitution (run := .restart) (by simp [Part.beginRestart])]
  have lost := (p.substitution.endBurn_get g).1
  rw [burns] at lost
  simpa [Part.beginRestart, SubstitutionStore.clearSoft, SubstitutionStore.markLost] using lost

/-- A burn that a frame begins, when its event ends with a restart, leaves the cell LOST at once. -/
theorem exec_frameReceived_losesCell {s : State} {f : RxFrame} {g : Group} (acts : s.toPart.running = true)
    (alone : s.pending = []) (left : (s.toPart.receiveFrame f).restartReplyLeft = true)
    (burns : (s.toPart.receiveFrame f).substitution.holdsGroup g = true) :
    ∃ t, exec (.frameReceived f) s = .next t ∧ t.substitution.cell.get g = .lost :=
  ⟨_, exec_frameReceived_restarts acts alone left, Part.beginRestart_completeStart_cell burns⟩

/-! ## The refuting state and frame -/

/-- Station 3 with a restart pending, its marked reply in a full queue. The damper, commanded open and at fault, is shown
closed, so the next evaluation, which closes it, clears DAMPER_FAULT (R47, R48). -/
def crowded : State :=
  { Tests.zone with
    startUp := { Tests.zone.startUp with restartDeadline := some 1000 }
    bus := ⟨{ replyFrame 7#6 .restart .done .nothing with restartReply := true }
      :: List.replicate 7 (replyFrame 7#6 .query .done .nothing), some 3#6⟩
    peers := { Tests.zone.peers with entries := [⟨9#6, .service, none, none, none, 0, false⟩] }
    climate := { Tests.zone.climate with damper := 50, damperFault := true }
    inputs := Tests.zone.inputs.set .in5 { Tests.zone.inputs.in5 with accepted := some true } }

/-- REMAP_HARD of group 0, position A, from station 9, which was SERVICE and now is CONSOLE. -/
def remapFromNewConsole : RxFrame := ⟨.routine, 9#6, 3#6, .console, 7#8, 2#6, [0#8, 0#8], some 48105#16⟩

theorem crowded_spareSound : crowded.toPart.SpareSound :=
  ⟨fun g => by cases g <;> decide, fun g => by cases g <;> decide⟩

theorem crowded_restartSound : crowded.toPart.RestartSound := by decide

theorem crowded_reply_displaced : (crowded.toPart.receiveFrame remapFromNewConsole).restartReplyLeft = true := by decide +kernel

theorem crowded_burn_begun : (crowded.toPart.receiveFrame remapFromNewConsole).substitution.holdsGroup .g0 = true := by decide +kernel

/-- Refutes O12: the cell of group 0 of `crowded` becomes LOST in an event before which no burn is in flight. The state
meets the two laws that the statement asks, `SpareSound` and `RestartSound`. -/
theorem not_spareCellsAreWrittenOnce : ¬ Obligations.SpareCellsAreWrittenOnce := by
  intro ⟨_, written⟩
  obtain ⟨t, taken, lost⟩ := exec_frameReceived_losesCell (s := crowded) (by decide) rfl crowded_reply_displaced
    crowded_burn_begun
  obtain same | ⟨_, _, b, burns, _⟩ := written _ crowded .g0 crowded_spareSound crowded_restartSound t taken
  · have unused : crowded.substitution.cell.get .g0 = .unused := rfl
    exact absurd (lost.symm.trans (same.trans unused)) (by decide)
  · cases burns

end Sys2Proof.Machine
end

section
/-! PROOF. What the hatch controller may do to the part, said once as an inductive relation: its own context, the custody
table, exceptions, its two locks, evaluations of the air path, and frames that are not of class FIRE (chapter 7). -/

namespace Sys2Proof.Machine

/-- `q` is made of `p` by what the rules of the hatch controller do. -/
inductive Part.HatchActs (p : Part) : Part → Prop where
  | refl : HatchActs p p
  | withHatch {q : Part} (h : HatchActs p q) (x : HatchContext) : HatchActs p (q.withHatch x)
  | withCustody {q : Part} (h : HatchActs p q) (x : CustodyTable) : HatchActs p (q.withCustody x)
  | withExceptions {q : Part} (h : HatchActs p q) (x : ExceptionStore) : HatchActs p (q.withExceptions x)
  | requestLock {q : Part} (h : HatchActs p q) (l : Leaf) (r : OutputRequest) :
      HatchActs p (q.requestOutput (lockOutput l) r)
  | evaluate {q : Part} (h : HatchActs p q) : HatchActs p q.evaluate
  | handFrame {q : Part} (h : HatchActs p q) (f : TxFrame) (cls : f.cls ≠ .fire) : HatchActs p (q.handFrame f)

namespace Part.HatchActs

variable {p q r : Part}

theorem ite {c : Prop} [Decidable c] (yes : p.HatchActs q) (no : p.HatchActs r) : p.HatchActs (if c then q else r) := by
  split
  · exact yes
  · exact no

variable (h : p.HatchActs q)
include h

/-! ## Locks, notices, abandonment (R114, R115, R122, R125) -/

theorem raise (k : ExceptionKind) (x : ExceptionSubject) : p.HatchActs (q.raise k x) := h.withExceptions _

theorem handNotices (xs : List Station) (t : NoticeType) (d : Option Direction) (b : Option Nat) (c : Option Cause) :
    p.HatchActs (q.handNotices xs t d b c) := by
  unfold Part.handNotices
  generalize q.hatch.state = st
  induction xs generalizing q with
  | nil => exact h
  | cons x xs ih => exact ih (h.handFrame _ (by simp [newFrame]))

theorem setHatchState (st : HatchState) : p.HatchActs (q.setHatchState st) := h.withHatch _

theorem setLock (l : Leaf) (on : Bool) : p.HatchActs (q.setLock l on) := (h.withHatch _).requestLock l _

theorem clearWindow (l : Leaf) : p.HatchActs (q.clearWindow l) := h.withHatch _

theorem lockBoth : p.HatchActs q.lockBoth := (((h.setLock _ _).setLock _ _).clearWindow _).clearWindow _

theorem unlock (l : Leaf) : p.HatchActs (q.unlock l) := .ite ((h.setLock l true).withHatch _) h

theorem unlockWithNotice (l : Leaf) (t : NoticeType) (xs : List Station) : p.HatchActs (q.unlockWithNotice l t xs) :=
  .ite ((h.unlock l).handNotices _ _ _ _ _) h

theorem endPurge : p.HatchActs q.endPurge := .ite (h.withHatch _).evaluate h

theorem abandonStage : p.HatchActs q.abandonStage := by
  unfold Part.abandonStage
  split
  · exact (h.withHatch _).withCustody _
  · exact (h.withHatch _).endPurge
  · exact (h.withHatch _).endPurge
  · exact h.withHatch _

theorem returnAccess (abandoned : Bool) : p.HatchActs (q.returnAccess abandoned) := by
  unfold Part.returnAccess
  split
  · exact (h.withHatch _).setHatchState _
  · exact h

theorem abandonHatchState (before : HatchContext) : p.HatchActs (q.abandonHatchState before) := by
  unfold Part.abandonHatchState
  split
  case h_1 =>
    refine .ite h ?_
    split
    · exact (h.withHatch _).setHatchState _
    · exact h
    · exact h.setHatchState _
  case h_2 => exact h.setHatchState _
  case h_3 => exact h.setHatchState _
  case h_4 => exact .ite h (h.setHatchState _)
  case h_5 => exact .ite h (h.returnAccess _)
  all_goals exact h

theorem abandonCore : p.HatchActs q.abandonCore := (h.lockBoth.withHatch _).abandonStage.abandonHatchState _

theorem abandon (c : Cause) : p.HatchActs (q.abandon c) := h.abandonCore.handNotices _ _ _ _ _

/-! ## Leaves (R115 to R117) -/

theorem forceLeaf (l : Leaf) : p.HatchActs (q.forceLeaf l) := ((h.withHatch _).setLock _ _).setHatchState _

theorem forced (l : Leaf) : p.HatchActs (q.forced l) :=
  .ite ((h.abandonCore.forceLeaf l).handNotices _ _ _ _ _) (h.forceLeaf l)

theorem discardTally (l : Leaf) : p.HatchActs (q.discardTally l) := .ite ((h.withHatch _).setHatchState _) h

theorem leafOpens (l : Leaf) : p.HatchActs (q.leafOpens l) := .ite ((h.withHatch _).discardTally l) (h.forced l)

theorem leafCloses (l : Leaf) : p.HatchActs (q.leafCloses l) := by
  have locked := (h.clearWindow l).setLock l false
  exact .ite ((locked.withHatch _).setHatchState _) locked

theorem takeLeaf (l : Leaf) (closed : Bool) : p.HatchActs (q.takeLeaf l closed) := .ite (h.leafCloses l) (h.leafOpens l)

/-! ## Tallies (R118 to R143) -/

theorem stagingTally (t : TagReport) : p.HatchActs (q.stagingTally t) := by
  unfold Part.stagingTally
  dsimp only
  exact .ite (((h.withCustody _).withHatch _).setHatchState _) (.ite (((h.withCustody _).withHatch _).setHatchState _)
    (.ite (((h.withCustody _).withHatch _).setHatchState _) (((h.withCustody _).withHatch _).setHatchState _)))

theorem departureTally (t : TagReport) : p.HatchActs (q.departureTally t) := by
  unfold Part.departureTally
  extract_lets before table gone settled
  have left : p.HatchActs settled :=
    .ite ((h.withCustody table).setHatchState _) (((h.withCustody table).withHatch _).setHatchState _)
  exact .ite ((left.withHatch _).handNotices _ _ _ _ _) left

theorem comparisonTally (t : TagReport) : p.HatchActs (q.comparisonTally t) :=
  .ite (((h.withCustody _).withHatch _).setHatchState _)
    (((h.abandonCore.setHatchState _).handNotices _ _ _ _ _).unlockWithNotice _ _ _)

theorem retrieveTally (t : TagReport) : p.HatchActs (q.retrieveTally t) :=
  .ite ((h.withHatch _).setHatchState _) ((h.setHatchState _).unlockWithNotice _ _ _)

theorem releaseExceptions (t : TagReport) (rs : List CustodyRecord) : p.HatchActs (q.releaseExceptions t rs) := by
  unfold Part.releaseExceptions
  extract_lets before leaving subject capped
  have raised : p.HatchActs capped := .ite (h.raise _ _) h
  split
  · exact raised
  · exact .ite raised (raised.raise _ _)

theorem releaseTally (t : TagReport) : p.HatchActs (q.releaseTally t) := by
  unfold Part.releaseTally
  extract_lets before table tallied emptied settled
  have gone : p.HatchActs tallied := (h.withCustody table).releaseExceptions _ _
  have left : p.HatchActs settled := .ite ((gone.withHatch _).setHatchState _) ((gone.withHatch _).stagingTally t)
  exact .ite (.ite ((gone.setHatchState _).unlockWithNotice _ _ _) (gone.setHatchState _))
    (.ite (left.handNotices _ _ _ _ _) left)

theorem applyTally (o : TallyOutcome) (t : TagReport) : p.HatchActs (q.applyTally o t) := by
  cases o with
  | staging => exact h.stagingTally t
  | departure => exact h.departureTally t
  | comparison => exact h.comparisonTally t
  | retrieve => exact h.retrieveTally t
  | release => exact h.releaseTally t
  | heldBatch => exact h.setHatchState _

theorem tallyCompletes (report : TagReport) : p.HatchActs (q.tallyCompletes report) :=
  .ite (((h.withHatch _).applyTally _ _).withHatch _) h

/-! ## Expiries, fire, purge, dose (R115, R124, R126, R134, R135, R137) -/

theorem windowExpires (l : Leaf) : p.HatchActs (q.windowExpires l) := by
  have closed := (h.setLock l false).clearWindow l
  refine .ite ?_ h
  dsimp only
  split
  · exact closed.returnAccess _
  · exact .ite (closed.abandon _) closed
  · exact closed

theorem stepTimeoutExpires : p.HatchActs q.stepTimeoutExpires := .ite (.ite (h.abandon _) (h.withHatch _)) h

/-- A fire locks the hatch, whatever it finds there (R126). -/
theorem hatchTakesFire (old : FireState) : p.HatchActs (q.hatchTakesFire old) := by
  refine .ite (.ite (h.lockBoth.abandon _) ?_) h
  dsimp only
  split
  · exact .ite (h.lockBoth.returnAccess _) h.lockBoth
  · refine .ite ?_ h.lockBoth
    split
    · exact h.lockBoth.setHatchState _
    · exact h.lockBoth.setHatchState _
    · exact h.lockBoth.stagingTally _
  · exact h.lockBoth

theorem completePurge (timedOut : Bool) : p.HatchActs (q.completePurge timedOut) :=
  ((HatchActs.ite (h.raise _ _) h).endPurge.setHatchState _).unlockWithNotice _ _ _

theorem purgeSecond : p.HatchActs q.purgeSecond := .ite (.ite ((h.withHatch _).completePurge _) (h.withHatch _)) h

theorem accumulateDose (store chamber : Option Nat) : p.HatchActs (q.accumulateDose store chamber) := by
  refine .ite ?_ h
  split
  · exact .ite ((h.withHatch _).raise _ _) (h.withHatch _)
  · exact h

theorem toleranceHandOff (store chamber : Option Nat) : p.HatchActs (q.toleranceHandOff store chamber) :=
  .ite (.ite (.ite ((h.withHatch _).completePurge _) (h.withHatch _)) (h.withHatch _)) h

theorem hatchHandOff (store chamber : Option Nat) : p.HatchActs (q.hatchHandOff store chamber) :=
  ((h.withHatch _).accumulateDose _ _).toleranceHandOff _ _

end Part.HatchActs

/-- What the hatch controller does leaves every output but its locks and those of the air path (R114, R170). -/
theorem Part.HatchActs.output {p q : Part} (h : p.HatchActs q) {o : OutputId} (lock : ∀ l, o ≠ lockOutput l)
    (fan : o ≠ .out6) (plant : o ≠ .out7) : q.outputs.get o = p.outputs.get o := by
  induction h with
  | refl => rfl
  | requestLock _ l r ih => rw [Part.requestOutput_other _ r (lock l), ih]
  | evaluate _ ih =>
    rw [Part.evaluate_outputs, Part.resolveAirPath, Part.takeChoice_outputs, ← ih]
    cases o with
    | out6 => exact absurd rfl fan
    | out7 => exact absurd rfl plant
    | _ => rfl
  | handFrame _ _ _ ih => simpa using ih
  | _ _ _ ih => exact ih

end Sys2Proof.Machine
end

section
/-! PROOF. The SHUT law at the governor and the outputs, through every event of a part that acts (R40, R42, R46). -/

namespace Sys2Proof.Machine

/-! ## What the law reads -/

/-- What the SHUT law speaks of: the SHUT condition, the governor's requests, and what the outputs of the air path do. -/
structure AirView where
  shut : Bool
  airPath : AirPath
  damper : Nat
  fan : Bool
  plant : Bool
  effective : Nat
  opening : Option Nat
  fanOutput : OutputState
  plantOutput : OutputState

def Part.airView (p : Part) : AirView :=
  ⟨p.shutCondition, p.climate.airPath, p.climate.damper, p.climate.fan, p.climate.plant, p.climate.effective,
    p.outputs.out5.opening, p.outputs.out6.state, p.outputs.out7.state⟩

/-- The law of a part that acts (`Part.shutSafe_iff`). -/
structure AirView.Lawful (v : AirView) : Prop where
  shut : v.shut = true → v.airPath = .shut ∧ v.damper = 0 ∧ v.fan = false ∧ v.plant = false ∧ v.effective = 0
  opening : ∀ x, v.opening = some x → x = v.damper
  fan : v.fanOutput = .drivenOn → v.fan = true
  plant : v.plantOutput = .drivenOn → v.plant = true

variable {p q r : Part}

/-- The law of a part that acts holds the outputs too, so it is the law of any part. -/
theorem AirView.Lawful.shutSafe (h : p.airView.Lawful) : p.ShutSafe := by
  refine ⟨fun shut => ?_, fun _ => ⟨h.shut, h.opening, h.fan, h.plant⟩⟩
  obtain ⟨_, damper, fan, plant, _⟩ := h.shut shut
  refine ⟨fun x opening => (h.opening x opening).trans damper, fun on => ?_, fun on => ?_⟩
  · exact absurd (h.fan on) (fan ▸ Bool.false_ne_true)
  · exact absurd (h.plant on) (plant ▸ Bool.false_ne_true)

theorem Part.shutSafe_iff (acts : p.running = true) : p.ShutSafe ↔ p.airView.Lawful :=
  ⟨fun ⟨_, law⟩ => ⟨(law acts).1, (law acts).2.1, (law acts).2.2.1, (law acts).2.2.2⟩, AirView.Lawful.shutSafe⟩

theorem Part.shutCondition_congr (fire : p.fire = q.fire) (peers : p.peers = q.peers) (startUp : p.startUp = q.startUp) :
    p.shutCondition = q.shutCondition := by
  unfold Part.shutCondition Part.peerShut Part.ductPeer
  rw [fire, peers, Part.settings_eq, Part.settings_eq, startUp]

theorem Part.airView_congr (climate : p.climate = q.climate) (outputs : p.outputs = q.outputs) (fire : p.fire = q.fire)
    (peers : p.peers = q.peers) (startUp : p.startUp = q.startUp) : p.airView = q.airView := by
  unfold Part.airView
  rw [Part.shutCondition_congr fire peers startUp, climate, outputs]

/-! ## An evaluation establishes the law (R40, R42) -/

theorem resolve_shut {shut purge park : Bool} {grant opening : Nat} (holds : shut = true) :
    resolve shut purge grant park opening = ⟨.shut, 0, false, false⟩ := if_pos holds

theorem Part.resolveAirPath_lawful (p : Part) : p.resolveAirPath.airView.Lawful := by
  have condition : p.resolveAirPath.shutCondition = p.shutCondition :=
    Part.shutCondition_congr (by simp) (by simp) (by simp)
  have outputs := p.takeChoice_outputs p.effectiveDemand p.computedGrant p.airPathChoice
  obtain ⟨_, _, climate⟩ := p.takeChoice_climate p.effectiveDemand p.computedGrant p.airPathChoice
  unfold Part.airView
  rw [condition, Part.resolveAirPath, climate, outputs]
  refine ⟨fun shut => ?_, fun x opening => ?_, fun on => ?_, fun on => ?_⟩
  · have chosen : p.airPathChoice = ⟨.shut, 0, false, false⟩ := resolve_shut shut
    simp only [chosen, true_and]
    exact if_pos shut
  · dsimp only at opening ⊢
    split at opening
    · exact (Option.some.inj opening).symm
    · cases opening
  · have request := DigitalOutput.take_drivenOn on
    revert request
    cases p.airPathChoice.fan <;> simp [onOff]
  · have request := DigitalOutput.take_drivenOn on
    revert request
    cases p.airPathChoice.plant <;> simp [onOff]

theorem Part.evaluate_lawful (p : Part) : p.evaluate.airView.Lawful := by
  have view : p.evaluate.airView = p.resolveAirPath.airView := by
    unfold Part.airView
    rw [Part.evaluate_climate, Part.evaluate_outputs]
    congr 1
    exact Part.shutCondition_congr (by simp) (by simp) (by simp)
  exact view ▸ p.resolveAirPath_lawful

/-! ## What keeps the law -/

/-- `q` is what a block may make of `p` in an event: the start-up unit stays, but for a restart that becomes pending, and
the law is kept. -/
structure Part.KeepsAir (p q : Part) : Prop where
  startUp : q.startUp = { p.startUp with restartDeadline := q.startUp.restartDeadline }
  law : p.airView.Lawful → q.airView.Lawful

namespace Part.KeepsAir

theorem refl (p : Part) : p.KeepsAir p := ⟨rfl, id⟩

theorem trans (h : p.KeepsAir q) (k : q.KeepsAir r) : p.KeepsAir r :=
  ⟨by rw [k.startUp, h.startUp], k.law ∘ h.law⟩

theorem ite {c : Prop} [Decidable c] (yes : p.KeepsAir q) (no : p.KeepsAir r) : p.KeepsAir (if c then q else r) := by
  split
  · exact yes
  · exact no

/-- Whatever has changed before it, an evaluation gives the law. -/
theorem evaluated (startUp : q.startUp = p.startUp) : p.KeepsAir q.evaluate :=
  ⟨by simp [startUp], fun _ => q.evaluate_lawful⟩

variable (h : p.KeepsAir q)
include h

theorem evaluate : p.KeepsAir q.evaluate := h.trans (evaluated rfl)

/-- A change of what the law does not read. -/
theorem same (startUp : r.startUp = q.startUp := by rfl) (view : r.airView = q.airView := by rfl) : p.KeepsAir r :=
  h.trans ⟨by rw [startUp], fun law => view ▸ law⟩

/-- A change of other blocks. -/
theorem others (frame : r.climate = q.climate ∧ r.outputs = q.outputs ∧ r.fire = q.fire ∧ r.peers = q.peers
    ∧ r.startUp = q.startUp) : p.KeepsAir r := by
  obtain ⟨climate, outputs, fire, peers, startUp⟩ := frame
  exact h.same startUp (Part.airView_congr climate outputs fire peers startUp)

theorem handFrame (f : TxFrame) : p.KeepsAir (q.handFrame f) := h.others (by simp)

theorem reply (a : Asker) (st : Status) (d : ReplyData) : p.KeepsAir (q.reply a st d) := h.handFrame _

theorem handFireState : p.KeepsAir q.handFireState := h.handFrame _

/-- A request to an output that is not of the air path. -/
theorem requestOutput {o : OutputId} (x : OutputRequest) (fan : .out6 ≠ o) (plant : .out7 ≠ o) :
    p.KeepsAir (q.requestOutput o x) := by
  have six := q.requestOutput_other x fan
  have seven := q.requestOutput_other x plant
  refine h.same (by simp) ?_
  unfold Part.airView
  rw [Part.requestOutput_out5, show (q.requestOutput o x).outputs.out6 = q.outputs.out6 from six,
    show (q.requestOutput o x).outputs.out7 = q.outputs.out7 from seven]
  simp [Part.shutCondition_congr (p := q.requestOutput o x) (q := q) (by simp) (by simp) (by simp)]

omit h

/-- The hatch controller touches the air path by evaluations alone. -/
theorem ofHatch (h : p.HatchActs q) : p.KeepsAir q := by
  induction h with
  | refl => exact refl p
  | requestLock _ l r ih => cases l <;> exact ih.requestOutput r nofun nofun
  | evaluate _ ih => exact ih.evaluate
  | handFrame _ f _ ih => exact ih.handFrame f
  | _ _ _ ih => exact ih.same

/-- An act of the hatch controller after what keeps the law. -/
theorem hatch (h : p.KeepsAir q) (k : q.HatchActs r) : p.KeepsAir r := h.trans (ofHatch k)

end Part.KeepsAir

end Sys2Proof.Machine
end

section
/-! PROOF. The SHUT law through the blocks: the climate governor, the fire sequencer, scans, inputs, the peer view and
requests. -/

namespace Sys2Proof.Machine

variable {p q : Part}

namespace Part.KeepsAir

section
variable (h : p.KeepsAir q)
include h

/-! ## The climate governor (R33, R39, R47, R48) -/

theorem setDamperFault (fault : Bool) : p.KeepsAir (q.setDamperFault fault) :=
  .ite h (h.same (r := q.withClimate { q.climate with damperFault := fault })).handFireState

theorem startConfirmation : p.KeepsAir q.startConfirmation := .ite h.same h

theorem superviseSwitch (closed : Bool) : p.KeepsAir (q.superviseSwitch closed) :=
  .ite (.ite ((h.same (r := q.endConfirmation)).setDamperFault _) h.startConfirmation) h

theorem takePlantInput (faulted : Bool) : p.KeepsAir (q.takePlantInput faulted) :=
  h.trans (evaluated (q := q.withClimate { q.climate with plantFault := faulted }) rfl)

theorem confirmationExpires : p.KeepsAir q.confirmationExpires :=
  .ite ((h.same (r := q.endConfirmation)).setDamperFault _) h

theorem climateHandOff (store : Option Nat) : p.KeepsAir (q.climateHandOff store) := by
  have resolved : q.KeepsAir (q.withClimate { q.climate with demand := demandLaw q.settings store }).resolveAirPath :=
    ⟨by simp, fun _ => Part.resolveAirPath_lawful _⟩
  exact (h.trans resolved).handFrame _

/-! ## The fire sequencer (R66 to R83) -/

/-- A change of the fire state is followed by an evaluation (R66). -/
theorem changeFire (f : FireSequencer) : p.KeepsAir (q.changeFire f) :=
  h.trans ((evaluated (by simp)).hatch (.hatchTakesFire .refl _))

theorem requestRelease (x : OutputRequest) : p.KeepsAir (q.requestOutput .out2 x) := h.requestOutput x nofun nofun

theorem discharge : p.KeepsAir q.discharge := (h.changeFire _).requestRelease _

theorem expireAtZero : p.KeepsAir q.expireAtZero := .ite h.discharge h

theorem enterPreDischarge (n : Nat) (alarm : Option AlarmRecord) : p.KeepsAir (q.enterPreDischarge n alarm) :=
  (h.changeFire _).expireAtZero

theorem confirmFire : p.KeepsAir q.confirmFire := h.enterPreDischarge _ _

theorem enterHold (unconfirmed : Bool) : p.KeepsAir (q.enterHold unconfirmed) := (h.requestRelease _).changeFire _

/-- The sequencer changes, its state does not. -/
theorem withFire (f : FireSequencer) (state : f.state = q.fire.state := by rfl) : p.KeepsAir (q.withFire f) := by
  refine h.same rfl ?_
  have condition : (q.withFire f).shutCondition = q.shutCondition := by simp [Part.shutCondition, state, Part.peerShut,
    Part.ductPeer, Part.settings_eq]
  exact congrArg (fun shut => { q.airView with shut := shut }) condition

theorem updateFire (f : FireSequencer) (state : f.state = q.fire.state := by rfl) : p.KeepsAir (q.updateFire f) :=
  (h.withFire f state).handFireState

theorem pulseEnds : p.KeepsAir q.pulseEnds := .ite (h.enterHold _) ((h.requestRelease _).withFire _ (by simp))

theorem countdownSecond : p.KeepsAir q.countdownSecond := .ite (h.withFire _).expireAtZero h

theorem enterAlert (a : AlarmRecord) : p.KeepsAir (q.enterAlert a) :=
  .ite (h.changeFire _).confirmFire (h.changeFire _)

theorem takeLoopChange (l : LoopId) (old new : LoopClass) : p.KeepsAir (q.takeLoopChange l old new) := by
  unfold Part.takeLoopChange
  dsimp only
  split
  · exact .ite (.ite (h.enterPreDischarge _ _) (h.enterAlert _)) h
  · exact .ite h.confirmFire (.ite (.ite h h.confirmFire) h)
  all_goals exact h

theorem takeNeighbourChange (st : FireState) : p.KeepsAir (q.takeNeighbourChange st) := .ite h.confirmFire h

theorem manualRelease : p.KeepsAir q.manualRelease := by
  unfold Part.manualRelease
  dsimp only
  split
  · exact h.enterPreDischarge _ _
  · exact h.enterPreDischarge _ _
  · exact .ite h (h.updateFire _).expireAtZero
  all_goals exact h

theorem takeAbort (active : Bool) : p.KeepsAir (q.takeAbort active) :=
  .ite (.ite (.ite h (h.updateFire _)) (.ite (h.updateFire _) h)) h

theorem setCylinderLow (low : Bool) : p.KeepsAir (q.setCylinderLow low) := .ite h (h.updateFire _)

theorem takePressure (normal : Bool) : p.KeepsAir (q.takePressure normal) := by
  refine .ite (h.setCylinderLow _) ?_
  split
  · exact h.setCylinderLow _
  · exact h.setCylinderLow _
  · exact .ite ((h.withFire _).enterHold _) (h.withFire _)
  all_goals exact h

theorem takeCancelDischarge (a : Asker) : p.KeepsAir (q.takeCancelDischarge a) :=
  .ite (h.reply _ _ _) (.ite (h.reply _ _ _) ((h.changeFire _).reply _ _ _))

theorem takeResetFire (a : Asker) : p.KeepsAir (q.takeResetFire a) := .ite (h.reply _ _ _) ((h.changeFire _).reply _ _ _)

/-! ## Scans, loops, inputs, the second count -/

theorem handScan : p.KeepsAir q.handScan := ((h.climateHandOff _).hatch (.hatchHandOff .refl _ _)).handFrame _

theorem decideChannel (x : Scan) (g : Group) (pl : Place) : p.KeepsAir (q.decideChannel x g pl) :=
  .ite (h.same (r := (q.withMoisture _).withMoisture _)).handScan h.same

theorem channelMisses (x : Scan) (g : Group) (pl : Place) : p.KeepsAir (q.channelMisses x g pl) :=
  (h.same (r := q.withMoisture _)).decideChannel x g pl

theorem channelReads (x : Scan) (g : Group) (pl : Place) (t : Int) (rh : Nat) : p.KeepsAir (q.channelReads x g pl t rh) :=
  (ite (h.same (r := (q.withMoisture _).raise _ _)) (h.same (r := q.withMoisture _))).decideChannel x g pl

theorem takeAnswer (g : Group) (pl : Place) (t : Int) (rh : Nat) (agrees : Bool) :
    p.KeepsAir (q.takeAnswer g pl t rh agrees) := by
  unfold Part.takeAnswer
  split
  · exact .ite h (.ite (h.channelReads _ _ _ _ _) (h.channelMisses _ _ _))
  · exact h

theorem windowCloses (g : Group) (pl : Place) : p.KeepsAir (q.windowCloses g pl) := by
  unfold Part.windowCloses
  split
  · exact h.channelMisses _ _ _
  · exact h

theorem takeLoopReading (l : LoopId) (reading : Nat) : p.KeepsAir (q.takeLoopReading l reading) := by
  unfold Part.takeLoopReading
  extract_lets old new counted shown
  have kept : p.KeepsAir shown := .ite h.same (h.same (r := counted)).handFireState
  exact .ite kept (kept.takeLoopChange _ _ _)

theorem handInput (i : InputId) (active : Bool) : p.KeepsAir (q.handInput i active) := by
  cases i with
  | in0 => exact h.hatch (.takeLeaf .refl _ _)
  | in1 => exact h.hatch (.takeLeaf .refl _ _)
  | in2 => exact .ite h.manualRelease h
  | in3 => exact h.takeAbort _
  | in4 => exact h.takePressure _
  | in5 => exact h.superviseSwitch _
  | in6 => exact h.takePlantInput _
  | in7 => exact h

theorem acceptInput (i : InputId) : p.KeepsAir (q.acceptInput i) := by
  unfold Part.acceptInput
  dsimp only
  split
  · exact h
  · exact .ite h.same ((h.same (r := q.withInputs _)).handInput _ _)

theorem advanceSecond : p.KeepsAir q.advanceSecond :=
  ((h.others (r := q.countSecond) (by simp)).same (r := q.countSecond.withClock _)).countdownSecond.hatch
    (.purgeSecond .refl)

theorem phaseEnds (g : Signal) : p.KeepsAir (q.phaseEnds g) := by
  cases g with
  | sounder => exact h.same
  | beacon => exact h.same

end

/-! ## The peer view (R41, R42, R163, R164) -/

/-- A change of the peer view under which no entry newly shuts the duct. -/
theorem withPeers {v : PeerView} (unshut : (p.withPeers v).shutCondition = true → p.shutCondition = true) :
    p.KeepsAir (p.withPeers v) :=
  ⟨rfl, fun law => ⟨fun shut => law.shut (unshut shut), law.opening, law.fan, law.plant⟩⟩

end Part.KeepsAir

theorem Part.shutCondition_iff : p.shutCondition = true
    ↔ p.fire.state.sealed = true ∨ ∃ e ∈ p.peers.entries, p.ductPeer e = true ∧ e.fireState.any FireState.gasReleased = true := by
  simp [Part.shutCondition, Part.peerShut]

@[simp] theorem PeerEntry.hears_station (e : PeerEntry) (role : Role) (now : Time) (c : PeerContent) :
    (e.hears role now c).station = e.station := by
  unfold PeerEntry.hears
  split <;> rfl

/-- After a change of the first that meets `q`, which still meets it, the first is the changed one. -/
theorem find_changeFirst {α : Type} {q : α → Bool} {f : α → α} (still : ∀ x, q x = true → q (f x) = true) (xs : List α) :
    (changeFirst q f xs).find? q = (xs.find? q).map f := by
  induction xs with
  | nil => rfl
  | cons x xs ih =>
    rw [changeFirst]
    cases meets : q x
    · simp [meets, ih]
    · simp [meets, still x meets]

/-- After a change of the first that meets `q`, an element was there before or is the changed one. -/
theorem mem_changeFirst_find {α : Type} {q : α → Bool} {f : α → α} {xs : List α} {y : α} (mem : y ∈ changeFirst q f xs) :
    y ∈ xs ∨ (xs.find? q).map f = some y := by
  induction xs with
  | nil => cases mem
  | cons x xs ih =>
    rw [changeFirst] at mem
    cases meets : q x
    · rw [meets, if_neg Bool.false_ne_true] at mem
      rcases List.mem_cons.1 mem with rfl | mem
      · exact .inl List.mem_cons_self
      · rw [List.find?_cons_of_neg (by simp [meets])]
        exact (ih mem).imp_left (List.mem_cons_of_mem _)
    · rw [meets, if_pos rfl] at mem
      rw [List.find?_cons_of_pos (by exact meets)]
      rcases List.mem_cons.1 mem with rfl | mem
      · exact .inr rfl
      · exact .inl (List.mem_cons_of_mem _ mem)

section
variable {v : PeerView} {f : RxFrame} (now : Time)

theorem PeerView.hears_known {e : PeerEntry} (known : v.find f.source = some e) :
    v.hears f now = { v with
      entries := changeFirst (fun e => e.station == f.source) (fun e => e.hears f.role now (contentOf f)) v.entries
      watches := hearWatches v.watches f.source now } := by
  simp [PeerView.hears, known]

theorem PeerView.hears_new (absent : v.find f.source = none) (room : v.entries.length < peerCapacity) :
    v.hears f now = { v with
      entries := v.entries ++ [(PeerEntry.new f.source f.role now).hears f.role now (contentOf f)]
      watches := hearWatches v.watches f.source now } := by
  simp [PeerView.hears, absent, room]

theorem PeerView.hears_full (absent : v.find f.source = none) (full : ¬ v.entries.length < peerCapacity) :
    v.hears f now = { v with tableFull := true, watches := hearWatches v.watches f.source now } := by
  simp [PeerView.hears, absent, full]

theorem PeerView.find_hears_known {e : PeerEntry} (known : v.find f.source = some e) :
    (v.hears f now).find f.source = some (e.hears f.role now (contentOf f)) := by
  rw [PeerView.hears_known now known]
  unfold PeerView.find at known ⊢
  rw [find_changeFirst (fun x meets => by simpa using meets), known]
  rfl

theorem PeerView.find_hears_new (absent : v.find f.source = none) (room : v.entries.length < peerCapacity) :
    (v.hears f now).find f.source = some ((PeerEntry.new f.source f.role now).hears f.role now (contentOf f)) := by
  rw [PeerView.hears_new now absent room]
  unfold PeerView.find at absent ⊢
  rw [List.find?_append, absent]
  simp [PeerEntry.new]

theorem PeerView.find_hears_full (absent : v.find f.source = none) (full : ¬ v.entries.length < peerCapacity) :
    (v.hears f now).find f.source = none := by
  rw [PeerView.hears_full now absent full]
  exact absent

/-- An entry after a valid frame was there before, or is the entry of the source (R163). -/
theorem PeerView.mem_hears {e : PeerEntry} (mem : e ∈ (v.hears f now).entries) :
    e ∈ v.entries ∨ (v.hears f now).find f.source = some e := by
  cases known : v.find f.source with
  | some old =>
    rw [PeerView.hears_known now known] at mem
    refine (mem_changeFirst_find mem).imp_right fun changed => ?_
    unfold PeerView.find at known
    rw [known] at changed
    rw [PeerView.find_hears_known now known]
    exact changed
  | none =>
    by_cases room : v.entries.length < peerCapacity
    · rw [PeerView.hears_new now known room] at mem
      rw [PeerView.find_hears_new now known room]
      exact (List.mem_append.1 mem).imp_right fun last => by rw [List.mem_singleton.1 last]
    · rw [PeerView.hears_full now known room] at mem
      exact .inl mem

end

/-- A changed entry that does not concern the climate governor shuts the duct only where it did so before (log 32). -/
theorem Part.concernsClimate_shut {old : Option PeerEntry} {new : PeerEntry} (unconcerned : p.concernsClimate old new = false)
    (peer : p.ductPeer new = true) (gas : new.fireState.any FireState.gasReleased = true) :
    ∃ o, old = some o ∧ p.ductPeer o = true ∧ o.fireState.any FireState.gasReleased = true := by
  cases old with
  | none => exact absurd peer (by simpa [Part.concernsClimate] using unconcerned)
  | some o =>
    simp only [Part.concernsClimate, Bool.or_eq_false_iff, Bool.and_eq_false_imp, bne_eq_false_iff_eq, peer, true_implies]
      at unconcerned
    obtain ⟨⟨role, group⟩, recorded, fireState⟩ := unconcerned
    have group : o.ductGroup = new.ductGroup := group (by simpa [Option.isSome_iff_ne_none] using recorded)
    exact ⟨o, rfl, by simpa [Part.ductPeer, role, group] using peer, fireState ▸ gas⟩

/-- A valid frame whose entry does not concern the climate governor shuts no duct newly (R42, log 32). -/
theorem Part.hears_unshut {f : RxFrame}
    (unconcerned : ∀ new, (p.peers.hears f p.now).find f.source = some new →
      p.concernsClimate (p.peers.find f.source) new = false)
    (shut : (p.withPeers (p.peers.hears f p.now)).shutCondition = true) : p.shutCondition = true := by
  rw [Part.shutCondition_iff] at shut ⊢
  refine shut.imp_right fun ⟨e, mem, peer, gas⟩ => ?_
  rcases PeerView.mem_hears _ mem with before | found
  · exact ⟨e, before, peer, gas⟩
  · obtain ⟨o, known, was⟩ := Part.concernsClimate_shut (unconcerned e found) peer gas
    exact ⟨o, List.mem_of_find?_eq_some known, was⟩

theorem Part.KeepsAir.hearFrame (p : Part) (f : RxFrame) : p.KeepsAir (p.hearFrame f) := by
  unfold Part.hearFrame
  dsimp only
  split
  · next new found =>
    unfold Part.handPeerChange
    extract_lets told
    have told_of {r : Part} (kept : r.KeepsAir (p.withPeers (p.peers.hears f p.now))) : r.KeepsAir told := by
      unfold told
      split
      · exact kept.takeNeighbourChange _
      · exact kept
    split
    · exact ⟨by simpa using (told_of (.refl _)).startUp, fun _ => told.evaluate_lawful⟩
    · next unconcerned =>
      refine told_of (.withPeers (Part.hears_unshut fun e here => ?_))
      rw [Option.some.inj (here.symm.trans found)]
      exact Bool.not_eq_true _ ▸ unconcerned
  · next absent =>
    exact .withPeers (Part.hears_unshut fun e here => absurd (here.symm.trans absent) nofun)

end Sys2Proof.Machine
end

section
/-! PROOF. The SHUT law through the requests of bus peers (R158), with those of the hatch (R119, R121 to R133). -/

namespace Sys2Proof.Machine

variable {p q : Part}

namespace Part.KeepsAir

variable (h : p.KeepsAir q)
include h

/-! ## Requests of the hatch (R119, R121 to R133) -/

theorem refuseSequence (a : Asker) (x : HatchContext) : p.KeepsAir (q.refuseSequence a x) := h.reply _ _ _

theorem takeOpenInner (a : Asker) : p.KeepsAir (q.takeOpenInner a) := by
  have opened : p.KeepsAir _ := h.hatch (((HatchActs.refl.withHatch
    { q.hatch with returnState := some q.hatch.state, startTally := .no }).unlock .inner).setHatchState .innerAccess)
  exact .ite (h.reply _ _ _) (.ite (h.reply _ _ _) (.ite (h.reply _ _ _) (.ite (h.reply _ _ _) (opened.reply _ _ _))))

theorem takeInboundAttest (a : Asker) (x : HandoverRequest) : p.KeepsAir (q.takeInboundAttest a x) :=
  (h.hatch ((HatchActs.refl.withHatch _).setHatchState _).evaluate).reply _ _ _

theorem takeStep (a : Asker) (x : HandoverRequest) : p.KeepsAir (q.takeStep a x) := by
  unfold Part.takeStep
  split
  · exact h.takeInboundAttest a _
  · exact (h.hatch (((HatchActs.refl.withHatch _).setHatchState _).unlockWithNotice _ _ _)).reply _ _ _
  · exact (h.same (r := q.withHatch _)).reply _ _ _

theorem takeWhileOpen (a : Asker) (x : HandoverRequest) : p.KeepsAir (q.takeWhileOpen a x) :=
  .ite (h.reply _ _ _) (.ite (h.takeStep a x)
    (.ite ((h.reply _ _ _).hatch (.abandon .refl _)) ((h.refuseSequence _ _).hatch (.abandon .refl _))))

theorem takePresentOut (a : Asker) (b n c : Nat) : p.KeepsAir (q.takePresentOut a b n c) :=
  .ite (h.reply _ _ _) (.ite (h.reply _ _ _) (.ite (h.reply _ _ _) (.ite (h.refuseSequence _ _)
    ((h.same (r := q.withHatch _)).reply _ _ _))))

theorem takePresentIn (a : Asker) (b n c : Nat) : p.KeepsAir (q.takePresentIn a b n c) :=
  .ite (h.reply _ _ _) (.ite (h.reply _ _ _) (.ite (h.reply _ _ _) (.ite (h.reply _ _ _)
    ((h.hatch ((((HatchActs.refl.withCustody _).withHatch _).setHatchState _).unlockWithNotice _ _ _)).reply _ _ _))))

theorem takeWhileClosed (a : Asker) (x : HandoverRequest) : p.KeepsAir (q.takeWhileClosed a x) := by
  unfold Part.takeWhileClosed
  split
  · exact h.takePresentOut a _ _ _
  · exact h.takePresentIn a _ _ _
  · exact .ite (.ite (h.reply _ _ _) (.ite (h.reply _ _ _) (h.takeInboundAttest _ _))) (h.refuseSequence _ _)
  · exact .ite (.ite (h.reply _ _ _) ((h.hatch ((HatchActs.refl.withHatch _).unlockWithNotice _ _ _)).reply _ _ _))
      (h.refuseSequence _ _)
  · exact h.refuseSequence _ _

theorem takeHandover (a : Asker) (x : HandoverRequest) : p.KeepsAir (q.takeHandover a x) :=
  .ite (h.reply _ _ _) (.ite (h.takeWhileOpen a x) (h.takeWhileClosed a x))

/-! ## Dispatch (R158, R159, R182) -/

/-- A restart becomes pending (R182). -/
theorem takeRestart (a : Asker) : p.KeepsAir (q.takeRestart a) :=
  .ite (h.reply _ _ _)
    ((h.trans (r := q.withStartUp { q.startUp with restartDeadline := some (q.now + restartTime) }) ⟨rfl, id⟩).handFrame _)

theorem handToOwner (a : Asker) (x : Request) : p.KeepsAir (q.handToOwner a x) := by
  cases x with
  | cancelDischarge => exact h.takeCancelDischarge a
  | resetFire => exact h.takeResetFire a
  | present _ _ _ _ => exact h.takeHandover a _
  | attest _ _ => exact h.takeHandover a _
  | accept _ => exact h.takeHandover a _
  | withdraw _ => exact h.takeHandover a _
  | openInner => exact h.takeOpenInner a
  | restart => exact h.takeRestart a
  | _ => exact h.others (by simp [Part.handToOwner])

theorem answer (a : Asker) (role : Role) (x : Request) : p.KeepsAir (q.answer a role x) := by
  refine .ite (h.reply _ _ _) (.ite (h.others (by simp)) ?_)
  split
  · exact h.reply _ _ _
  · exact h.handToOwner a x

theorem takeRequest (src : Station) (role : Role) (x : Request) : p.KeepsAir (q.takeRequest src role x) :=
  .ite (h.answer _ _ _) h

theorem dispatch (f : RxFrame) : p.KeepsAir (q.dispatch f) := by
  unfold Part.dispatch
  dsimp only
  split
  case h_1 => exact h.reply _ _ _
  case h_6 =>
    refine .ite (h.reply _ _ _) ?_
    split
    · exact h.answer _ _ _
    · exact h.others (by simp)
  all_goals exact h

theorem receiveFrame (f : RxFrame) : p.KeepsAir (q.receiveFrame f) := by
  have heard := h.trans (hearFrame q f)
  have minute := ite (c := (q.bus.station == some f.dest || f.dest == broadcastStation) = true)
    (heard.others (r := (q.hearFrame f).adoptMinute (contentOf f).minute) (by simp)) heard
  exact .ite (.ite (minute.dispatch f) minute) h

end Part.KeepsAir

end Sys2Proof.Machine
end

section
/-! PROOF. O14: the SHUT law through starts, supplies, pins and idle steps, and so through every step (R42, R49, R186). -/

namespace Sys2Proof.Machine

variable {p q : Part}

/-! ## Parts that do not act -/

/-- No output opens the damper or drives fan or plant. -/
def OutputDriver.AirClosed (d : OutputDriver) : Prop :=
  (∀ x, d.out5.opening = some x → x = 0) ∧ d.out6.state ≠ .drivenOn ∧ d.out7.state ≠ .drivenOn

/-- Of a part that does not act the law asks the outputs alone. -/
theorem Part.shutSafe_iff_of_held (held : p.running ≠ true) :
    p.ShutSafe ↔ (p.shutCondition = true → p.outputs.AirClosed) :=
  ⟨fun ⟨law, _⟩ => law, fun law => ⟨law, fun acts => absurd acts held⟩⟩

theorem OutputDriver.released_airClosed : OutputDriver.released.AirClosed := ⟨nofun, nofun, nofun⟩

theorem safeOutput_not_driven (c : Settings) (o : OutputId) : (safeOutput c o).state ≠ .drivenOn := by
  unfold safeOutput
  split <;> simp

theorem OutputDriver.safe_airClosed (c : Settings) : (OutputDriver.safe c).AirClosed := by
  refine ⟨fun x => ?_, ?_, ?_⟩
  · unfold OutputDriver.safe
    split
    · exact fun opening => (Option.some.inj opening).symm
    · nofun
  · exact safeOutput_not_driven c .out6
  · exact safeOutput_not_driven c .out7

/-- A part that does not act, with the outputs and the SHUT condition of one that keeps the law. -/
theorem Part.ShutSafe.held (h : p.ShutSafe) (held : q.running ≠ true) (shut : q.shutCondition = p.shutCondition)
    (outputs : q.outputs = p.outputs) : q.ShutSafe := by
  rw [Part.shutSafe_iff_of_held held, shut, outputs]
  exact h.1

theorem Part.shutSafe_of_closed (held : q.running ≠ true) (closed : q.outputs.AirClosed) : q.ShutSafe :=
  (Part.shutSafe_iff_of_held held).2 fun _ => closed

/-! ## The stages of a start (R173, R186) -/

/-- Before stage 3 a restart leaves the SHUT condition and the outputs of the air path as they are (R183, R186). -/
theorem Part.afterStage_restart_air {stage : StartStage} (early : stage ≠ .safe ∧ stage ≠ .valued) :
    (p.afterStage .restart stage).shutCondition = p.shutCondition
      ∧ (p.afterStage .restart stage).outputs.out5 = p.outputs.out5
      ∧ (p.afterStage .restart stage).outputs.out6 = p.outputs.out6
      ∧ (p.afterStage .restart stage).outputs.out7 = p.outputs.out7 := by
  cases stage with
  | safe => exact absurd rfl early.1
  | valued => exact absurd rfl early.2
  | _ => exact ⟨rfl, rfl, rfl, rfl⟩

/-- A power start that has driven no output drives none that opens the air path (R186). -/
theorem Part.afterStage_power_closed (x : PowerStart) (stage : StartStage) (released : p.outputs = OutputDriver.released) :
    (p.afterStage (.power x) stage).outputs.AirClosed := by
  have early (outputs : (p.afterStage (.power x) stage).outputs = p.abandonInFlight.outputs) :
      (p.afterStage (.power x) stage).outputs.AirClosed := by
    rw [outputs]
    unfold Part.abandonInFlight
    rw [released]
    exact OutputDriver.released_airClosed
  cases stage with
  | begun => exact released ▸ OutputDriver.released_airClosed
  | abandoned => exact early rfl
  | read => exact early (Part.afterStage_outputs _ (.inl rfl))
  | written => exact early (Part.afterStage_outputs _ (.inr (.inl rfl)))
  | marked => exact early (Part.afterStage_outputs _ (.inr (.inr rfl)))
  | safe => exact OutputDriver.safe_airClosed _
  | valued => exact OutputDriver.safe_airClosed _

/-- A start left unfinished at a stage keeps the law, if it is a restart or has driven no output (R186). -/
theorem Part.ShutSafe.unfinished (h : p.ShutSafe) (stage : StartStage)
    (begun : p.startUp.inProgress ≠ some .restart → p.outputs = OutputDriver.released) : (p.unfinished stage).ShutSafe := by
  unfold Part.unfinished
  split
  · next run progress =>
    have held : (p.afterStage run stage).running ≠ true := Part.not_acting (by simp [progress])
    cases run with
    | power x => exact Part.shutSafe_of_closed held (p.afterStage_power_closed x stage (begun (by simp [progress])))
    | restart =>
      by_cases late : stage = .safe ∨ stage = .valued
      · exact Part.shutSafe_of_closed held (Part.afterStage_safe_outputs .restart late ▸ OutputDriver.safe_airClosed _)
      · obtain ⟨shut, out5, out6, out7⟩ := p.afterStage_restart_air (not_or.1 late)
        rw [Part.shutSafe_iff_of_held held, shut]
        unfold OutputDriver.AirClosed
        rw [out5, out6, out7]
        exact h.1
  · exact h

/-- The governor's test of the SHUT condition at completion, with the outputs safe, gives the law (R49). -/
theorem Part.startShut_lawful (values : p.climate = ClimateGovernor.atStart) (closed : p.outputs.AirClosed) :
    p.startShut.airView.Lawful := by
  obtain ⟨opening, fan, plant⟩ := closed
  unfold Part.startShut
  split
  · refine ⟨fun _ => ?_, fun x opens => ?_, fun on => absurd on fan, fun on => absurd on plant⟩
    · simp [Part.airView, values, ClimateGovernor.atStart]
    · simpa [Part.airView, values, ClimateGovernor.atStart] using opening x opens
  · next unshut =>
    refine ⟨fun shut => absurd shut unshut, fun x opens => ?_, fun on => absurd on fan, fun on => absurd on plant⟩
    simpa [Part.airView, values, ClimateGovernor.atStart] using opening x opens

/-- Start completion gives the law: the outputs are safe, and the governor tests the SHUT condition (R49, R173). -/
theorem Part.completeStart_shutSafe (h : p.ShutSafe) : p.completeStart.ShutSafe := by
  unfold Part.completeStart
  split
  · next run progress =>
    have valued : (p.afterStage run .valued).climate = ClimateGovernor.atStart := rfl
    have safe := Part.afterStage_safe_outputs (p := p) run (.inr rfl)
    generalize p.afterStage run .valued = q at valued safe
    obtain ⟨_, _, climate, _, _, _, _, outputs, _⟩ := q.started_frame
    have closed : q.started.beginScan.requestSignals.handFireState.outputs.AirClosed := by
      have signals : q.started.beginScan.requestSignals.handFireState.outputs = q.started.requestSignals.outputs := by
        simp [Part.requestSignals, Part.requestOutput, Part.settings_eq, Part.now_eq]
      rw [signals]
      show q.started.outputs.AirClosed
      rw [outputs, safe]
      exact OutputDriver.safe_airClosed _
    have resting := Part.startShut_lawful (by simpa using climate.trans valued) closed
    exact ((Part.KeepsAir.refl _).startConfirmation.expireAtZero.law resting).shutSafe
  · exact h

/-! ## What an event may make of a part -/

/-- `q` is what an event may make of `p`: the law is kept, and where it has begun a power start, no output is driven
yet (R186). -/
structure Part.KeepsShut (p q : Part) : Prop where
  safe : p.ShutSafe → q.ShutSafe
  begun : q.starting = true → p.starting = false → q.startUp.inProgress ≠ some .restart →
    q.outputs = OutputDriver.released

theorem Part.KeepsAir.running (h : p.KeepsAir q) : q.running = p.running := by
  rw [Part.running_eq, Part.running_eq, h.startUp]

theorem Part.KeepsAir.keepsShut (h : p.KeepsAir q) (acts : p.running = true) : p.KeepsShut q where
  safe := fun safe => (h.law ((Part.shutSafe_iff acts).1 safe)).shutSafe
  begun := fun starts before => by
    rw [Part.starting_eq, h.startUp] at starts
    exact absurd starts (by simp [← Part.starting_eq, before])

theorem Part.KeepsShut.refl (p : Part) : p.KeepsShut p :=
  ⟨id, fun starts before => absurd starts (by simp [before])⟩

/-- A start begins (R181, R182). -/
theorem Part.KeepsShut.beginStart (h : p.ShutSafe → q.ShutSafe) (run : StartInProgress) : p.KeepsShut (q.beginStart run) := by
  have held : (q.beginStart run).running ≠ true := Part.not_acting (by simp)
  cases run with
  | power x => exact ⟨fun _ => Part.shutSafe_of_closed held OutputDriver.released_airClosed, fun _ _ _ => rfl⟩
  | restart => exact ⟨fun safe => (h safe).held held rfl rfl, fun _ _ other => absurd rfl other⟩

/-- A part that is held by the pin, or has no supply, with its outputs as they were or RELEASED (R181). -/
theorem Part.KeepsShut.unpowered (shut : q.shutCondition = p.shutCondition) (unpowered : q.powered = false)
    (outputs : q.outputs = p.outputs ∨ q.outputs = OutputDriver.released) : p.KeepsShut q where
  safe := fun safe => by
    have held : q.running ≠ true := by simp [Part.running, unpowered]
    rcases outputs with same | released
    · exact safe.held held shut same
    · exact Part.shutSafe_of_closed held (released ▸ OutputDriver.released_airClosed)
  begun := fun starts => absurd starts (by simp [Part.starting, unpowered])

/-! ## Events (R181, R182) -/

/-- The end of an event: a restart that is due begins (R182). -/
theorem Part.KeepsShut.settle (h : p.KeepsShut q) : p.KeepsShut q.settle := by
  unfold Part.settle
  split
  · exact .beginStart h.safe .restart
  · exact h

theorem Part.event_keepsShut {f : Part → Part} (h : p.running = true → p.KeepsShut (f p)) : p.KeepsShut (p.event f) := by
  unfold Part.event
  split
  · next acts => exact (h acts).settle
  · exact .refl p

theorem Part.KeepsAir.event {f : Part → Part} (h : p.KeepsAir (f p)) : p.KeepsShut (p.event f) :=
  Part.event_keepsShut h.keepsShut

/-- A timer whose block acts whether it is due or not. -/
theorem Part.KeepsAir.timed {due : Part → Bool} {f : Part → Part} (h : p.KeepsAir (f p)) : p.KeepsShut (p.timed due f) :=
  Part.KeepsAir.event (f := fun q => if due q then f q else q) (.ite h (.refl p))

/-! ## Supplies, the reset pin, the wires (R57, R180, R181) -/

theorem Part.mainRises_keepsShut (r : PowerReading) : p.KeepsShut (p.mainRises r) := by
  unfold Part.mainRises
  split
  · exact .refl p
  · split
    · next pin => exact .unpowered rfl (by simp [Part.powered, pin]) (.inl rfl)
    · exact .beginStart id _

theorem Part.mainFalls_keepsShut : p.KeepsShut p.mainFalls := by
  unfold Part.mainFalls
  split
  · exact .unpowered rfl rfl (.inr rfl)
  · exact .refl p

theorem Part.backupFalls_keepsShut : p.KeepsShut p.backupFalls := by
  unfold Part.backupFalls
  split
  · exact .refl p
  · next off => exact .unpowered rfl (by simp [Part.powered, off]) (.inl rfl)

theorem Part.resetAsserts_keepsShut : p.KeepsShut p.resetAsserts :=
  .unpowered rfl (by simp [Part.powered, Part.resetAsserts]) (.inr rfl)

theorem Part.resetReleases_keepsShut : p.KeepsShut p.resetReleases := by
  unfold Part.resetReleases
  split
  · split
    · split
      · exact .beginStart id _
      · exact .beginStart id _
    · next off => exact .unpowered rfl (by simp [Part.powered, off]) (.inl rfl)
  · exact .refl p

/-- The level of a wire is not in the law (R57, R64). -/
theorem Part.levelChange_keepsShut (i : InputId) (high : Bool) :
    p.KeepsShut (if p.running then p.event (fun p => p.takeLevelChange i high) else p.wireChanges i high) := by
  split
  · exact Part.KeepsAir.event (Part.KeepsAir.refl p).same
  · exact ⟨id, fun starts before => absurd (starts.symm.trans before) nofun⟩

/-! ## The machine after an event -/

/-- A step leaves the machine with the SHUT law kept. -/
def State.KeepsShut (s : State) (o : Host.Outcome State Fault Refusal) : Prop :=
  ∀ t, o = .next t → s.toPart.ShutSafe → t.toPart.ShutSafe

theorem Part.ShutSafe.afterBegin (h : p.ShutSafe) (waiting : List Instr)
    (begun : p.startUp.inProgress ≠ some .restart → p.outputs = OutputDriver.released) : (p.afterBegin waiting).ShutSafe := by
  have drawn : (p.withFreeDraws (p.freeDraws + 1)).ShutSafe := h
  unfold Part.afterBegin
  split
  · dsimp only
    split
    · exact drawn.unfinished _ begun
    · exact Part.completeStart_shutSafe drawn
  · exact Part.completeStart_shutSafe h

theorem Part.KeepsShut.become {s : State} (h : s.toPart.KeepsShut q) : s.KeepsShut (s.become q) := by
  rintro t ⟨⟩ safe
  dsimp only
  split
  · next starts =>
    simp only [Bool.and_eq_true, Bool.not_eq_true'] at starts
    exact (h.safe safe).afterBegin _ (h.begun starts.1 starts.2)
  · exact h.safe safe

theorem State.event_keepsShut (s : State) {f : Part → Part} (h : s.toPart.KeepsAir (f s.toPart)) :
    s.KeepsShut (s.become (s.toPart.event f)) := h.event.become

theorem State.timed_keepsShut (s : State) {due : Part → Bool} {f : Part → Part} (h : s.toPart.KeepsAir (f s.toPart)) :
    s.KeepsShut (s.become (s.toPart.timed due f)) := h.timed.become

theorem State.request_keepsShut (s : State) (src : Station) (role : Role) (r : Request) :
    s.KeepsShut (s.request src role r) :=
  s.event_keepsShut ((Part.KeepsAir.refl s.toPart).takeRequest src role r)

theorem exec_keepsShut (i : Instr) (s : State) : s.KeepsShut (exec i s) := by
  have keeps := Part.KeepsAir.refl s.toPart
  cases i with
  | scanStart => exact s.timed_keepsShut keeps.same
  | channelAnswer g pl t rh agrees => exact s.event_keepsShut (keeps.takeAnswer g pl t rh agrees)
  | answerWindowExpiry g pl => exact s.timed_keepsShut (keeps.windowCloses g pl)
  | groupStalenessExpiry g => exact s.timed_keepsShut keeps.same
  | burnCompletion => exact s.timed_keepsShut (keeps.others (by simp))
  | damperConfirmationExpiry => exact s.timed_keepsShut keeps.confirmationExpires
  | loopReading l reading => exact s.timed_keepsShut (keeps.takeLoopReading l reading.toNat)
  | inputLevelChange input high => exact (s.toPart.levelChange_keepsShut input high).become
  | inputHoldExpiry input => exact s.timed_keepsShut (keeps.acceptInput input)
  | localSecondAdvance => exact s.timed_keepsShut keeps.advanceSecond
  | countdownExpiry => exact s.timed_keepsShut keeps.discharge
  | releasePulseEnd => exact s.timed_keepsShut keeps.pulseEnds
  | confirmationEnd => exact s.timed_keepsShut (keeps.enterHold _)
  | holdExpiry => exact s.timed_keepsShut (keeps.changeFire _)
  | archiveMinuteRise => exact s.timed_keepsShut (keeps.others (by simp))
  | stepTimeoutExpiry => exact s.timed_keepsShut (keeps.hatch (.stepTimeoutExpires .refl))
  | unlockWindowExpiry l => exact s.timed_keepsShut (keeps.hatch (.windowExpires .refl l))
  | tallyEnd report => exact s.timed_keepsShut (keeps.hatch (.tallyCompletes .refl report))
  | purgeCompletion => exact s.timed_keepsShut (keeps.hatch (.completePurge .refl _))
  | frameReceived f => exact s.event_keepsShut (keeps.receiveFrame f)
  | frameTransmitStart => exact s.event_keepsShut (keeps.ite keeps.same)
  | contentionLost bit =>
    refine s.event_keepsShut ?_
    split
    · exact keeps.same
    · exact keeps
  | frameSent => exact s.event_keepsShut keeps.same
  | peerEntryExpiry x => exact s.timed_keepsShut (Part.KeepsAir.evaluated rfl)
  | neighbourWatchExpiry x => exact s.timed_keepsShut keeps.same
  | patternPhaseEnd g => exact s.timed_keepsShut (keeps.phaseEnds g)
  | backupSupplyFall => exact Part.backupFalls_keepsShut.become
  | mainPowerLoss => exact Part.mainFalls_keepsShut.become
  | powerStart record pins => exact (Part.mainRises_keepsShut _).become
  | resetPinAssert => exact Part.resetAsserts_keepsShut.become
  | resetPinRelease => exact Part.resetReleases_keepsShut.become
  | restartPendingExpiry =>
    refine Part.KeepsShut.become (Part.event_keepsShut fun _ => ?_)
    split
    · exact .beginStart id .restart
    · exact .refl _
  | _ => exact s.request_keepsShut _ _ _

/-! ## The step -/

theorem State.idle_shutSafe (s : State) (h : s.toPart.ShutSafe) : s.idle.toPart.ShutSafe := by
  unfold State.idle
  split
  · exact Part.completeStart_shutSafe h
  · split
    · split
      · exact h
      · exact h
    · exact h

/-- Settles O14: in an event the blocks touch what the law reads by evaluations alone (`Part.KeepsAir`), and a part in a
start, or held, drives no output that opens the air path while the SHUT condition holds. -/
theorem shutLawIsKept : Obligations.ShutLawIsKept := by
  intro s safe t taken
  unfold step at taken
  split at taken
  · cases taken
    exact s.idle_shutSafe safe
  · next c rest _ => exact exec_keepsShut c { s with pending := rest } t taken safe

end Sys2Proof.Machine
end

section
/-! PROOF. O13: the formulas of demand, grant and opening, and what an evaluation of the resolver makes of the part (R33,
R34, R36, R37, R40, R42, R44 to R48). -/

namespace Sys2Proof.Machine

/-! ## The formulas (R33, R37, R44) -/

theorem demandLaw_some (c : Settings) (m : Nat) :
    demandLaw c (some m) = if m ≤ c.setpoint + c.deadband then 0
      else min 255 (((m - (c.setpoint + c.deadband)) * c.gain + 8) / 16) := by
  simp only [demandLaw, maxDemand, Nat.sub_sub]

theorem grantLaw_enough {d peers cap : Nat} (enough : d + peers ≤ cap) : grantLaw false d peers cap = d := by
  simp only [grantLaw, Bool.false_eq_true, if_false, if_pos enough]
  split
  · omega
  · rfl

theorem grantLaw_short {d peers cap : Nat} (short : cap < d + peers) :
    grantLaw false d peers cap = d * cap / (d + peers) := by
  have some_demand : d + peers ≠ 0 := by omega
  simp only [grantLaw, Bool.false_eq_true, if_false, if_neg some_demand, if_neg (Nat.not_le.2 short)]

/-- The opening lies within half a percent of the grant's fraction of 255 (R44). -/
theorem driveOpening_near (grant : Nat) :
    grant * 200 ≤ 510 * driveOpening grant + 255 ∧ 510 * driveOpening grant < grant * 200 + 255 := by
  unfold driveOpening
  omega

/-! ## What an evaluation reads (R34, R36, R42) -/

theorem FireState.sealed_iff {st : FireState} : st.sealed = true ↔ st ≠ .quiet ∧ st ≠ .alert := by
  cases st <;> decide

theorem FireState.any_gasReleased_iff {st : Option FireState} : st.any FireState.gasReleased = true
    ↔ st = some .discharged ∨ st = some .hold ∨ st = some .spent := by
  rcases st with _ | st
  · simp
  · cases st <;> decide

variable (p : Part)

theorem Part.ductPeer_iff {e : PeerEntry} :
    p.ductPeer e = true ↔ e.role = .zone ∧ e.ductGroup = some p.startUp.settings.ductGroup := by
  simp [Part.ductPeer, Part.settings_eq]

theorem Part.countedDemand_none {e : PeerEntry} (unheard : e.demand = none) : p.countedDemand e = 0 := by
  simp [Part.countedDemand, unheard]

theorem Part.countedDemand_some {e : PeerEntry} {d : Nat} {heard : Time} (demand : e.demand = some (d, heard)) :
    p.countedDemand e =
      if (e.role = .zone ∧ e.ductGroup = some p.startUp.settings.ductGroup) ∧ p.clock.localTime < heard + 95000
      then d else 0 := by
  by_cases peer : p.ductPeer e = true
  · simp only [Part.countedDemand, if_pos peer, demand, p.ductPeer_iff.1 peer, true_and]
    rfl
  · rw [Part.countedDemand, if_neg peer, if_neg fun both => peer (p.ductPeer_iff.2 both.1)]

/-! ## What an evaluation makes of the governor (R40, R47, R48) -/

theorem Part.resolveAirPath_climate_eq :
    ∃ confirmation fault, p.resolveAirPath.climate =
      { p.climate with
        effective := p.effectiveDemand, grant := p.computedGrant, airPath := p.airPathChoice.airPath
        damper := p.airPathChoice.damper, fan := p.airPathChoice.fan, plant := p.airPathChoice.plant
        confirmation := confirmation, damperFault := fault } :=
  p.takeChoice_climate _ _ _

theorem Part.resolveAirPath_outputs_eq :
    p.resolveAirPath.outputs =
      { p.outputs with
        out5 := ⟨p.airPathChoice.damper, if outputFitted p.settings 5 then some p.airPathChoice.damper else none⟩
        out6 := p.outputs.out6.take (outputFitted p.settings 6) p.now (onOff p.airPathChoice.fan)
        out7 := p.outputs.out7.take (outputFitted p.settings 7) p.now (onOff p.airPathChoice.plant) } :=
  p.takeChoice_outputs _ _ _

/-- The first row of Table 3-3 that holds. -/
theorem resolve_rows (shut purge park : Bool) (grant opening : Nat) :
    (shut = true → resolve shut purge grant park opening = ⟨.shut, 0, false, false⟩)
    ∧ (shut = false → purge = true → resolve shut purge grant park opening = ⟨.purge, 100, true, true⟩)
    ∧ (shut = false → purge = false → 0 < grant →
        resolve shut purge grant park opening = ⟨.drive, driveOpening grant, false, true⟩)
    ∧ (shut = false → purge = false → grant = 0 → park = true →
        resolve shut purge grant park opening = ⟨.park, opening, false, false⟩)
    ∧ (shut = false → purge = false → grant = 0 → park = false →
        resolve shut purge grant park opening = ⟨.closed, 0, false, false⟩) := by
  refine ⟨resolve_shut, ?_, ?_, ?_, ?_⟩ <;> simp +contextual [resolve]

/-- Damper supervision hears of an evaluation as of a change of the command from the one before it (R47, R48). -/
theorem Part.resolveAirPath_supervised :
    (p.climate.damper = p.airPathChoice.damper →
      p.resolveAirPath.climate.confirmation = p.climate.confirmation
        ∧ p.resolveAirPath.climate.damperFault = p.climate.damperFault)
    ∧ (p.climate.damper ≠ 0 → p.airPathChoice.damper = 0 → p.active .in5 = true →
      p.resolveAirPath.climate.confirmation = none ∧ p.resolveAirPath.climate.damperFault = false)
    ∧ (p.climate.damper ≠ 0 → p.airPathChoice.damper = 0 → p.active .in5 = false →
      p.resolveAirPath.climate.damperFault = p.climate.damperFault
        ∧ p.resolveAirPath.climate.confirmation =
          if outputFitted p.settings 5 = true ∧ p.climate.confirmation = none then some (p.now + confirmationTime)
          else p.climate.confirmation)
    ∧ (p.climate.damper = 0 → p.airPathChoice.damper ≠ 0 →
      p.resolveAirPath.climate.confirmation = none ∧ p.resolveAirPath.climate.damperFault = p.climate.damperFault)
    ∧ (p.climate.damper ≠ 0 → p.airPathChoice.damper ≠ 0 →
      p.resolveAirPath.climate.confirmation = p.climate.confirmation
        ∧ p.resolveAirPath.climate.damperFault = p.climate.damperFault) := by
  have inputs : (p.chosen p.effectiveDemand p.computedGrant p.airPathChoice).active .in5 = p.active .in5 := by
    simp [Part.chosen, Part.active]
  have settings : (p.chosen p.effectiveDemand p.computedGrant p.airPathChoice).settings = p.settings := by
    simp [Part.chosen, Part.settings_eq]
  have now : (p.chosen p.effectiveDemand p.computedGrant p.airPathChoice).now = p.now := by
    simp [Part.chosen, Part.now_eq]
  unfold Part.resolveAirPath
  rw [Part.takeChoice_eq, Part.superviseCommand_climate, Part.chosen_climate, inputs, settings, now]
  refine ⟨fun same => ?_, fun opened closes seen => ?_, fun opened closes unseen => ?_, fun closed opens => ?_,
    fun opened opens => ?_⟩
  · simp [same]
  · simp [opened, closes, seen]
  · rw [if_neg (by rwa [closes]), if_pos closes, unseen, if_neg Bool.false_ne_true]
    simp only [Bool.and_eq_true, Option.isNone_iff_eq_none]
    split
    · exact ⟨rfl, rfl⟩
    · exact ⟨rfl, rfl⟩
  · simp [closed, opens, Ne.symm opens]
  · simp [opened, opens]

/-- An evaluation touches nothing but the governor, the outputs and the bus port. -/
theorem Part.resolveAirPath_only :
    p.resolveAirPath = { p with
      climate := p.resolveAirPath.climate, outputs := p.resolveAirPath.outputs, bus := p.resolveAirPath.bus } := by
  have frame := p.resolveAirPath_frame
  generalize p.resolveAirPath = q at frame
  cases q
  simp_all

/-- Settles O13: the formulas by their branches; the evaluation by what it reads, the row of Table 3-3 it chooses, and
what damper supervision makes of the change of the command. -/
theorem demandGrantAndOpening : Obligations.DemandGrantAndOpening := by
  refine ⟨fun c => ⟨rfl, fun m => ?_⟩, fun d peers cap => ⟨rfl, grantLaw_le false d peers cap, grantLaw_enough, grantLaw_short⟩,
    fun grant le => ⟨driveOpening_le le, driveOpening_near grant⟩, fun p => ?_⟩
  · rw [demandLaw_some]
    exact ⟨fun low => if_pos low, fun high => if_neg (Nat.not_le.2 high)⟩
  · intro peer counted cfg shut purge effective grant q chosen
    have shutIff : p.shutCondition = true ↔ shut := by
      simp only [Part.shutCondition_iff, FireState.sealed_iff, Part.ductPeer_iff, FireState.any_gasReleased_iff]
      rfl
    have effectiveEq : p.effectiveDemand = effective := by
      unfold Part.effectiveDemand effective
      by_cases s : shut
      · rw [if_pos s, if_pos (shutIff.2 s)]
      · rw [if_neg s, if_neg (mt shutIff.1 s)]
        rfl
    have grantEq : p.computedGrant = grant := by
      have demands : p.countedDemand = counted := by
        funext e
        unfold counted
        cases demand : e.demand with
        | none => exact p.countedDemand_none demand
        | some heard => exact p.countedDemand_some demand
      unfold Part.computedGrant Part.peerDemands grant
      rw [effectiveEq, demands]
      rfl
    have unshut (open_ : ¬ shut) : p.shutCondition = false := Bool.not_eq_true _ ▸ mt shutIff.1 open_
    have unpurged (free : ¬ purge) : p.hatch.purgeRequest = false := Bool.not_eq_true _ ▸ free
    have unseen (open_ : ¬ p.inputs.in5.accepted = some true) : p.active .in5 = false := by
      simpa [Part.active, PerInput.get] using open_
    obtain ⟨confirmation, fault, climate⟩ := p.resolveAirPath_climate_eq
    have outputs := p.resolveAirPath_outputs_eq
    have row {c : AirPathChoice} (made : p.airPathChoice = c) : chosen c.airPath c.damper c.fan c.plant := by
      unfold chosen q
      rw [climate, made]
      exact ⟨rfl, rfl, rfl, rfl⟩
    obtain ⟨shutRow, purgeRow, driveRow, parkRow, closedRow⟩ :=
      resolve_rows p.shutCondition p.hatch.purgeRequest cfg.parkEnable p.computedGrant cfg.parkOpening
    have damper : q.climate.damper = p.airPathChoice.damper := by unfold q; rw [climate]
    have supervised := p.resolveAirPath_supervised
    rw [← damper] at supervised
    obtain ⟨same, seen, confirms, opens, stays⟩ := supervised
    refine ⟨shutIff, ?_, ?_, fun s => row (shutRow (shutIff.2 s)), fun o pu => row (purgeRow (unshut o) pu),
      fun o f some_grant => grantEq ▸ row (driveRow (unshut o) (unpurged f) (grantEq ▸ some_grant)),
      fun o f no_grant park => row (parkRow (unshut o) (unpurged f) (grantEq.trans no_grant) park),
      fun o f no_grant park => row (closedRow (unshut o) (unpurged f) (grantEq.trans no_grant) park), ?_, ?_, ?_,
      p.resolveAirPath_demand, ?_,
      ⟨same, fun opened closes seen5 => seen opened closes ?_, fun opened closes open5 => ?_, opens, stays⟩, ?_,
      p.resolveAirPath_bus, p.resolveAirPath_only⟩
    · unfold q; rw [climate]; exact effectiveEq
    · unfold q; rw [climate]; exact grantEq
    · unfold q; rw [outputs, climate]
    · unfold q; rw [outputs, climate]; rfl
    · unfold q; rw [outputs, climate]; rfl
    · unfold q; rw [climate]
    · simp [Part.active, PerInput.get, seen5]
    · exact confirms opened closes (unseen open5)
    · unfold q; rw [outputs]

end Sys2Proof.Machine
end

section
/-! PROOF. O47: a purge that completes by its own command (R134, R135, log 34). -/

namespace Sys2Proof.Machine

/-- The frames that an evaluation leaves of a governor that stands as it was: none. -/
theorem BusPort.evaluated_same (b : BusPort) {p q : Part} (climate : q.climate = p.climate) : b.evaluated p q = b := by
  simp [BusPort.evaluated, climate]

variable (p : Part)

/-- The part when its purge completes, its request ended with the evaluation, in INNER_RELEASE, before the unlock; its
exceptions are `x` (R134, R135). -/
def Part.purgeEnded (x : ExceptionStore) : Part := ((p.withExceptions x).endPurge).setHatchState .innerRelease

/-- The exceptions of a purge that completes (R134). -/
def Part.purgeExceptions (timedOut : Bool) : ExceptionStore :=
  if timedOut then p.exceptions.raise p.settings.capture ⟨.purgeTimeout, p.minute, .batch (p.hatch.batch.getD 0)⟩
  else p.exceptions

theorem Part.completePurge_eq (timedOut : Bool) :
    p.completePurge timedOut
      = (p.purgeEnded (p.purgeExceptions timedOut)).unlockWithNotice .inner .innerUnlocked p.hatch.participants := by
  cases timedOut <;> rfl

section
variable (x : ExceptionStore)

@[simp] theorem Part.purgeEnded_frame :
    (p.purgeEnded x).moisture = p.moisture ∧ (p.purgeEnded x).substitution = p.substitution ∧
    (p.purgeEnded x).loops = p.loops ∧ (p.purgeEnded x).inputs = p.inputs ∧ (p.purgeEnded x).fire = p.fire ∧
    (p.purgeEnded x).custody = p.custody ∧ (p.purgeEnded x).exceptions = x ∧ (p.purgeEnded x).peers = p.peers ∧
    (p.purgeEnded x).clock = p.clock ∧ (p.purgeEnded x).occupancy = p.occupancy ∧
    (p.purgeEnded x).startUp = p.startUp ∧ (p.purgeEnded x).freeDraws = p.freeDraws := by
  simp [Part.purgeEnded]

theorem Part.purgeEnded_hatch :
    (p.purgeEnded x).hatch
      = { p.hatch with purgeRequest := false, state := .innerRelease, backupState := .innerRelease } := by
  unfold Part.purgeEnded Part.endPurge Part.setHatchState
  split
  · simp
  · next free =>
    have none : p.hatch.purgeRequest = false := Bool.not_eq_true _ ▸ free
    simp [none]

theorem Part.purgeEnded_idle (free : p.hatch.purgeRequest = false) :
    (p.purgeEnded x).climate = p.climate ∧ (p.purgeEnded x).outputs = p.outputs ∧ (p.purgeEnded x).bus = p.bus := by
  simp [Part.purgeEnded, Part.endPurge, free]

theorem Part.purgeEnded_requested (request : p.hatch.purgeRequest = true) :
    p.purgeEnded x = (p.withExceptions x).purgeReleased := by
  simp [Part.purgeEnded, Part.endPurge, request, Part.purgeReleased]

/-- The air path after a request that has ended: not PURGE, and as an evaluation without the request gives it (R40). -/
theorem Part.purgeEnded_climate (request : p.hatch.purgeRequest = true) {h : HatchContext} (ended : h.purgeRequest = false) :
    (p.purgeEnded x).climate = (p.withHatch h).resolveAirPath.climate := by
  rw [p.purgeEnded_requested x request, Part.purgeReleased_climate]
  exact Part.SameForAirPath.resolve_climate ⟨rfl, rfl, rfl, rfl, rfl, rfl, rfl, ended.symm⟩

/-- The bus port has the frames of the evaluation, where there is one (R35, R48). -/
theorem Part.purgeEnded_bus : (p.purgeEnded x).bus = p.bus.evaluated p (p.purgeEnded x) := by
  cases request : p.hatch.purgeRequest with
  | false =>
    obtain ⟨climate, _, bus⟩ := p.purgeEnded_idle x request
    rw [bus, BusPort.evaluated_same _ climate]
  | true =>
    rw [p.purgeEnded_requested x request, Part.purgeReleased_bus]
    exact BusPort.evaluated_congr _ rfl rfl rfl rfl rfl

end

theorem Part.resolveAirPath_unpurged (ended : p.hatch.purgeRequest = false) : p.resolveAirPath.climate.airPath ≠ .purge := by
  rw [Part.resolveAirPath_airPath, Ne, Part.airPathChoice_purge_iff]
  simp [ended]

theorem exec_purgeCompletion (s : State) :
    exec .purgeCompletion s = s.become (s.toPart.timed Part.purgeReached Part.purgeEnds) := rfl

variable {p}

theorem Part.completePurge_holdsReply (timedOut : Bool) (h : p.bus.holdsReply 6) :
    (p.completePurge timedOut).bus.holdsReply 8 := by
  rw [Part.completePurge_eq]
  refine Part.unlockWithNotice_holdsReply _ ?_ _ _ _
  rw [Part.purgeEnded_bus]
  exact (h.mono (by decide)).evaluated _ _

/-- What an unlock, with its notices or withheld, leaves of the hatch (R114, R122). -/
theorem Part.unlockWithNotice_hatch_only (p : Part) (l : Leaf) (t : NoticeType) (xs : List Station) :
    (p.unlockWithNotice l t xs).hatch = { p.hatch with
      locks := (p.unlockWithNotice l t xs).hatch.locks, windows := (p.unlockWithNotice l t xs).hatch.windows } := by
  cases free : p.canUnlock l with
  | false => rw [Part.unlockWithNotice_withheld t xs free]
  | true => rw [Part.unlockWithNotice_hatch t xs free]

/-- A part that touches nothing but these blocks. -/
theorem Part.purgeEnds_only (p : Part) :
    p.purgeEnds = { p with
      hatch := p.purgeEnds.hatch, climate := p.purgeEnds.climate, exceptions := p.purgeEnds.exceptions
      outputs := p.purgeEnds.outputs, bus := p.purgeEnds.bus } := by
  have frame := p.purgeEnds_frame
  generalize p.purgeEnds = q at frame
  cases q
  simp_all

theorem Part.purgeEnds_eq (p : Part) :
    p.purgeEnds = (p.purgeEnded (p.purgeExceptions (decide (p.hatch.toleranceRun < 3)))).unlockWithNotice .inner
      .innerUnlocked p.hatch.participants := p.completePurge_eq _

/-- The unlock at the end of a purge, where R114 and R141 allow it, with its notices (R135). -/
theorem Part.purgeEnded_unlocks {p : Part} (x : ExceptionStore) (unsealed : p.fire.state.sealed = false)
    (outer : p.hatch.locks.outer = false) (start : p.hatch.startTally = .no) (xs : List Station) {t : Part}
    (made : t = (p.purgeEnded x).unlockWithNotice .inner .innerUnlocked xs) :
    t.hatch.locks = ⟨true, false⟩ ∧ t.hatch.windows.inner = some (p.clock.localTime + 30000)
      ∧ t.outputs.out0.request = .drivenOn
      ∧ t.bus = (p.bus.evaluated p t).notified xs .innerUnlocked (p.hatch.direction.getD .out) (p.hatch.batch.getD 0)
        .innerRelease none := by
  have free : (p.purgeEnded x).canUnlock .inner = true := by
    simp [Part.canUnlock, Part.purgeEnded_hatch, otherLeaf, PerLeaf.get, unsealed, outer, start]
  have hatch := Part.unlockWithNotice_hatch .innerUnlocked xs free
  have outputs := Part.unlockWithNotice_outputs .innerUnlocked xs free
  have bus := Part.unlockWithNotice_bus .innerUnlocked xs free
  have shown : p.bus.evaluated p (p.purgeEnded x) = p.bus.evaluated p t :=
    BusPort.evaluated_congr _ rfl (by simp [made]) (by simp [made]) (by simp [made]) (by simp [made])
  rw [← made, Part.purgeEnded_hatch] at hatch bus
  rw [← made] at outputs
  refine ⟨?_, ?_, ?_, ?_⟩
  · rw [hatch]
    simp [PerLeaf.set, outer]
  · have clock : (p.purgeEnded x).clock = p.clock := by simp
    rw [hatch, Part.now_eq, clock]
    rfl
  · rw [outputs]
    rfl
  · rw [bus, Part.purgeEnded_bus, shown]

/-- Settles O47: the evaluation at the end of the request, then the unlock, which is withheld where R114 or R141 asks it. -/
theorem purgeCompletionReleases : Obligations.PurgeCompletionReleases := by
  intro s ready purging reached h
  have due : s.toPart.purgeReached = true := Part.purgeReached_iff.2 ⟨purging, reached⟩
  have taken : exec .purgeCompletion s = .next { s with toPart := s.toPart.purgeEnds } := by
    rw [exec_purgeCompletion, ready.become_timed due (by simp) (Part.completePurge_holdsReply _)]
  have only := s.toPart.purgeEnds_only
  have made := s.toPart.purgeEnds_eq
  generalize s.toPart.purgeEnds = t at taken only made
  have context := Part.unlockWithNotice_hatch_only (s.toPart.purgeEnded
    (s.toPart.purgeExceptions (decide (s.toPart.hatch.toleranceRun < 3)))) .inner .innerUnlocked s.hatch.participants
  rw [← made, Part.purgeEnded_hatch] at context
  have raised : t.exceptions = s.toPart.purgeExceptions (decide (h.toleranceRun < 3)) := by simp [made]; rfl
  have climate : t.climate = (s.toPart.purgeEnded t.exceptions).climate := by rw [raised, made]; simp; rfl
  have ended : t.hatch.purgeRequest = false := by rw [context]
  refine ⟨_, taken, by rw [context], ended, by rw [context], by rw [context], by rw [context], fun full => ?_,
    fun short b batch => ?_, fun request => ?_, fun free => ?_, fun unsealed outer start => ?_, ?_⟩
  · rw [raised, decide_eq_false (Nat.not_lt.2 full)]
    rfl
  · rw [raised, decide_eq_true short]
    simp only [Part.purgeExceptions, if_true]
    rw [show s.hatch.batch = some b from batch]
    rfl
  · have evaluated := climate.trans (s.toPart.purgeEnded_climate _ request ended)
    exact ⟨evaluated ▸ Part.resolveAirPath_unpurged _ ended, evaluated⟩
  · exact climate.trans (s.toPart.purgeEnded_idle _ free).1
  · obtain ⟨locks, window, lock, bus⟩ := Part.purgeEnded_unlocks _ unsealed outer start _ made
    refine ⟨locks, window, lock, fun b batch d direction => bus.trans ?_⟩
    rw [show s.hatch.batch = some b from batch, show s.hatch.direction = some d from direction]
    rfl
  · exact congrArg (fun q => ({ s with toPart := q } : State)) only

end Sys2Proof.Machine
end

section
/-! PROOF. The marked reply of a pending restart through events that hand several FIRE_STATE frames: the first takes the
room there is, or is pending already, and every later one takes its place (R84, R161, R162, R182). -/

namespace Sys2Proof.Machine

/-! ## A queue that no further FIRE_STATE displaces the reply from -/

/-- A marked DONE reply is in the queue. -/
def BusPort.showsReply (b : BusPort) : Prop := ∃ f ∈ b.queue, f.restartReply = true

/-- A marked DONE reply is in the queue and no FIRE_STATE displaces it: it is on the line, the part is listen-only, or a
pending FIRE_STATE takes the content of the next. -/
def BusPort.shieldsReply (b : BusPort) : Prop :=
  ∃ f ∈ b.queue, f.restartReply = true
    ∧ (f.onLine = true ∨ b.station = none ∨ ∃ x ∈ b.queue, x.pendingOf .fireState = true)

/-- The reply is shielded, or the queue has room for one frame beside it. -/
def BusPort.coversReply (b : BusPort) : Prop := b.holdsReply 7 ∨ b.shieldsReply

theorem placeFrame_of_pending {f : TxFrame} {q : List TxFrame} {k : CoalescedKind}
    (kind : f.body.coalescedKind = some k) (pending : q.any (TxFrame.pendingOf k) = true) :
    placeFrame f q = changeFirst (TxFrame.pendingOf k) (fun x => { x with body := f.body }) q := by
  simp [placeFrame, kind, pending]

theorem BusPort.holdsReply.showsReply {n : Nat} {b : BusPort} (h : b.holdsReply n) : b.showsReply := by
  obtain ⟨f, mem, mark, _⟩ := h
  exact ⟨f, mem, mark⟩

theorem BusPort.shieldsReply.showsReply {b : BusPort} (h : b.shieldsReply) : b.showsReply := by
  obtain ⟨f, mem, mark, _⟩ := h
  exact ⟨f, mem, mark⟩

theorem BusPort.coversReply.showsReply {b : BusPort} (h : b.coversReply) : b.showsReply :=
  h.elim BusPort.holdsReply.showsReply BusPort.shieldsReply.showsReply

/-- Content that takes the place of a pending frame of its kind leaves a marked frame, on the line or not. -/
theorem mark_changeFirst {k : CoalescedKind} {g : TxFrame} {q : List TxFrame} (body : Body) (mem : g ∈ q)
    (mark : g.restartReply = true) :
    ∃ y ∈ changeFirst (TxFrame.pendingOf k) (fun x => { x with body := body }) q,
      y.restartReply = true ∧ y.onLine = g.onLine := by
  rcases changeFirst_keeps (q := TxFrame.pendingOf k) (f := fun x => { x with body := body }) mem with here | ⟨_, changed⟩
  · exact ⟨g, here, mark, rfl⟩
  · exact ⟨_, changed, mark, rfl⟩

/-- A pending FIRE_STATE stays pending through a frame that is FIRE_STATE itself or not of class FIRE. -/
theorem placeFrame_keeps_fireState {f x : TxFrame} {q : List TxFrame} (mem : x ∈ q)
    (pending : x.pendingOf .fireState = true) (quiet : f.cls ≠ .fire ∨ f.body.coalescedKind = some .fireState) :
    ∃ y ∈ placeFrame f q, y.pendingOf .fireState = true := by
  have any : q.any (TxFrame.pendingOf .fireState) = true := List.any_eq_true.2 ⟨x, mem, pending⟩
  have entered (cls : f.cls ≠ .fire) : ∃ y ∈ enterQueue f q, y.pendingOf .fireState = true := by
    unfold enterQueue
    rw [if_neg cls]
    split
    · exact ⟨x, (insertByClass_perm f q).mem_iff.2 (List.mem_cons_of_mem _ mem), pending⟩
    · exact ⟨x, mem, pending⟩
  cases kind : f.body.coalescedKind with
  | none =>
    have cls : f.cls ≠ .fire := quiet.resolve_right (by simp [kind])
    simpa [placeFrame, kind] using entered cls
  | some k =>
    cases shown : q.any (TxFrame.pendingOf k) with
    | true =>
      rw [placeFrame_of_pending kind shown]
      rcases changeFirst_keeps (q := TxFrame.pendingOf k) (f := fun y => { y with body := f.body }) mem with here | ⟨same, changed⟩
      · exact ⟨x, here, pending⟩
      · refine ⟨_, changed, ?_⟩
        simp only [TxFrame.pendingOf, Bool.and_eq_true, beq_iff_eq] at pending same ⊢
        exact ⟨pending.1, kind.trans (same.2.symm.trans pending.2)⟩
    | false =>
      have cls : f.cls ≠ .fire := quiet.resolve_right fun fire => by
        rw [Option.some.inj (kind.symm.trans fire), any] at shown
        cases shown
      simpa [placeFrame, kind, shown] using entered cls

/-- A FIRE_STATE in a queue with room, or with one pending, is pending there. -/
theorem placeFrame_fireState_pending {f : TxFrame} {q : List TxFrame} (kind : f.body.coalescedKind = some .fireState)
    (waits : f.onLine = false) (room : q.length < queueCapacity) :
    ∃ y ∈ placeFrame f q, y.pendingOf .fireState = true := by
  cases shown : q.any (TxFrame.pendingOf .fireState) with
  | true =>
    obtain ⟨x, mem, pending⟩ := List.any_eq_true.1 shown
    exact placeFrame_keeps_fireState mem pending (.inr kind)
  | false =>
    refine ⟨f, ?_, by simp [TxFrame.pendingOf, kind, waits]⟩
    simpa [placeFrame, kind, shown, enterQueue, room] using (insertByClass_perm f q).mem_iff.2 List.mem_cons_self

theorem BusPort.handed_of_listenOnly {b : BusPort} (none : b.station = none) (f : TxFrame) : b.handed f = b := if_pos none

theorem BusPort.handed_eq {b : BusPort} (own : b.station ≠ none) (f : TxFrame) :
    b.handed f = { b with queue := placeFrame f b.queue } := if_neg own

/-- A shielded reply stays so through frames that are FIRE_STATE or not of class FIRE. -/
theorem BusPort.shieldsReply.handed {b : BusPort} (h : b.shieldsReply) {f : TxFrame}
    (quiet : f.cls ≠ .fire ∨ f.body.coalescedKind = some .fireState) : (b.handed f).shieldsReply := by
  by_cases own : b.station = none
  · rwa [BusPort.handed_of_listenOnly own]
  · rw [BusPort.handed_eq own]
    obtain ⟨g, mem, mark, line | none | ⟨x, here, pending⟩⟩ := h
    · obtain ⟨y, there, mark, same⟩ := placeFrame_keeps (f := f) mem mark (.inl line)
      exact ⟨y, there, mark, .inl (same.trans line)⟩
    · exact absurd none own
    · have stays := placeFrame_keeps_fireState here pending quiet
      rcases quiet with cls | kind
      · obtain ⟨y, there, mark, _⟩ := placeFrame_keeps (f := f) mem mark (.inr (.inr cls))
        exact ⟨y, there, mark, .inr (.inr stays)⟩
      · have placed := placeFrame_of_pending kind (List.any_eq_true.2 ⟨x, here, pending⟩)
        obtain ⟨y, there, mark, _⟩ := mark_changeFirst (k := .fireState) f.body mem mark
        exact ⟨y, placed ▸ there, mark, .inr (.inr stays)⟩

/-- The first FIRE_STATE of an event shields the reply. -/
theorem BusPort.coversReply.handed_fireState {b : BusPort} (h : b.coversReply) {f : TxFrame}
    (kind : f.body.coalescedKind = some .fireState) (waits : f.onLine = false) : (b.handed f).shieldsReply := by
  rcases h with ⟨g, mem, mark, line | room⟩ | shielded
  · exact BusPort.shieldsReply.handed ⟨g, mem, mark, .inl line⟩ (.inr kind)
  · by_cases own : b.station = none
    · rw [BusPort.handed_of_listenOnly own]
      exact ⟨g, mem, mark, .inr (.inl own)⟩
    · rw [BusPort.handed_eq own]
      have short : b.queue.length < queueCapacity := by unfold queueCapacity; omega
      obtain ⟨y, there, mark, _⟩ := placeFrame_keeps (f := f) mem mark (.inr (.inl short))
      exact ⟨y, there, mark, .inr (.inr (placeFrame_fireState_pending kind waits short))⟩
  · exact shielded.handed (.inr kind)

/-- Content of a kind that is pending takes no room. -/
theorem BusPort.holdsReply.handed_inPlace {b : BusPort} {n : Nat} (h : b.holdsReply n) {f : TxFrame} {k : CoalescedKind}
    (kind : f.body.coalescedKind = some k) (pending : b.queue.any (TxFrame.pendingOf k) = true) :
    (b.handed f).holdsReply n := by
  by_cases own : b.station = none
  · rwa [BusPort.handed_of_listenOnly own]
  · rw [BusPort.handed_eq own, placeFrame_of_pending kind pending]
    obtain ⟨g, mem, mark, room⟩ := h
    obtain ⟨y, there, mark, line⟩ := mark_changeFirst (k := k) f.body mem mark
    exact ⟨y, there, mark, room.imp line.trans fun short => by simpa using short⟩

theorem BusPort.showsReply.handed_notFire {b : BusPort} (h : b.showsReply) {f : TxFrame} (cls : f.cls ≠ .fire) :
    (b.handed f).showsReply := by
  obtain ⟨g, mem, mark⟩ := h
  by_cases own : b.station = none
  · rw [BusPort.handed_of_listenOnly own]
    exact ⟨g, mem, mark⟩
  · rw [BusPort.handed_eq own]
    obtain ⟨y, there, mark, _⟩ := placeFrame_keeps (f := f) mem mark (.inr (.inr cls))
    exact ⟨y, there, mark⟩

theorem BusPort.showsReply.notified {b : BusPort} (h : b.showsReply) (stations : List Station) (t : NoticeType)
    (d : Direction) (n : Nat) (st : HatchState) (c : Option Cause) : (b.notified stations t d n st c).showsReply := by
  unfold BusPort.notified
  induction stations generalizing b with
  | nil => exact h
  | cons x xs ih => exact ih (h.handed_notFire nofun)

/-! ## Evaluations (R35, R48) -/

/-- Of the two frames of an evaluation only FIRE_STATE takes room: CLIMATE takes the place of a pending one (R35). -/
theorem BusPort.evaluated_cases {motive : BusPort → Prop} {b : BusPort} (p q : Part)
    (fault : motive (b.faultShown p.climate.damperFault q))
    (climate : ∀ {x : BusPort} {f : TxFrame}, motive x → f.cls ≠ .fire → f.body.coalescedKind = some .climate →
      x.queue.any (TxFrame.pendingOf .climate) = true → motive (x.handed f)) : motive (b.evaluated p q) := by
  rw [BusPort.evaluated_eq]
  split
  · exact fault
  · next changed =>
    have pending := Bool.not_eq_false _ ▸ (not_or.1 changed).2
    exact climate fault nofun rfl pending

theorem BusPort.holdsReply.evaluated_succ {b : BusPort} {n : Nat} (h : b.holdsReply n) (room : n < 8) (p q : Part) :
    (b.evaluated p q).holdsReply (n + 1) :=
  BusPort.evaluated_cases p q (h.faultShown room _ _) fun holds _ kind pending => holds.handed_inPlace kind pending

theorem BusPort.shieldsReply.evaluated {b : BusPort} (h : b.shieldsReply) (p q : Part) : (b.evaluated p q).shieldsReply := by
  refine BusPort.evaluated_cases p q ?_ fun shields cls _ _ => shields.handed (.inl cls)
  unfold BusPort.faultShown
  split
  · exact h
  · exact h.handed (.inr rfl)

theorem BusPort.coversReply.evaluated {b : BusPort} (h : b.coversReply) (p q : Part) : (b.evaluated p q).coversReply := by
  refine BusPort.evaluated_cases p q ?_ fun covers cls kind pending =>
    covers.imp (·.handed_inPlace kind pending) (·.handed (.inl cls))
  unfold BusPort.faultShown
  split
  · exact h
  · exact .inr (h.handed_fireState rfl rfl)

variable {p q : Part}

theorem Part.evaluate_covers (h : p.bus.coversReply) : p.evaluate.bus.coversReply := by
  rw [Part.evaluate_bus]
  exact h.evaluated _ _

/-! ## What the hatch controller and the fire sequencer hand -/

theorem Part.HatchActs.shieldsReply (h : p.HatchActs q) (shields : p.bus.shieldsReply) : q.bus.shieldsReply := by
  induction h with
  | refl => exact shields
  | requestLock _ l r ih => simpa using ih
  | evaluate _ ih =>
    rw [Part.evaluate_bus]
    exact ih.evaluated _ _
  | handFrame _ f cls ih =>
    rw [Part.handFrame_bus]
    exact ih.handed (.inl cls)
  | _ _ _ ih => exact ih

theorem Part.handFireState_shields (h : p.bus.coversReply) : p.handFireState.bus.shieldsReply := by
  rw [Part.handFireState_bus]
  exact h.handed_fireState rfl rfl

/-- A change of the fire state hands FIRE_STATE first, so the frames after it leave the reply (R66, log 10). -/
theorem Part.changeFire_covers (h : p.bus.coversReply) (f : FireSequencer) : (p.changeFire f).bus.coversReply := by
  refine .inr ((((Part.HatchActs.refl (p := Part.handFireState _)).evaluate).hatchTakesFire _).shieldsReply
    (Part.handFireState_shields ?_))
  simpa using h

theorem Part.ite_covers {c : Prop} [Decidable c] (yes : p.bus.coversReply) (no : q.bus.coversReply) :
    (if c then p else q).bus.coversReply := by
  split
  · exact yes
  · exact no

theorem Part.updateFire_covers (h : p.bus.coversReply) (f : FireSequencer) : (p.updateFire f).bus.coversReply :=
  .inr (Part.handFireState_shields (p := p.withFire f) h)

theorem Part.requestOutput_covers (h : p.bus.coversReply) (o : OutputId) (r : OutputRequest) :
    (p.requestOutput o r).bus.coversReply := by
  simpa using h

theorem Part.discharge_covers (h : p.bus.coversReply) : p.discharge.bus.coversReply :=
  Part.requestOutput_covers (Part.changeFire_covers h _) _ _

theorem Part.expireAtZero_covers (h : p.bus.coversReply) : p.expireAtZero.bus.coversReply :=
  Part.ite_covers (Part.discharge_covers h) h

theorem Part.enterPreDischarge_covers (h : p.bus.coversReply) (n : Nat) (alarm : Option AlarmRecord) :
    (p.enterPreDischarge n alarm).bus.coversReply := Part.expireAtZero_covers (Part.changeFire_covers h _)

theorem Part.confirmFire_covers (h : p.bus.coversReply) : p.confirmFire.bus.coversReply :=
  Part.enterPreDischarge_covers h _ _

theorem Part.enterHold_covers (h : p.bus.coversReply) (unconfirmed : Bool) : (p.enterHold unconfirmed).bus.coversReply :=
  Part.changeFire_covers (Part.requestOutput_covers h _ _) _

theorem Part.manualRelease_covers (h : p.bus.coversReply) : p.manualRelease.bus.coversReply := by
  unfold Part.manualRelease
  dsimp only
  split
  · exact Part.enterPreDischarge_covers h _ _
  · exact Part.enterPreDischarge_covers h _ _
  · exact Part.ite_covers h (Part.expireAtZero_covers (Part.updateFire_covers h _))
  all_goals exact h

theorem Part.takeAbort_covers (h : p.bus.coversReply) (active : Bool) : (p.takeAbort active).bus.coversReply :=
  Part.ite_covers (Part.ite_covers (Part.ite_covers h (Part.updateFire_covers h _))
    (Part.ite_covers (Part.updateFire_covers h _) h)) h

theorem Part.setCylinderLow_covers (h : p.bus.coversReply) (low : Bool) : (p.setCylinderLow low).bus.coversReply :=
  Part.ite_covers h (Part.updateFire_covers h _)

theorem Part.takePressure_covers (h : p.bus.coversReply) (normal : Bool) : (p.takePressure normal).bus.coversReply := by
  refine Part.ite_covers (Part.setCylinderLow_covers h _) ?_
  split
  · exact Part.setCylinderLow_covers h _
  · exact Part.setCylinderLow_covers h _
  · exact Part.ite_covers (Part.enterHold_covers (p := p.withFire { p.fire with pressureFall := true }) h _) h
  all_goals exact h

theorem Part.superviseSwitch_covers (h : p.bus.coversReply) (closed : Bool) :
    (p.superviseSwitch closed).bus.coversReply := by
  have cleared : (p.endConfirmation.setDamperFault false).bus.coversReply :=
    Part.ite_covers h (.inr (Part.handFireState_shields (p := p.endConfirmation.withClimate _) h))
  exact Part.ite_covers (Part.ite_covers cleared (Part.ite_covers h h)) h

/-! ## A leaf at the hatch (R115, R116, R125) -/

theorem Part.abandonCore_covers (h : p.bus.coversReply) : p.abandonCore.bus.coversReply := by
  have ended {r : Part} (covers : r.bus.coversReply) : r.endPurge.bus.coversReply :=
    Part.ite_covers (Part.evaluate_covers (p := r.withHatch _) covers) covers
  have staged {r : Part} (covers : r.bus.coversReply) : r.abandonStage.bus.coversReply := by
    unfold Part.abandonStage
    split
    · exact covers
    · exact ended (r := r.withHatch _) covers
    · exact ended (r := r.withHatch _) covers
    · exact covers
  unfold Part.abandonCore
  dsimp only
  rw [show ∀ (r : Part) (x : HatchContext), (r.abandonHatchState x).bus = r.bus from fun r x => by simp]
  exact staged (by simpa using h)

theorem Part.takeLeaf_shows (h : p.bus.coversReply) (l : Leaf) (closed : Bool) : (p.takeLeaf l closed).bus.showsReply := by
  unfold Part.takeLeaf Part.leafOpens Part.forced Part.abandonWith
  split
  · simpa using h.showsReply
  · split
    · simpa using h.showsReply
    · split
      · rw [Part.handNotices_eq]
        refine BusPort.showsReply.notified ?_ _ _ _ _ _ _
        simpa using (Part.abandonCore_covers h).showsReply
      · simpa using h.showsReply

end Sys2Proof.Machine
end

section
/-! PROOF. O18: a hold that has run accepts the level of its input (R57 to R60), and what IN5 and IN6 make of it (R39, R47,
R48). -/

namespace Sys2Proof.Machine

/-! ## Events after which the marked reply is in the queue -/

theorem State.ready.restartReplyLeft_of_shows {s : State} (h : s.ready) {q : Part} (startUp : q.startUp = s.startUp)
    (shows_ : s.bus.holdsReply 6 → q.bus.showsReply) : q.restartReplyLeft = false := by
  obtain ⟨_, none | kept⟩ := h
  · exact Part.restartReplyLeft_of_none (startUp ▸ none)
  · exact Part.restartReplyLeft_of_mark (shows_ kept)

theorem State.ready.become_event_of_shows {s : State} {f : Part → Part} (h : s.ready)
    (startUp : (f s.toPart).startUp = s.startUp) (shows_ : s.bus.holdsReply 6 → (f s.toPart).bus.showsReply) :
    s.become (s.toPart.event f) = .next { s with toPart := f s.toPart } :=
  State.become_event h (h.restartReplyLeft_of_shows startUp shows_) (startUp ▸ h.inProgress)

theorem State.ready.become_timed_of_shows {s : State} {due : Part → Bool} {f : Part → Part} (h : s.ready)
    (ran : due s.toPart = true) (startUp : (f s.toPart).startUp = s.startUp)
    (shows_ : s.bus.holdsReply 6 → (f s.toPart).bus.showsReply) :
    s.become (s.toPart.timed due f) = .next { s with toPart := f s.toPart } :=
  State.become_timed h ran (h.restartReplyLeft_of_shows startUp shows_) (startUp ▸ h.inProgress)

theorem exec_inputHoldExpiry (s : State) (i : InputId) :
    exec (.inputHoldExpiry i) s
      = s.become (s.toPart.timed (fun p => p.inputHoldDue i) fun p => p.acceptInput i) := rfl

/-! ## The acceptance (R57 to R60) -/

/-- The first acceptance is no edge; another is one where the level changed and the configured edge is its (R59, R60). -/
theorem qualifies_iff {edge : QualifyingEdge} {old : Option Bool} {level : Bool} :
    qualifies edge old level = true ↔ old = some (!level)
      ∧ ((edge = .rising ∧ level = true) ∨ (edge = .falling ∧ level = false) ∨ edge = .both) := by
  rcases old with _ | old
  · cases edge <;> simp [qualifies]
  · cases edge <;> cases old <;> cases level <;> decide

theorem configuredEdge_iff (c : Settings) (i : InputId) :
    (configuredEdge c i = .rising ↔ c.edges.toNat / 4 ^ inputNumber i % 4 = 0)
    ∧ (configuredEdge c i = .falling ↔ c.edges.toNat / 4 ^ inputNumber i % 4 = 1)
    ∧ (configuredEdge c i = .both ↔ 2 ≤ c.edges.toNat / 4 ^ inputNumber i % 4) := by
  unfold configuredEdge
  rw [show c.edges.toNat / 4 ^ inputNumber i % 4 = edgeCode c.edges (inputNumber i) from rfl]
  split
  · next code => simp [code]
  · next code => simp [code]
  · next rises falls =>
    have noRise : edgeCode c.edges (inputNumber i) ≠ 0 := rises
    have noFall : edgeCode c.edges (inputNumber i) ≠ 1 := falls
    have both : 2 ≤ edgeCode c.edges (inputNumber i) := by omega
    simp [noRise, noFall, both]

variable {p : Part} {i : InputId} {high : Bool}

/-- The inputs after the pending level of one is accepted. -/
def Part.inputsAccepted (p : Part) (i : InputId) (level : Bool) : PerInput InputState :=
  p.inputs.set i ((p.inputs.get i).accepts level (configuredEdge p.settings i))

section
variable (pending : (p.inputs.get i).pendingLevel = some high)
include pending

theorem Part.acceptInput_eq : p.acceptInput i =
    if (p.inputs.get i).accepted = some (logicalLevel p.settings i high)
    then p.withInputs (p.inputsAccepted i (logicalLevel p.settings i high))
    else (p.withInputs (p.inputsAccepted i (logicalLevel p.settings i high))).handInput i
      (logicalLevel p.settings i high) := by
  simp only [Part.acceptInput, pending, Part.inputsAccepted]

theorem Part.acceptInput_inputs : (p.acceptInput i).inputs = p.inputsAccepted i (logicalLevel p.settings i high) := by
  rw [Part.acceptInput_eq pending]
  split <;> simp

end

theorem Part.handInput_shows (h : p.bus.coversReply) (i : InputId) (active : Bool) :
    (p.handInput i active).bus.showsReply := by
  cases i with
  | in0 => exact Part.takeLeaf_shows h _ _
  | in1 => exact Part.takeLeaf_shows h _ _
  | in2 => exact (Part.ite_covers (Part.manualRelease_covers h) h).showsReply
  | in3 => exact (Part.takeAbort_covers h _).showsReply
  | in4 => exact (Part.takePressure_covers h _).showsReply
  | in5 => exact (Part.superviseSwitch_covers h _).showsReply
  | in6 => exact (Part.evaluate_covers (p := p.withClimate { p.climate with plantFault := active }) h).showsReply
  | in7 => exact h.showsReply

theorem Part.acceptInput_shows (h : p.bus.coversReply) (pending : (p.inputs.get i).pendingLevel = some high) :
    (p.acceptInput i).bus.showsReply := by
  rw [Part.acceptInput_eq pending]
  split
  · exact h.showsReply
  · exact Part.handInput_shows (p := p.withInputs _) (by exact h) _ _

theorem Part.acceptInput_only (p : Part) (i : InputId) :
    p.acceptInput i = { p with
      inputs := (p.acceptInput i).inputs, fire := (p.acceptInput i).fire, climate := (p.acceptInput i).climate
      hatch := (p.acceptInput i).hatch, custody := (p.acceptInput i).custody, outputs := (p.acceptInput i).outputs
      bus := (p.acceptInput i).bus } := by
  have frame := p.acceptInput_frame i
  generalize p.acceptInput i = q at frame
  cases q
  simp_all

/-! ## IN6 and IN5 (R39, R47, R48) -/

/-- IN6: PLANT_FAULT follows the level, and the resolver is evaluated (R39). -/
theorem Part.takePlantInput_eq (p : Part) (fault : Bool) :
    p.takePlantInput fault = (p.withClimate { p.climate with plantFault := fault }).evaluate := rfl

theorem Part.resolveAirPath_plantFault (p : Part) : p.resolveAirPath.climate.plantFault = p.climate.plantFault := by
  obtain ⟨_, _, climate⟩ := p.resolveAirPath_climate_eq
  rw [climate]

/-- With PLANT_FAULT set the grant is 0 (R38). -/
theorem Part.resolveAirPath_grant_zero {p : Part} (fault : p.climate.plantFault = true) :
    p.resolveAirPath.climate.grant = 0 := by
  obtain ⟨_, _, climate⟩ := p.resolveAirPath_climate_eq
  rw [climate]
  simp [Part.computedGrant, grantLaw, fault]

/-- IN5 at a 0 % command, closed: the confirmation is removed and DAMPER_FAULT clears (R47, R48). -/
theorem Part.superviseSwitch_closed {p : Part} (command : p.climate.damper = 0) :
    p.superviseSwitch true = (p.withClimate { p.climate with confirmation := none, damperFault := false }).withBus
      (if p.climate.damperFault = false then p.bus
        else p.bus.handed (newFrame .fire 63#6 (.fireState { p.fireContent with damperFault := false }))) := by
  unfold Part.superviseSwitch Part.setDamperFault Part.endConfirmation
  rw [if_pos command, if_pos rfl]
  by_cases clear : p.climate.damperFault = false
  · simp only [Part.withClimate_climate, clear]
    rfl
  · simp only [Part.withClimate_climate, if_neg clear, Part.handFireState, Part.handFrame_eq]
    rfl

/-- IN5 at a 0 % command, no longer closed: a confirmation starts unless one runs or OUT5 is not fitted (R47). -/
theorem Part.superviseSwitch_open {p : Part} (command : p.climate.damper = 0) :
    p.superviseSwitch false = p.withClimate { p.climate with
      confirmation := if p.settings.fitted.getLsbD 5 = true ∧ p.climate.confirmation = none
        then some (p.now + confirmationTime) else p.climate.confirmation } := by
  unfold Part.superviseSwitch Part.startConfirmation outputFitted
  rw [if_pos command, if_neg Bool.false_ne_true]
  simp only [Bool.and_eq_true, Option.isNone_iff_eq_none]
  split
  · rfl
  · rfl

theorem Part.superviseSwitch_other {p : Part} (command : p.climate.damper ≠ 0) (closed : Bool) :
    p.superviseSwitch closed = p := if_neg command

/-- The frames of the evaluation that a change of PLANT_FAULT brings, from the governor as it stood before it. -/
theorem Part.takePlantInput_bus (p : Part) (fault : Bool) :
    (p.takePlantInput fault).bus = p.bus.evaluated p (p.takePlantInput fault) := by
  rw [Part.takePlantInput_eq, Part.evaluate_bus]
  rfl

theorem Part.takePlantInput_climate (p : Part) (fault : Bool) : (p.takePlantInput fault).climate
    = (p.withClimate { p.climate with plantFault := fault }).resolveAirPath.climate :=
  Part.evaluate_climate _

theorem Part.takePlantInput_outputs (p : Part) (fault : Bool) : (p.takePlantInput fault).outputs
    = (p.withClimate { p.climate with plantFault := fault }).resolveAirPath.outputs :=
  Part.evaluate_outputs _

theorem Part.takePlantInput_only (p : Part) (fault : Bool) :
    p.takePlantInput fault = { p with
      climate := (p.takePlantInput fault).climate, outputs := (p.takePlantInput fault).outputs
      bus := (p.takePlantInput fault).bus } :=
  Part.evaluate_only _

/-- Settles O18: the acceptance, then the block that reads the input (`Part.handInput`), where the level has changed. -/
theorem heldInputsAreAccepted : Obligations.HeldInputsAreAccepted := by
  intro s i ready high pending e runs ran old level edge
  have due : s.toPart.inputHoldDue i = true := Part.inputHoldDue_iff.2 ⟨by simp [pending], e, runs, ran⟩
  have taken : exec (.inputHoldExpiry i) s = .next { s with toPart := s.toPart.acceptInput i } := by
    rw [exec_inputHoldExpiry, ready.become_timed_of_shows due (by simp)
      fun holds => Part.acceptInput_shows (.inl (holds.mono (by decide))) pending]
  have inputs : (s.toPart.acceptInput i).inputs = s.toPart.inputsAccepted i level := Part.acceptInput_inputs pending
  have self : (s.toPart.inputsAccepted i level).get i = old.accepts level (configuredEdge s.toPart.settings i) :=
    PerInput.get_set_same _ _ _
  have acts := Part.acceptInput_eq (p := s.toPart) pending
  have changes (changed : old.accepted ≠ some level) :
      s.toPart.acceptInput i = (s.toPart.withInputs (s.toPart.inputsAccepted i level)).handInput i level :=
    acts.trans (if_neg changed)
  have only := s.toPart.acceptInput_only i
  rw [inputs] at only
  refine ⟨_, taken, ?_, ?_, ?_, ?_, ?_, fun j other => ?_, fun still => ?_, ?_, fun plant changed => ?_,
    fun damper changed => ?_⟩
  · rw [inputs, self]; rfl
  · rw [inputs, self]; rfl
  · rw [inputs, self]; rfl
  · rw [inputs, self]; rfl
  · obtain ⟨rising, falling, both⟩ := configuredEdge_iff s.toPart.settings i
    rw [inputs, self]
    show (old.latch || qualifies (configuredEdge s.toPart.settings i) old.accepted level) = true ↔ _
    rw [Bool.or_eq_true, qualifies_iff, rising, falling, both]
    rfl
  · rw [inputs]
    exact PerInput.get_set_other _ _ other
  · have made : s.toPart.acceptInput i = s.toPart.withInputs (s.toPart.inputsAccepted i level) := by
      by_cases same : old.accepted = some level
      · exact acts.trans (if_pos same)
      · rw [changes same, still.resolve_right same]
        rfl
    rw [made]
    rfl
  · rw [inputs]
    exact congrArg (fun q => ({ s with toPart := q } : State)) only
  · subst plant
    have made : s.toPart.acceptInput .in6
        = (s.toPart.withInputs (s.toPart.inputsAccepted .in6 level)).takePlantInput level := changes changed
    have climate := (s.toPart.withInputs (s.toPart.inputsAccepted .in6 level)).takePlantInput_climate level
    have outputs := (s.toPart.withInputs (s.toPart.inputsAccepted .in6 level)).takePlantInput_outputs level
    rw [made] at inputs ⊢
    rw [inputs]
    refine ⟨?_, fun fault => ?_, ⟨climate, outputs⟩, Part.takePlantInput_bus _ level, ?_⟩
    · exact (congrArg _ climate).trans (Part.resolveAirPath_plantFault _)
    · exact (congrArg _ climate).trans (Part.resolveAirPath_grant_zero fault)
    · exact congrArg (fun q => ({ s with toPart := q } : State)) (Part.takePlantInput_only _ level)
  · subst damper
    have made : s.toPart.acceptInput .in5
        = (s.toPart.withInputs (s.toPart.inputsAccepted .in5 level)).superviseSwitch level := changes changed
    generalize shown : s.toPart.withInputs (s.toPart.inputsAccepted .in5 level) = q at made
    have climate : q.climate = s.climate := shown ▸ rfl
    rw [made]
    refine ⟨fun command closed => ?_, fun command opened => ?_, fun command => ?_⟩
    · rw [closed, Part.superviseSwitch_closed (climate ▸ command), ← shown]
      rfl
    · rw [opened, Part.superviseSwitch_open (climate ▸ command), ← shown]
      rfl
    · rw [Part.superviseSwitch_other (climate ▸ command), ← shown]
      rfl

end Sys2Proof.Machine
end

section
/-! PROOF. What a confirmation of fire makes of the sequencer and its three outputs (R71, R72, R75, R77, R85). -/

namespace Sys2Proof.Machine

variable {p q : Part} {o : OutputId}

/-! ## Outputs in a change of the fire state (R66, R85) -/

theorem Part.evaluate_output (lock : ∀ l, o ≠ lockOutput l) (fan : o ≠ .out6) (plant : o ≠ .out7) :
    p.evaluate.outputs.get o = p.outputs.get o := Part.HatchActs.refl.evaluate.output lock fan plant

theorem out2_ne_lockOutput (l : Leaf) : OutputId.out2 ≠ lockOutput l := by cases l <;> decide
theorem out3_ne_lockOutput (l : Leaf) : OutputId.out3 ≠ lockOutput l := by cases l <;> decide
theorem out4_ne_lockOutput (l : Leaf) : OutputId.out4 ≠ lockOutput l := by cases l <;> decide

/-- An evaluation leaves the outputs of the fire sequencer (R46). -/
theorem Part.evaluate_fireOutputs : p.evaluate.outputs.out2 = p.outputs.out2
    ∧ p.evaluate.outputs.out3 = p.outputs.out3 ∧ p.evaluate.outputs.out4 = p.outputs.out4 :=
  ⟨Part.evaluate_output (o := .out2) out2_ne_lockOutput nofun nofun,
    Part.evaluate_output (o := .out3) out3_ne_lockOutput nofun nofun,
    Part.evaluate_output (o := .out4) out4_ne_lockOutput nofun nofun⟩

theorem Part.requestSignals_requests : p.requestSignals.outputs.out3.request = signalRequest p.fire.state
    ∧ p.requestSignals.outputs.out4.request = signalRequest p.fire.state := ⟨rfl, rfl⟩

/-- After the signals of a change, neither the governor nor the hatch controller touches an output of the sequencer. -/
theorem Part.changeFire_output (f : FireSequencer) (lock : ∀ l, o ≠ lockOutput l) (fan : o ≠ .out6)
    (plant : o ≠ .out7) :
    (p.changeFire f).outputs.get o
      = ((p.withFire (f.entered (p.inactive .in4))).requestSignals).outputs.get o := by
  have acts := (Part.HatchActs.refl
    (p := (p.withFire (f.entered (p.inactive .in4))).requestSignals.handFireState)).evaluate.hatchTakesFire p.fire.state
  exact (acts.output lock fan plant).trans (by simp)

theorem Part.changeFire_signals (f : FireSequencer) :
    (p.changeFire f).outputs.out3.request = signalRequest f.state
    ∧ (p.changeFire f).outputs.out4.request = signalRequest f.state := by
  obtain ⟨three, four⟩ := (p.withFire (f.entered (p.inactive .in4))).requestSignals_requests
  rw [Part.withFire_fire, FireSequencer.entered_state] at three four
  have kept3 := p.changeFire_output (o := .out3) f out3_ne_lockOutput nofun nofun
  have kept4 := p.changeFire_output (o := .out4) f out4_ne_lockOutput nofun nofun
  exact ⟨(congrArg DigitalOutput.request kept3).trans three, (congrArg DigitalOutput.request kept4).trans four⟩

/-! ## Release and PRE_DISCHARGE (R72, R75, R77) -/

theorem FireSequencer.entered_sealed {f : FireSequencer} (closed : f.state.sealed = true) (low : Bool) :
    f.entered low = f := by
  simp [FireSequencer.entered, closed]

theorem Part.discharge_fire : p.discharge.fire = { p.fire with
    state := .discharged, paused := false, countdown := none, pulseEnd := some (p.now + pulseTime)
    confirmationEnd := some (p.now + releaseConfirmationTime), pressureFall := false } := by
  rw [Part.discharge, (Part.requestOutput_frame _ _ _).2.2.2.2.2.1, Part.changeFire_fire]
  exact FireSequencer.entered_sealed rfl _

theorem Part.discharge_signals :
    p.discharge.outputs.out3.request = .drivenOn ∧ p.discharge.outputs.out4.request = .drivenOn :=
  Part.changeFire_signals _

theorem Part.settings_congr (startUp : p.startUp = q.startUp) : p.settings = q.settings := by
  rw [Part.settings_eq, Part.settings_eq, startUp]

theorem Part.discharge_out2 : p.discharge.outputs.out2
    = ⟨.drivenOn, if outputFitted p.settings 2 then .drivenOn else .released⟩ := by
  refine (Part.requestOutput_self (p.changeFire _) .out2 .drivenOn).trans ?_
  rw [Part.settings_congr (p := p.changeFire _) (q := p) (by simp)]
  rfl

/-- What `Part.ReleaseBegun` reads of the two parts. -/
theorem Part.ReleaseBegun.congr {p' r : Part} {alarm : Option AlarmRecord} (h : p.ReleaseBegun q alarm)
    (clock : p'.clock = p.clock) (fire : r.fire = q.fire) (startUp : r.startUp = q.startUp)
    (outputs : r.outputs.out2 = q.outputs.out2 ∧ r.outputs.out3 = q.outputs.out3 ∧ r.outputs.out4 = q.outputs.out4) :
    p'.ReleaseBegun r alarm := by
  obtain ⟨two, three, four⟩ := outputs
  have now : p'.now = p.now := congrArg (·.localTime) clock
  unfold Part.ReleaseBegun
  rw [fire, two, three, four, Part.settings_congr startUp, now]
  exact h

theorem Part.discharge_begins : p.ReleaseBegun p.discharge p.fire.alarm := by
  obtain ⟨three, four⟩ := p.discharge_signals
  have settings : p.discharge.settings = p.settings := Part.settings_congr (by simp)
  unfold Part.ReleaseBegun
  rw [Part.discharge_fire, Part.discharge_out2, settings]
  exact ⟨rfl, rfl, rfl, rfl, rfl, rfl, rfl, rfl, three, four⟩

/-- A release is not the governor's affair (R42, R46). -/
theorem Part.ReleaseBegun.evaluate {alarm : Option AlarmRecord} (h : p.ReleaseBegun q alarm) :
    p.ReleaseBegun q.evaluate alarm :=
  h.congr rfl (by simp) (by simp) q.evaluate_fireOutputs

/-- The sequencer at the entry into PRE_DISCHARGE (R72). -/
def Part.preDischarge (p : Part) (countdown : Nat) (alarm : Option AlarmRecord) : FireSequencer :=
  { p.fire with
    state := .preDischarge, paused := p.active .in3, countdown := some countdown, pulseEnd := none
    confirmationEnd := none, pressureFall := false, holdEnd := none, alarm := alarm }

section
variable {n : Nat} {alarm : Option AlarmRecord}

theorem Part.changeFire_preDischarge_fire : (p.changeFire (p.preDischarge n alarm)).fire = p.preDischarge n alarm := by
  rw [Part.changeFire_fire]
  exact FireSequencer.entered_sealed rfl _

theorem Part.preDischarge_countdownOver :
    (p.changeFire (p.preDischarge n alarm)).countdownOver = true ↔ n = 0 ∧ p.active .in3 = false := by
  unfold Part.countdownOver
  rw [Part.changeFire_preDischarge_fire]
  simp [Part.preDischarge]

/-- A countdown of 0 that is not paused expires in the event that enters PRE_DISCHARGE (log 14). -/
theorem Part.enterPreDischarge_expires (zero : n = 0) (runs : p.active .in3 = false) :
    p.ReleaseBegun (p.enterPreDischarge n alarm) alarm := by
  have made : p.enterPreDischarge n alarm = (p.changeFire (p.preDischarge n alarm)).discharge :=
    if_pos (Part.preDischarge_countdownOver.2 ⟨zero, runs⟩)
  have begun := (p.changeFire (p.preDischarge n alarm)).discharge_begins
  rw [Part.changeFire_preDischarge_fire, ← made] at begun
  exact begun.congr (by simp) rfl rfl ⟨rfl, rfl, rfl⟩

theorem Part.enterPreDischarge_counts (ahead : ¬ (n = 0 ∧ p.active .in3 = false)) :
    (p.enterPreDischarge n alarm).fire = p.preDischarge n alarm
    ∧ (p.enterPreDischarge n alarm).outputs.out3.request = .pattern .preDischarge
    ∧ (p.enterPreDischarge n alarm).outputs.out4.request = .pattern .preDischarge := by
  have made : p.enterPreDischarge n alarm = p.changeFire (p.preDischarge n alarm) :=
    if_neg (mt Part.preDischarge_countdownOver.1 ahead)
  rw [made]
  exact ⟨Part.changeFire_preDischarge_fire, Part.changeFire_signals _⟩

end

end Sys2Proof.Machine
end

section
/-! PROOF. A frame at the peer view: the entry and the watch of its source, and what the fire sequencer and the climate
governor make of the change (R41, R42, R71, R163, R165, R166). -/

namespace Sys2Proof.Machine

variable {p : Part} {f : RxFrame} {v : PeerView} {now : Time}

/-! ## The entry of the source (R163, R165) -/

/-- An entry at a frame, its optional fields one by one. -/
theorem PeerEntry.hears_eq (e : PeerEntry) (role : Role) (now : Time) (c : PeerContent) :
    e.hears role now c = { e with
      role := role, lastFrame := now, silent := false
      ductGroup := if decide (role = .zone) then c.ductGroup.orElse (fun _ => e.ductGroup) else none
      demand := if decide (role = .zone) then (c.demand.map fun d => (d, now)).orElse (fun _ => e.demand) else none
      fireState := if decide (role = .zone) then c.fireState.orElse (fun _ => e.fireState) else none } := by
  unfold PeerEntry.hears
  by_cases zone : role = .zone
  · simp only [if_pos zone, decide_eq_true zone, if_true]
  · simp only [if_neg zone, decide_eq_false zone, Bool.false_eq_true, if_false]

/-- With one entry per station, the entry changed is the one of the source. -/
theorem PeerView.hears_entries {e : PeerEntry} (known : v.find f.source = some e)
    (distinct : (v.entries.map (·.station)).Nodup) :
    (v.hears f now).entries = v.entries.map fun e =>
      if e.station = f.source then e.hears f.role now (contentOf f) else e := by
  have single : v.entries.Pairwise fun x y => (x.station == f.source) = true → (y.station == f.source) = false := by
    refine (List.pairwise_map.1 distinct).imp fun {x y} ne here => ?_
    rw [beq_eq_false_iff_ne]
    exact fun there => ne ((beq_iff_eq.1 here).trans there.symm)
  rw [PeerView.hears_known now known]
  simp [changeFirst_eq_map _ single]

theorem PeerView.hears_watches : (v.hears f now).watches = hearWatches v.watches f.source now := by
  unfold PeerView.hears
  dsimp only
  split
  · rfl
  · split <;> rfl

theorem PeerView.find_station {st : Station} {e : PeerEntry} (found : v.find st = some e) : e.station = st := by
  unfold PeerView.find at found
  simpa using List.find?_some found

/-- The entry of the source after a frame is made of the one before it, or of a new one without a fire state. -/
theorem PeerView.find_hears {e : PeerEntry} (found : (v.hears f now).find f.source = some e) :
    ∃ o : PeerEntry, e = o.hears f.role now (contentOf f) ∧ o.fireState = (v.find f.source).bind (·.fireState) := by
  cases known : v.find f.source with
  | some o =>
    rw [PeerView.find_hears_known now known] at found
    exact ⟨o, (Option.some.inj found).symm, rfl⟩
  | none =>
    by_cases room : v.entries.length < peerCapacity
    · rw [PeerView.find_hears_new now known room] at found
      exact ⟨_, (Option.some.inj found).symm, rfl⟩
    · rw [PeerView.find_hears_full now known room] at found
      cases found

/-- A fire state newly recorded is one the frame carries. -/
theorem PeerView.hears_carries {e : PeerEntry} {st : FireState} (found : (v.hears f now).find f.source = some e)
    (shown : e.fireState = some st) (changed : e.fireState ≠ (v.find f.source).bind (·.fireState)) :
    (contentOf f).fireState = some st := by
  obtain ⟨o, rfl, was⟩ := PeerView.find_hears found
  rw [← was] at changed
  rw [PeerEntry.hears_eq] at shown changed
  dsimp only at shown changed
  split at shown
  · next zone =>
    rw [if_pos zone] at changed
    cases content : (contentOf f).fireState with
    | none => exact absurd (by rw [content]; rfl) changed
    | some x => simpa [content] using shown
  · cases shown

/-! ## The change handed on (R41, R71, R163) -/

/-- The entry of the source before a frame. -/
def Part.entryBefore (p : Part) (f : RxFrame) : Option PeerEntry := p.peers.find f.source

/-- The entry of the source after a frame. -/
def Part.entryAfter (p : Part) (f : RxFrame) : Option PeerEntry := (p.peers.hears f p.now).find f.source

/-- A frame confirms ALERT: a fire state that shows fire is newly recorded for a configured neighbour (R71). -/
def Part.frameConfirms (p : Part) (f : RxFrame) : Bool :=
  p.fire.state == .alert && p.settings.neighbours.contains f.source
    && (p.entryAfter f).bind (·.fireState) != (p.entryBefore f).bind (·.fireState)
    && ((p.entryAfter f).bind (·.fireState)).any FireState.confirming

/-- A frame makes the climate governor evaluate (R41, log 32). -/
def Part.frameConcerns (p : Part) (f : RxFrame) : Bool := (p.entryAfter f).any (p.concernsClimate (p.entryBefore f))

/-- The part once the peer view has a frame. -/
def Part.heard (p : Part) (f : RxFrame) : Part := p.withPeers (p.peers.hears f p.now)

/-- The part once the fire sequencer has the change. -/
def Part.told (p : Part) (f : RxFrame) : Part := if p.frameConfirms f then (p.heard f).confirmFire else p.heard f

theorem Part.frameConfirms_iff : p.frameConfirms f = true ↔
    p.fire.state = .alert ∧ f.source ∈ p.settings.neighbours
      ∧ (p.entryAfter f).bind (·.fireState) ≠ (p.entryBefore f).bind (·.fireState)
      ∧ ((p.entryAfter f).bind (·.fireState)).any FireState.confirming = true := by
  simp [Part.frameConfirms, and_assoc]

theorem Part.neighbourChange_iff {old : Option PeerEntry} {new : PeerEntry} {st : FireState} :
    p.neighbourChange old new = some st ↔ new.station ∈ p.settings.neighbours
      ∧ new.fireState ≠ old.bind (·.fireState) ∧ new.fireState = some st := by
  simp [Part.neighbourChange, and_assoc, ne_comm]

/-- The fire sequencer takes the change of an entry as `Part.frameConfirms` says. -/
theorem Part.told_eq {new : PeerEntry} (found : p.entryAfter f = some new) :
    (match (p.heard f).neighbourChange (p.entryBefore f) new with
      | some st => (p.heard f).takeNeighbourChange st
      | none => p.heard f) = p.told f := by
  have source : new.station = f.source := PeerView.find_station found
  have confirms := p.frameConfirms_iff (f := f)
  rw [found, ← source] at confirms
  by_cases moves : p.frameConfirms f = true
  · obtain ⟨state, neighbour, differs, shows_⟩ := confirms.1 moves
    obtain ⟨st, shown, fire⟩ := (Option.any_eq_true _ _).1 shows_
    have change : (p.heard f).neighbourChange (p.entryBefore f) new = some st :=
      Part.neighbourChange_iff.2 ⟨neighbour, differs, shown⟩
    rw [change, Part.told, if_pos moves]
    exact if_pos ⟨state, fire⟩
  · rw [Part.told, if_neg moves]
    split
    · next st change =>
      obtain ⟨neighbour, differs, shown⟩ := Part.neighbourChange_iff.1 change
      exact if_neg fun ⟨state, fire⟩ => moves (confirms.2 ⟨state, neighbour, differs, by
        rw [Option.bind_some, shown]
        exact fire⟩)
    · rfl

theorem Part.hearFrame_eq (p : Part) (f : RxFrame) :
    p.hearFrame f = if p.frameConcerns f then (p.told f).evaluate else p.told f := by
  cases found : p.entryAfter f with
  | none =>
    have calm : p.frameConfirms f = false := by simp [Part.frameConfirms, found]
    have unconcerned : p.frameConcerns f = false := by simp [Part.frameConcerns, found]
    have made : p.hearFrame f = p.heard f := by
      unfold Part.entryAfter at found
      simp [Part.hearFrame, found, Part.heard]
    rw [made, unconcerned, Part.told, calm]
    rfl
  | some new =>
    have made : p.hearFrame f = (p.heard f).handPeerChange (p.entryBefore f) new := by
      unfold Part.entryAfter at found
      simp [Part.hearFrame, found, Part.heard, Part.entryBefore]
    have concerns : p.frameConcerns f = (p.heard f).concernsClimate (p.entryBefore f) new := by
      rw [Part.frameConcerns, found]
      rfl
    rw [made, concerns, ← Part.told_eq found]
    rfl

end Sys2Proof.Machine
end

section
/-! PROOF. O51: a frame received, at the peer view, the fire sequencer, the governor, the archive clock and the bus port
(R41, R42, R71, R157, R158, R163, R165, R166, R169). -/

namespace Sys2Proof.Machine

variable {p : Part} {f : RxFrame}

/-! ## What a frame heard makes of the part -/

theorem Part.told_calm (calm : p.frameConfirms f = false) : p.told f = p.heard f := if_neg (by simp [calm])

theorem Part.told_confirmed (confirms : p.frameConfirms f = true) : p.told f = (p.heard f).confirmFire :=
  if_pos confirms

theorem Part.told_peers : (p.told f).peers = p.peers.hears f p.now := by
  unfold Part.told
  split
  · exact (Part.confirmFire_frame _).2.2.2.2.2.1
  · rfl

theorem Part.hearFrame_concerned (concerns : p.frameConcerns f = true) : p.hearFrame f = (p.told f).evaluate := by
  rw [Part.hearFrame_eq, if_pos concerns]

theorem Part.hearFrame_unconcerned (unconcerned : p.frameConcerns f = false) : p.hearFrame f = p.told f := by
  rw [Part.hearFrame_eq, unconcerned, if_neg Bool.false_ne_true]

theorem Part.hearFrame_peers : (p.hearFrame f).peers = p.peers.hears f p.now := by
  rw [← p.told_peers, Part.hearFrame_eq]
  split <;> simp

theorem Part.hearFrame_fire : (p.hearFrame f).fire = (p.told f).fire := by
  rw [Part.hearFrame_eq]
  split <;> simp

theorem Part.hearFrame_fireOutputs : (p.hearFrame f).outputs.out2 = (p.told f).outputs.out2
    ∧ (p.hearFrame f).outputs.out3 = (p.told f).outputs.out3
    ∧ (p.hearFrame f).outputs.out4 = (p.told f).outputs.out4 := by
  rw [Part.hearFrame_eq]
  split
  · exact (p.told f).evaluate_fireOutputs
  · exact ⟨rfl, rfl, rfl⟩

/-! ## The confirmation (R71, R72) -/

/-- The countdown of a confirmation with a delay of 0 that is not paused expires at once (log 14). -/
theorem Part.hearFrame_releases (confirms : p.frameConfirms f = true) (zero : occupancyDelay p.settings p.occupancy = 0)
    (runs : p.active .in3 = false) : p.ReleaseBegun (p.hearFrame f) p.fire.alarm := by
  have begun : (p.heard f).ReleaseBegun (p.told f) p.fire.alarm := by
    rw [Part.told_confirmed confirms]
    exact Part.enterPreDischarge_expires zero runs
  refine begun.congr rfl Part.hearFrame_fire ?_ Part.hearFrame_fireOutputs
  rw [Part.hearFrame_eq]
  split <;> simp

theorem Part.hearFrame_counts (confirms : p.frameConfirms f = true)
    (ahead : ¬ (occupancyDelay p.settings p.occupancy = 0 ∧ p.active .in3 = false)) :
    (p.hearFrame f).fire = p.preDischarge (occupancyDelay p.settings p.occupancy) p.fire.alarm
    ∧ (p.hearFrame f).outputs.out3.request = .pattern .preDischarge
    ∧ (p.hearFrame f).outputs.out4.request = .pattern .preDischarge := by
  obtain ⟨_, three, four⟩ := p.hearFrame_fireOutputs (f := f)
  rw [Part.hearFrame_fire, three, four, Part.told_confirmed confirms]
  exact Part.enterPreDischarge_counts (p := p.heard f) ahead

theorem Part.hearFrame_calm_fire (calm : p.frameConfirms f = false) : (p.hearFrame f).fire = p.fire := by
  rw [Part.hearFrame_fire, Part.told_calm calm]
  rfl

/-! ## The climate governor (R41, R42, log 32) -/

section
variable {e : PeerEntry} (found : p.entryAfter f = some e)
include found

theorem Part.frameConcerns_of_ductPeer (peer : p.ductPeer e = true)
    (changed : e.fireState ≠ (p.entryBefore f).bind (·.fireState)) : p.frameConcerns f = true := by
  rw [Part.frameConcerns, found]
  cases old : p.entryBefore f with
  | none => simpa [Part.concernsClimate] using peer
  | some o =>
    have differs : o.fireState ≠ e.fireState := by
      rw [old] at changed
      exact changed.symm
    simp [Part.concernsClimate, peer, differs]

/-- A released gas newly recorded for a duct-group peer shuts the duct (R42). -/
theorem Part.hearFrame_shut (peer : p.ductPeer e = true)
    (changed : e.fireState ≠ (p.entryBefore f).bind (·.fireState))
    (gas : e.fireState.any FireState.gasReleased = true) :
    (p.hearFrame f).climate.airPath = .shut ∧ (p.hearFrame f).climate.damper = 0
    ∧ (p.hearFrame f).climate.fan = false ∧ (p.hearFrame f).climate.plant = false
    ∧ (p.hearFrame f).climate.effective = 0 := by
  have here : e ∈ (p.hearFrame f).peers.entries := by
    rw [Part.hearFrame_peers]
    exact List.mem_of_find?_eq_some found
  have shut : (p.hearFrame f).shutCondition = true := by
    refine Part.shutCondition_iff.2 (.inr ⟨e, here, ?_, gas⟩)
    rwa [Part.ductPeer, Part.settings_congr (q := p) (by simp)]
  have concerns := Part.frameConcerns_of_ductPeer found peer changed
  rw [Part.hearFrame_concerned concerns] at shut ⊢
  exact (p.told f).evaluate_lawful.shut shut

/-- A frame that changes none of role, duct group and fire state does not concern the governor (log 32). -/
theorem Part.frameConcerns_same {o : PeerEntry} (known : p.entryBefore f = some o) (role : e.role = o.role)
    (group : e.ductGroup = o.ductGroup) (fireState : e.fireState = o.fireState) : p.frameConcerns f = false := by
  rw [Part.frameConcerns, found, known]
  cases of : o.ductGroup <;> simp [Part.concernsClimate, Part.ductPeer, role, group, fireState, of]

theorem Part.entryAfter_role : e.role = f.role := by
  obtain ⟨o, rfl, _⟩ := PeerView.find_hears found
  rw [PeerEntry.hears_eq]

theorem Part.entryAfter_fireState_of_notZone (role : f.role ≠ .zone) : e.fireState = none := by
  obtain ⟨o, rfl, _⟩ := PeerView.find_hears found
  rw [PeerEntry.hears_eq]
  simp [role]

end

theorem Part.frameConfirms_of_notZone (role : f.role ≠ .zone) : p.frameConfirms f = false := by
  rw [← Bool.not_eq_true, Part.frameConfirms_iff]
  rintro ⟨_, _, _, shows_⟩
  cases found : p.entryAfter f with
  | none => simp [found] at shows_
  | some e => simp [found, Part.entryAfter_fireState_of_notZone found role] at shows_

theorem Part.frameConcerns_of_notZone (role : f.role ≠ .zone)
    (unchanged : ∀ o, p.entryBefore f = some o → o.role = f.role ∧ o.ductGroup = none) :
    p.frameConcerns f = false := by
  cases found : p.entryAfter f with
  | none => simp [Part.frameConcerns, found]
  | some e =>
    have kind : e.role = f.role := Part.entryAfter_role found
    rw [Part.frameConcerns, found]
    cases known : p.entryBefore f with
    | none => simp [Part.concernsClimate, Part.ductPeer, kind, role]
    | some o =>
      obtain ⟨same, group⟩ := unchanged o known
      simp [Part.concernsClimate, Part.ductPeer, kind, role, same, group]

/-- A confirmation needs a frame that carries a fire state. -/
theorem Part.frameConfirms_of_empty (empty : (contentOf f).fireState = none) : p.frameConfirms f = false := by
  rw [← Bool.not_eq_true, Part.frameConfirms_iff]
  rintro ⟨_, _, changed, shows_⟩
  obtain ⟨st, shown, _⟩ := (Option.any_eq_true _ _).1 shows_
  obtain ⟨e, found, fire⟩ := Option.bind_eq_some_iff.1 shown
  rw [found] at changed
  have carried : (contentOf f).fireState = some st := PeerView.hears_carries found fire changed
  rw [empty] at carried
  cases carried

/-! ## The marked reply of a pending restart (R182) -/

theorem Part.told_covers (h : p.bus.coversReply) : (p.told f).bus.coversReply :=
  Part.ite_covers (Part.confirmFire_covers (p := p.heard f) h) h

theorem Part.hearFrame_covers (h : p.bus.coversReply) : (p.hearFrame f).bus.coversReply := by
  rw [Part.hearFrame_eq]
  exact Part.ite_covers (Part.evaluate_covers (Part.told_covers h)) (Part.told_covers h)

/-- Without a confirmation the frame brings one evaluation at most. -/
theorem Part.hearFrame_holds (calm : p.frameConfirms f = false) (h : p.bus.holdsReply 6) :
    (p.hearFrame f).bus.holdsReply 7 := by
  rw [Part.hearFrame_eq, Part.told_calm calm]
  split
  · rw [Part.evaluate_bus]
    exact BusPort.holdsReply.evaluated_succ h (by decide) _ _
  · exact h.mono (by decide)

/-! ## A valid frame that is no request (R157, R158, R169) -/

theorem exec_frameReceived (f : RxFrame) (s : State) :
    exec (.frameReceived f) s = s.become (s.toPart.event fun p => p.receiveFrame f) := rfl

theorem Part.adoptMinute_eq (m : Option Minute) :
    p.adoptMinute m = p.withClock { p.clock with minute := max p.clock.minute (m.getD 0) } := by
  cases m with
  | none => simp [Part.adoptMinute, Part.withClock]
  | some n =>
    rw [Option.getD_some]
    by_cases later : p.clock.minute < n
    · rw [Nat.max_eq_right (Nat.le_of_lt later)]
      exact if_pos later
    · rw [Nat.max_eq_left (Nat.le_of_not_lt later)]
      exact if_neg later

theorem Part.dispatch_unknown (unknown : kindMeaning f.cls f.kind = .unknown) :
    p.dispatch f = p.reply ⟨f.source, f.cls, f.kind⟩ .unknownKind (.kind f.kind) := by
  simp [Part.dispatch, unknown]

theorem Part.dispatch_known (known : kindMeaning f.cls f.kind ≠ .unknown)
    (quiet : ∀ k, kindMeaning f.cls f.kind ≠ .request k) : p.dispatch f = p := by
  unfold Part.dispatch
  cases meaning : kindMeaning f.cls f.kind with
  | unknown => exact absurd meaning known
  | request k => exact absurd meaning (quiet k)
  | _ => rfl

/-- The archive clock of a part that hears a frame (R169). -/
def Part.clockAfter (p : Part) (f : RxFrame) : ArchiveClock :=
  { p.clock with
    minute := if p.bus.station = some f.dest ∨ f.dest = 63#6 then max p.clock.minute ((contentOf f).minute.getD 0)
      else p.clock.minute }

/-- The queue of a part that hears a frame: an unknown kind addressed to it is answered UNKNOWN_KIND (R158). -/
def Part.busAfter (p : Part) (f : RxFrame) : BusPort :=
  if p.bus.station = some f.dest ∧ kindMeaning f.cls f.kind = .unknown then
    (p.hearFrame f).bus.handed (newFrame f.cls f.source (.reply ⟨f.kind, .unknownKind, .kind f.kind⟩))
  else (p.hearFrame f).bus

theorem Part.receiveFrame_invalid (invalid : frameValid f p.bus.station = false) : p.receiveFrame f = p := by
  rw [Part.receiveFrame, invalid, if_neg Bool.false_ne_true]

section
variable (valid : frameValid f p.bus.station = true)
include valid

theorem Part.receiveFrame_valid : p.receiveFrame f =
    let r := if p.bus.station = some f.dest ∨ f.dest = 63#6 then (p.hearFrame f).adoptMinute (contentOf f).minute
      else p.hearFrame f
    if p.bus.station = some f.dest then r.dispatch f else r := by
  rw [Part.receiveFrame, valid]
  simp [broadcastStation]

theorem Part.receiveFrame_eq (quiet : ∀ k, kindMeaning f.cls f.kind ≠ .request k) :
    p.receiveFrame f = { p.hearFrame f with clock := p.clockAfter f, bus := p.busAfter f } := by
  have adopted : (if p.bus.station = some f.dest ∨ f.dest = 63#6
      then (p.hearFrame f).adoptMinute (contentOf f).minute else p.hearFrame f)
        = (p.hearFrame f).withClock (p.clockAfter f) := by
    have clock : (p.hearFrame f).clock = p.clock := by simp
    unfold Part.clockAfter
    split
    · rw [Part.adoptMinute_eq, clock]
    · rw [← clock]
      rfl
  rw [Part.receiveFrame_valid valid, adopted]
  dsimp only
  unfold Part.busAfter
  by_cases addressed : p.bus.station = some f.dest
  · rw [if_pos addressed]
    by_cases unknown : kindMeaning f.cls f.kind = .unknown
    · rw [Part.dispatch_unknown unknown, if_pos ⟨addressed, unknown⟩, Part.reply, Part.handFrame_eq]
      rfl
    · rw [Part.dispatch_known unknown quiet, if_neg fun both => unknown both.2]
      rfl
  · rw [if_neg addressed, if_neg fun both => addressed both.1]
    rfl

end

theorem contentOf_unknown (unknown : kindMeaning f.cls f.kind = .unknown) : contentOf f = .nothing := by
  simp [contentOf, unknown]

/-- The marked reply is in the queue after the frame: an unknown kind brings one evaluation and one REPLY, any other the
frames of a confirmation, of which FIRE_STATE takes one place. -/
theorem Part.busAfter_shows (p : Part) (f : RxFrame) (h : p.bus.holdsReply 6) : (p.busAfter f).showsReply := by
  unfold Part.busAfter
  split
  · next unknown =>
    have calm : p.frameConfirms f = false :=
      Part.frameConfirms_of_empty (by rw [contentOf_unknown unknown.2]; rfl)
    exact ((Part.hearFrame_holds calm h).handed (by decide) _).showsReply
  · exact (Part.hearFrame_covers (.inl (h.mono (by decide)))).showsReply

/-- A frame touches nothing but the peer view, the clock, the air path, fire, the hatch, custody and the queue. -/
theorem Part.hearFrame_only (p : Part) (f : RxFrame) :
    p.hearFrame f = { p with
      peers := (p.hearFrame f).peers, fire := (p.hearFrame f).fire, climate := (p.hearFrame f).climate
      hatch := (p.hearFrame f).hatch, custody := (p.hearFrame f).custody, outputs := (p.hearFrame f).outputs
      bus := (p.hearFrame f).bus } := by
  have frame := p.hearFrame_frame f
  generalize p.hearFrame f = q at frame
  cases q
  simp_all

/-- The tests of R157. -/
theorem frameValid_false {own : Option Station} (discarded : f.crc ≠ some (computedCrc f) ∨ 40 < f.length.toNat
    ∨ f.source = 0#6 ∨ f.source = 63#6 ∨ own = some f.source) : frameValid f own = false := by
  rw [← Bool.not_eq_true]
  intro valid
  simp only [frameValid, maxPayload, Bool.and_eq_true, beq_iff_eq, bne_iff_ne] at valid
  obtain ⟨⟨⟨⟨crc, length⟩, zero⟩, broadcast⟩, foreign⟩ := valid
  rcases discarded with wrong | long | from0 | from63 | itself
  · exact wrong crc
  · exact absurd (of_decide_eq_true length) (Nat.not_le.2 long)
  · exact zero from0
  · exact broadcast from63
  · exact foreign itself.symm

theorem FireState.any_confirming_iff {st : Option FireState} : st.any FireState.confirming = true
    ↔ st = some .alert ∨ st = some .preDischarge ∨ st = some .discharged ∨ st = some .hold := by
  rcases st with _ | st
  · simp
  · cases st <;> decide

theorem Part.active_eq_decide (i : InputId) : p.active i = decide ((p.inputs.get i).accepted = some true) := by
  rw [Bool.eq_iff_iff]
  simp [Part.active]

theorem Part.occupancyDelay_eq : occupancyDelay p.settings p.occupancy =
    match p.occupancy with
    | .staffed => p.startUp.settings.staffedDelay
    | .unstaffed => p.startUp.settings.unstaffedDelay := by
  rw [Part.settings_eq]
  cases p.occupancy <;> rfl

/-- A frame that neither confirms nor concerns the governor reaches the peer view alone. -/
theorem Part.hearFrame_quiet (calm : p.frameConfirms f = false) (unconcerned : p.frameConcerns f = false) :
    p.hearFrame f = p.heard f := by
  rw [Part.hearFrame_unconcerned unconcerned, Part.told_calm calm]

theorem Part.frameConfirms_same {o e : PeerEntry} (known : p.entryBefore f = some o) (found : p.entryAfter f = some e)
    (fireState : e.fireState = o.fireState) : p.frameConfirms f = false := by
  simp [Part.frameConfirms, known, found, fireState]

theorem Part.hearFrame_entry :
    (p.hearFrame f).peers.entries.find? (fun e => e.station == f.source) = p.entryAfter f := by
  rw [Part.hearFrame_peers]
  rfl

section
variable {s : State} (ready : s.ready)
include ready

theorem exec_frameReceived_invalid (invalid : frameValid f s.bus.station = false) :
    exec (.frameReceived f) s = .next s := by
  have ignored : s.toPart.receiveFrame f = s.toPart := Part.receiveFrame_invalid invalid
  have kept : (s.toPart.receiveFrame f).restartReplyLeft = false := by rw [ignored, ready.restartReplyLeft]
  rw [exec_frameReceived, Part.event_eq (f := fun p => p.receiveFrame f) ready.1 kept, ignored, State.become_self]

theorem exec_frameReceived_valid (valid : frameValid f s.bus.station = true)
    (quiet : ∀ k, kindMeaning f.cls f.kind ≠ .request k) : exec (.frameReceived f) s = .next { s with
      toPart := { s.toPart.hearFrame f with clock := s.toPart.clockAfter f, bus := s.toPart.busAfter f } } := by
  have made := Part.receiveFrame_eq (p := s.toPart) valid quiet
  have startUp : (s.toPart.receiveFrame f).startUp = s.startUp := by
    rw [made]
    exact (Part.hearFrame_frame _ f).2.2.2.2.2.2.2.1
  have shows_ (holds : s.bus.holdsReply 6) : (s.toPart.receiveFrame f).bus.showsReply := by
    rw [made]
    exact Part.busAfter_shows _ f holds
  rw [exec_frameReceived, ready.become_event_of_shows (f := fun p => p.receiveFrame f) startUp shows_, made]

end

/-- Settles O51: the entry of the source, what the fire sequencer and the governor make of its change, then the archive
clock and the one REPLY (`Part.receiveFrame_eq`). -/
theorem framesReachThePeerView : Obligations.FramesReachThePeerView := by
  intro f s ready
  refine ⟨fun discarded => exec_frameReceived_invalid ready (frameValid_false discarded),
    fun valid distinct quiet => ?_⟩
  intro now c old heard toPart
  have heardEq (e : PeerEntry) : heard e = e.hears f.role now c := (PeerEntry.hears_eq e f.role now c).symm
  have peers : (s.toPart.hearFrame f).peers = s.peers.hears f now := Part.hearFrame_peers
  refine ⟨_, exec_frameReceived_valid ready valid quiet, ?_, fun known => ?_, fun absent room => ?_,
    fun absent full => ?_, ?_, rfl, fun unknown addressed role same => ?_, ?_⟩
  · dsimp only
    rw [peers]
    exact PeerView.hears_watches
  · obtain ⟨e, found⟩ := Option.ne_none_iff_exists'.1 known
    dsimp only
    rw [peers]
    simp only [heardEq]
    exact ⟨PeerView.hears_entries found distinct, by rw [PeerView.hears_known now found]⟩
  · dsimp only
    rw [peers, PeerView.hears_new now absent room, heardEq]
    exact ⟨rfl, rfl⟩
  · dsimp only
    rw [peers, PeerView.hears_full now absent (Nat.not_lt.2 full)]
    exact ⟨rfl, rfl⟩
  · intro recorded cfg delay paused is confirms
    have after : recorded = s.toPart.entryAfter f := Part.hearFrame_entry
    have confirmsIff : confirms ↔ s.toPart.frameConfirms f = true := by
      rw [Part.frameConfirms_iff, FireState.any_confirming_iff, ← after]
      rfl
    have calm (no : ¬ confirms) : s.toPart.frameConfirms f = false := Bool.not_eq_true _ ▸ mt confirmsIff.2 no
    refine ⟨fun yes => ?_, fun no => Part.hearFrame_calm_fire (calm no),
      fun e found zone group changed gas => ?_, fun o known e found role group =>
        ⟨fun unchanged => ?_, fun no changed zone peer => ?_⟩⟩
    · have pausedEq : s.toPart.active .in3 = paused := Part.active_eq_decide _
      have delayEq : occupancyDelay s.toPart.settings s.toPart.occupancy = delay := Part.occupancyDelay_eq
      split
      · next runs =>
        exact Part.hearFrame_releases (confirmsIff.1 yes) (delayEq.trans runs.1) (pausedEq.trans runs.2)
      · next ahead =>
        obtain ⟨fire, three, four⟩ := Part.hearFrame_counts (confirmsIff.1 yes) (by rwa [delayEq, pausedEq])
        rw [fire, delayEq, Part.preDischarge, pausedEq]
        exact ⟨rfl, rfl, rfl, rfl, three, four⟩
    · exact Part.hearFrame_shut (after.symm.trans found) (s.toPart.ductPeer_iff.2 ⟨zone, group⟩) changed
        (FireState.any_gasReleased_iff.2 gas)
    · have entry := after.symm.trans found
      rw [Part.hearFrame_quiet (Part.frameConfirms_same known entry unchanged)
        (Part.frameConcerns_same entry known role group unchanged)]
      exact ⟨rfl, rfl, rfl, rfl⟩
    · have before : s.toPart.entryBefore f = some o := known
      have concerns : s.toPart.frameConcerns f = true :=
        Part.frameConcerns_of_ductPeer (after.symm.trans found) (s.toPart.ductPeer_iff.2 ⟨zone, peer⟩)
          (by rwa [before])
      dsimp only
      rw [peers, Part.hearFrame_concerned concerns, Part.told_calm (calm no), Part.evaluate_climate,
        Part.evaluate_outputs]
      exact ⟨rfl, rfl⟩
  · have unheard : s.toPart.hearFrame f = s.toPart.heard f :=
      Part.hearFrame_quiet (Part.frameConfirms_of_notZone role) (Part.frameConcerns_of_notZone role fun o known =>
        same o (List.mem_of_find?_eq_some known) (PeerView.find_station known))
    dsimp only
    rw [Part.busAfter, if_pos ⟨addressed, unknown⟩, unheard]
    rfl
  · exact congrArg (fun q => ({ s with
      toPart := { q with clock := s.toPart.clockAfter f, bus := s.toPart.busAfter f } } : State))
      (s.toPart.hearFrame_only f)

end Sys2Proof.Machine
end

section
/-! PROOF. O15: the bands of Table 4-1, the debounce of a loop (R51, R53, R55), and what a conversion makes of the part
where the fire sequencer takes no part in it (R54, R84). -/

namespace Sys2Proof.Machine

/-! ## Classes of a reading (Table 4-1, R52) -/

/-- The band of a class, with its inclusive limits (Table 4-1). -/
def InBand (r : Nat) : LoopClass → Prop
  | .short => r ≤ 47
  | .multi => 48 ≤ r ∧ r ≤ 143
  | .det k => 1 ≤ k ∧ k ≤ 7 ∧ 592 ≤ r + 64 * k ∧ r + 64 * k ≤ 655
  | .trouble => 592 ≤ r ∧ r ≤ 687
  | .normal => 688 ≤ r ∧ r ≤ 815
  | .openLoop => 816 ≤ r

theorem inBand_bandOf (r : Nat) : InBand r (bandOf r) := by
  unfold bandOf
  repeat' refine iteInduction (motive := InBand r) (fun _ => ?_) fun _ => ?_
  all_goals simp only [InBand]; omega

/-- No two bands share a reading. -/
theorem InBand.unique {r : Nat} {c d : LoopClass} (hc : InBand r c) (hd : InBand r d) : c = d := by
  cases c <;> cases d <;> grind [InBand]

theorem bandOf_iff {r : Nat} {c : LoopClass} : bandOf r = c ↔ InBand r c :=
  ⟨fun h => h ▸ inBand_bandOf r, (inBand_bandOf r).unique⟩

section
variable {n r : Nat}

theorem classify_of_detector {k : Nat} (band : bandOf r = .det k) :
    classify n r = if n < k then .trouble else .det k := by
  rw [classify, band]

theorem classify_of_other (band : ∀ k, bandOf r ≠ .det k) : classify n r = bandOf r := by
  unfold classify
  split
  · next k detector => exact absurd detector (band k)
  · rfl

/-- A class other than TROUBLE and the detectors is the band itself (R52). -/
theorem classify_iff_bandOf {c : LoopClass} (trouble : .trouble ≠ c) (detector : ∀ k, .det k ≠ c) :
    classify n r = c ↔ bandOf r = c := by
  by_cases band : ∃ k, bandOf r = .det k
  · obtain ⟨k, band⟩ := band
    rw [classify_of_detector band, band]
    split <;> simp [trouble, detector]
  · rw [classify_of_other (not_exists.1 band)]

/-- A detector is one of those configured (R52). -/
theorem classify_det_iff {k : Nat} : classify n r = .det k ↔ bandOf r = .det k ∧ k ≤ n := by
  by_cases band : ∃ j, bandOf r = .det j
  · obtain ⟨j, band⟩ := band
    rw [classify_of_detector band, band]
    grind
  · rw [classify_of_other (not_exists.1 band)]
    exact ⟨fun here => absurd ⟨k, here⟩ band, And.left⟩

/-- A detector above the configured count is read as TROUBLE (R52). -/
theorem classify_trouble_iff : classify n r = .trouble ↔ bandOf r = .trouble ∨ ∃ k, bandOf r = .det k ∧ n < k := by
  by_cases band : ∃ j, bandOf r = .det j
  · obtain ⟨j, band⟩ := band
    rw [classify_of_detector band, band]
    grind
  · rw [classify_of_other (not_exists.1 band)]
    exact ⟨.inl, fun h => h.resolve_right fun ⟨k, here, _⟩ => band ⟨k, here⟩⟩

/-- The class of a reading by its limits (Table 4-1, R52). -/
theorem classify_iff (n r : Nat) :
    (classify n r = .short ↔ r ≤ 47)
    ∧ (classify n r = .multi ↔ 48 ≤ r ∧ r ≤ 143)
    ∧ (∀ k, classify n r = .det k ↔ 1 ≤ k ∧ k ≤ 7 ∧ k ≤ n ∧ 592 ≤ r + 64 * k ∧ r + 64 * k ≤ 655)
    ∧ (classify n r = .trouble ↔ (592 ≤ r ∧ r ≤ 687)
        ∨ ∃ k, 1 ≤ k ∧ k ≤ 7 ∧ n < k ∧ 592 ≤ r + 64 * k ∧ r + 64 * k ≤ 655)
    ∧ (classify n r = .normal ↔ 688 ≤ r ∧ r ≤ 815)
    ∧ (classify n r = .openLoop ↔ 816 ≤ r) := by
  have plain (c : LoopClass) (trouble : .trouble ≠ c) (detector : ∀ k, .det k ≠ c) : classify n r = c ↔ InBand r c :=
    (classify_iff_bandOf trouble detector).trans bandOf_iff
  refine ⟨plain .short nofun nofun, plain .multi nofun nofun, fun k => ?_, ?_, plain .normal nofun nofun,
    plain .openLoop nofun nofun⟩
  · rw [classify_det_iff, bandOf_iff, InBand]
    tauto
  · simp only [classify_trouble_iff, bandOf_iff, InBand]
    exact or_congr_right (exists_congr fun k => by tauto)

end

theorem LoopClass.alarm_iff {c : LoopClass} : c.alarm = true ↔ c = .multi ∨ ∃ k, c = .det k := by
  cases c <;> simp [LoopClass.alarm]

theorem LoopClass.isFault_iff {c : LoopClass} :
    c.isFault = true ↔ c = .short ∨ c = .trouble ∨ c = .openLoop := by
  cases c <;> simp [LoopClass.isFault]

/-! ## The debounce (R53, R55) -/

namespace LoopState

variable {x : LoopState} {c : LoopClass}

theorem take_same (same : c = x.accepted) : x.take c = { x with candidate := none, count := 0 } := if_pos same

theorem take_replaces (other : c ≠ x.accepted) (new : x.candidate ≠ some c) :
    x.take c = { x with candidate := some c, count := 1 } := by
  rw [take, if_neg other, if_neg new]

theorem take_counts (other : c ≠ x.accepted) (again : x.candidate = some c) (early : x.count < 2) :
    x.take c = { x with count := x.count + 1 } := by
  rw [take, if_neg other, if_pos again, if_neg (by unfold readingsToAccept; omega)]

theorem take_accepts (other : c ≠ x.accepted) (again : x.candidate = some c) (third : 2 ≤ x.count) :
    x.take c = { x with accepted := c, candidate := none, count := 0, fault := c.isFault } := by
  rw [take, if_neg other, if_pos again, if_pos (by unfold readingsToAccept; omega)]

end LoopState

/-! ## A conversion at the part (R51, R54, R84) -/

variable {p : Part} {l : LoopId} {n : Nat}

/-- The loops after a conversion of one that leaves it `x`: its next is 250 ms later (R51). -/
def Part.loopsConverted (p : Part) (l : LoopId) (x : LoopState) : PerLoop LoopState :=
  p.loops.set l { x with nextConversion := p.now + conversionTime }

/-- The part after a conversion, before the fire sequencer hears of it: FIRE_STATE where the loop fault changed (R84). -/
def Part.converted (p : Part) (l : LoopId) (x : LoopState) : Part :=
  if (p.loops.get l).fault = x.fault then p.withLoops (p.loopsConverted l x)
  else (p.withLoops (p.loopsConverted l x)).handFireState

theorem Part.takeLoopReading_eq {x : LoopState}
    (taken : (p.loops.get l).take (classify p.settings.detectors n) = x) :
    p.takeLoopReading l n =
      if (p.loops.get l).accepted = x.accepted then p.converted l x
      else (p.converted l x).takeLoopChange l (p.loops.get l).accepted x.accepted := by
  subst taken
  rfl

/-- A conversion that changes neither the accepted class nor the fault is the debounce and nothing else. -/
theorem Part.takeLoopReading_still {x : LoopState}
    (taken : (p.loops.get l).take (classify p.settings.detectors n) = x)
    (accepted : (p.loops.get l).accepted = x.accepted) (fault : (p.loops.get l).fault = x.fault) :
    p.takeLoopReading l n = p.withLoops (p.loopsConverted l x) := by
  rw [Part.takeLoopReading_eq taken, if_pos accepted, Part.converted, if_pos fault]

/-- The part after a conversion, with the bus port spelled out (R84). -/
theorem Part.converted_eq (x : LoopState) : p.converted l x = { p with
    loops := p.loopsConverted l x
    bus := if (p.loops.get l).fault = x.fault then p.bus
      else p.bus.handed (newFrame .fire 63#6 (.fireState (p.withLoops (p.loopsConverted l x)).fireContent)) } := by
  unfold Part.converted
  split
  · rfl
  · exact Part.handFrame_eq _ _

theorem Part.converted_loops (x : LoopState) : (p.converted l x).loops = p.loopsConverted l x :=
  congrArg Part.loops (Part.converted_eq x)

theorem Part.converted_fire (x : LoopState) : (p.converted l x).fire = p.fire :=
  congrArg (·.fire) (Part.converted_eq x)

theorem Part.takeLoopReading_loops {x : LoopState}
    (taken : (p.loops.get l).take (classify p.settings.detectors n) = x) :
    (p.takeLoopReading l n).loops = p.loopsConverted l x := by
  rw [Part.takeLoopReading_eq taken]
  split
  · exact Part.converted_loops x
  · obtain ⟨_, _, loops, _⟩ := (p.converted l x).takeLoopChange_frame l (p.loops.get l).accepted x.accepted
    exact loops.trans (Part.converted_loops x)

theorem Part.takeLoopReading_startUp (p : Part) (l : LoopId) (n : Nat) : (p.takeLoopReading l n).startUp = p.startUp := by
  obtain ⟨_, _, _, _, _, _, _, startUp, _⟩ := p.takeLoopReading_frame l n
  exact startUp

theorem Part.takeLoopReading_only (p : Part) (l : LoopId) (n : Nat) :
    p.takeLoopReading l n = { p with
      loops := (p.takeLoopReading l n).loops, fire := (p.takeLoopReading l n).fire
      climate := (p.takeLoopReading l n).climate, hatch := (p.takeLoopReading l n).hatch
      custody := (p.takeLoopReading l n).custody, outputs := (p.takeLoopReading l n).outputs
      bus := (p.takeLoopReading l n).bus } := by
  have frame := p.takeLoopReading_frame l n
  generalize p.takeLoopReading l n = q at frame
  obtain ⟨moisture, substitution, inputs, exceptions, peers, clock, occupancy, startUp, draws⟩ := frame
  rw [← moisture, ← substitution, ← inputs, ← exceptions, ← peers, ← clock, ← occupancy, ← startUp, ← draws]

/-- A class that is no alarm, or a zone past ALERT, is nothing to the fire sequencer (R54, R68, R70). -/
theorem Part.takeLoopChange_calm {old new : LoopClass} (calm : new.alarm = false ∨ p.fire.state.sealed = true) :
    p.takeLoopChange l old new = p := by
  rcases calm with quiet | past
  · have multi : new ≠ .multi := by
      rintro rfl
      cases quiet
    unfold Part.takeLoopChange
    split <;> simp [quiet, multi]
  · unfold Part.takeLoopChange
    split <;> simp_all [FireState.sealed]

/-! ## The marked reply through a conversion (R182) -/

theorem Part.enterAlert_covers (h : p.bus.coversReply) (alarm : AlarmRecord) : (p.enterAlert alarm).bus.coversReply :=
  have changed := Part.changeFire_covers h _
  Part.ite_covers (Part.confirmFire_covers changed) changed

theorem Part.takeLoopChange_covers (h : p.bus.coversReply) (old new : LoopClass) :
    (p.takeLoopChange l old new).bus.coversReply := by
  unfold Part.takeLoopChange
  dsimp only
  split
  · exact Part.ite_covers (Part.ite_covers (Part.enterPreDischarge_covers h _ _) (Part.enterAlert_covers h _)) h
  · exact Part.ite_covers (Part.confirmFire_covers h)
      (Part.ite_covers (Part.ite_covers h (Part.confirmFire_covers h)) h)
  all_goals exact h

theorem Part.takeLoopReading_covers (h : p.bus.coversReply) (l : LoopId) (n : Nat) :
    (p.takeLoopReading l n).bus.coversReply := by
  have converted (x : LoopState) : (p.converted l x).bus.coversReply :=
    Part.ite_covers h (.inr (Part.handFireState_shields (p := p.withLoops _) h))
  rw [Part.takeLoopReading_eq rfl]
  exact Part.ite_covers (converted _) (Part.takeLoopChange_covers (converted _) _ _)

/-- A conversion that is due, at a part that is ready (R51). -/
theorem State.ready.exec_loopReading {s : State} (ready : s.ready) {l : LoopId} {reading : BitVec 10}
    (due : (s.loops.get l).nextConversion ≤ s.clock.localTime) :
    exec (.loopReading l reading) s = .next { s with toPart := s.toPart.takeLoopReading l reading.toNat } :=
  ready.become_timed_of_shows (due := fun p => p.conversionDue l) (f := fun p => p.takeLoopReading l reading.toNat)
    (decide_eq_true due) (s.toPart.takeLoopReading_startUp l _)
    fun holds => (Part.takeLoopReading_covers (.inl (holds.mono (by decide))) l _).showsReply

/-- Settles O15: `classify_iff`, then the four outcomes of the debounce (`LoopState.take`). -/
theorem loopReadingsAreDebounced : Obligations.LoopReadingsAreDebounced := by
  refine ⟨fun n r _ => classify_iff n r, fun c => ⟨LoopClass.alarm_iff, LoopClass.isFault_iff⟩,
    fun s l reading ready due => ?_⟩
  intro cls old later taken outcome
  have run : outcome = .next { s with toPart := s.toPart.takeLoopReading l reading.toNat } := ready.exec_loopReading due
  have still {x : LoopState} (debounced : old.take cls = x) (accepted : old.accepted = x.accepted)
      (fault : old.fault = x.fault) : outcome = .next { s with loops := later x } := by
    rw [run, Part.takeLoopReading_still debounced accepted fault]
    rfl
  refine ⟨fun same => still (LoopState.take_same same) rfl rfl,
    fun other new => still (LoopState.take_replaces other new) rfl rfl,
    fun other again early => still (LoopState.take_counts other again early) rfl rfl,
    fun other again third => ⟨_, run, ?_, ?_, fun calm => ?_⟩⟩
  · exact Part.takeLoopReading_loops (LoopState.take_accepts other again third)
  · exact congrArg (fun q => ({ s with toPart := q } : State)) (s.toPart.takeLoopReading_only l reading.toNat)
  · have debounced := LoopState.take_accepts other again third
    have made := (Part.takeLoopReading_eq (p := s.toPart) (n := reading.toNat) debounced).trans (if_neg (Ne.symm other))
    rw [Part.takeLoopChange_calm (by rwa [Part.converted_fire])] at made
    exact congrArg (fun q => ({ s with toPart := q } : State)) (made.trans (Part.converted_eq _))

end Sys2Proof.Machine
end

section
/-! PROOF. O17: a level change of an input, at a part that acts and at one that does not (R57, R58, log 4). -/

namespace Sys2Proof.Machine

/-- An event that leaves the start-up unit begins no start: the machine is the part it makes. -/
theorem State.become_of_startUp {s : State} {p : Part} (startUp : p.startUp = s.startUp) :
    s.become p = .next { s with toPart := p } := by
  have noStart : (p.starting && !s.toPart.starting) = false := by
    rw [Part.starting_eq, Part.starting_eq, startUp]
    exact Bool.and_not_self _
  rw [State.become, if_neg (by simp [noStart])]

/-- The level on the wire that an accepted level corresponds to, by polarity (R58). -/
theorem acceptedElectrical_iff {c : Settings} {i : InputId} {accepted : Option Bool} {high : Bool} :
    acceptedElectrical c i accepted = some high ↔ accepted = some (high != c.polarity.getLsbD (inputNumber i)) := by
  rw [acceptedElectrical, activeLow, Option.map_eq_some_iff]
  constructor
  · rintro ⟨level, rfl, rfl⟩
    simp
  · rintro rfl
    exact ⟨_, rfl, by simp⟩

/-! ## The three cases of a level change (R57) -/

namespace InputState

variable {x : InputState} {accepted : Option Bool} {high : Bool} {now : Time}

theorem levelChanges_pending (change : x.electrical ≠ high) (pending : x.pendingLevel = some high) :
    x.levelChanges accepted high now = { x with electrical := high } := by
  rw [levelChanges, if_neg change, if_pos pending]

theorem levelChanges_back (change : x.electrical ≠ high) (other : x.pendingLevel ≠ some high)
    (back : accepted = some high) :
    x.levelChanges accepted high now = { x with electrical := high, pendingLevel := none, holdExpiry := none } := by
  rw [levelChanges, if_neg change, if_neg other, if_pos back]

theorem levelChanges_new (change : x.electrical ≠ high) (other : x.pendingLevel ≠ some high)
    (new : accepted ≠ some high) :
    x.levelChanges accepted high now
      = { x with electrical := high, pendingLevel := some high, holdExpiry := some (now + holdTime) } := by
  rw [levelChanges, if_neg change, if_neg other, if_neg new]

end InputState

/-! ## INPUT_LEVEL_CHANGE -/

theorem exec_inputLevelChange (s : State) (i : InputId) (high : Bool) :
    exec (.inputLevelChange i high) s
      = s.become (if s.toPart.running then s.toPart.event (fun p => p.takeLevelChange i high)
          else s.toPart.wireChanges i high) := rfl

theorem State.exec_inputLevelChange_held {s : State} (held : s.toPart.running = false) (i : InputId) (high : Bool) :
    exec (.inputLevelChange i high) s = .next { s with toPart := s.toPart.wireChanges i high } := by
  rw [exec_inputLevelChange, held, if_neg Bool.false_ne_true]
  exact State.become_of_startUp (by simp)

theorem State.ready.exec_inputLevelChange {s : State} (ready : s.ready) (i : InputId) (high : Bool) :
    exec (.inputLevelChange i high) s = .next { s with toPart := s.toPart.takeLevelChange i high } := by
  rw [Machine.exec_inputLevelChange, if_pos ready.1]
  exact ready.become_event (by simp) fun holds => by simpa using holds.mono (by decide)

/-- Settles O17: the branches of `InputState.levelChanges`, with the level on the wire taken by polarity. -/
theorem inputLevelsWaitForTheirHold : Obligations.InputLevelsWaitForTheirHold := by
  intro s i high old low outcome becomes
  refine ⟨fun held => State.exec_inputLevelChange_held held i high, fun ready change => ?_⟩
  have taken {x : InputState}
      (made : old.levelChanges (acceptedElectrical s.toPart.settings i old.accepted) high s.toPart.now = x) :
      becomes x := made ▸ ready.exec_inputLevelChange i high
  exact ⟨fun pending => taken (InputState.levelChanges_pending change pending),
    fun other back => taken (InputState.levelChanges_back change other (acceptedElectrical_iff.2 back)),
    fun other new => taken (InputState.levelChanges_new change other (mt acceptedElectrical_iff.1 new))⟩

end Sys2Proof.Machine
end

section
/-! PROOF. O19: ACK_EVENTS at the input latch unit, and a request from a role it is not taken from (R62, R63, R158). -/

namespace Sys2Proof.Machine

variable {s : State} {src : Station} {role : Role}

/-- A request from a role that may not send it is answered BAD_ROLE, with the role (R158 step 3). -/
theorem State.request_badRole (h : s.takesFrom src) {r : Request} (refused : r.kind.takenFrom role = false) :
    s.request src role r = .next (s.answered src r.kind .badRole (.role role)) := by
  have answer : s.toPart.takeRequest src role r = s.toPart.reply (requester src r) .badRole (.role role) := by
    rw [Part.takeRequest_eq h, Part.answer, refused]
    rfl
  have kept := h.1.reply_restartReplyLeft (requester src r) .badRole (.role role)
  rw [State.request, State.become_event h.1 (answer ▸ kept) (by simpa [answer] using h.1.inProgress), answer]
  exact congrArg Host.Outcome.next (congrArg (State.mk · s.pending) (s.answered_toPart src r.kind _ _).symm)

theorem ackEvents_takenFrom : RequestKind.ackEvents.takenFrom role = true ↔ role = .console ∨ role = .service := by
  simp [RequestKind.takenFrom]

/-- The inputs after ACK_EVENTS: the named latches cleared, everything else of each input kept (R62). -/
theorem Part.clearLatches_get (p : Part) (named : Byte) (i : InputId) :
    (p.clearLatches named).inputs.get i = { p.inputs.get i with
      latch := (p.inputs.get i).latch && !named.getLsbD (inputNumber i) } :=
  PerInput.get_of _ i

/-- Settles O19: the owner's reply to ACK_EVENTS, and the role test before it. -/
theorem ackEventsClears : Obligations.AckEventsClears := by
  refine ⟨fun s src role named h from_ => ?_, fun s src role named h console service => ?_⟩
  · exact ⟨_, State.request_answered (u := { s with toPart := (s.toPart.clearLatches named).acknowledgeFaults }) h
      (ackEvents_takenFrom.2 from_) rfl rfl (by simp) (by simp) rfl rfl, s.toPart.clearLatches_get named, rfl⟩
  · exact State.request_badRole h (r := .ackEvents named)
      (Bool.eq_false_iff.2 (mt ackEvents_takenFrom.1 (not_or.2 ⟨console, service⟩)))

end Sys2Proof.Machine
end

section
/-! PROOF. What an event can do to the fire sequencer and its release output, said once (`FireSequencer.Turns`): the
transitions of Table 5-3 with the alarm record, the release pulse end and OUT2 (R66 to R83). -/

namespace Sys2Proof.Machine

variable {p q r : Part}

/-! ## The turns of the sequencer -/

/-- What one event can make of the sequencer `f` and of OUT2 `o` at this local time and archive minute: the fire state
stays; it moves on from an alarm; it enters HOLD, SPENT or QUIET. -/
inductive FireSequencer.Turns (f : FireSequencer) (o : DigitalOutput) (now : Time) (minute : Minute) :
    FireSequencer → DigitalOutput → Prop where
  | stays {g : FireSequencer} {u : DigitalOutput} (state : g.state = f.state) (alarm : g.alarm = f.alarm)
      (release : g.pulseEnd = f.pulseEnd ∧ u = o ∨ g.pulseEnd = none ∧ u.state ≠ .drivenOn) : Turns f o now minute g u
  | burns {g : FireSequencer} {u : DigitalOutput} (before : f.state = .quiet ∨ f.state = .alert ∨ f.state = .preDischarge)
      (after : g.state = .alert ∨ g.state = .preDischarge ∨ g.state = .discharged)
      (written : f.state = .quiet → ∃ x, g.alarm = some x ∧ x.minute = minute)
      (kept : f.state ≠ .quiet → g.alarm = f.alarm)
      (release : u = o ∨ g.state = .discharged ∧ g.pulseEnd = some (now + pulseTime)) : Turns f o now minute g u
  | holds {g : FireSequencer} {u : DigitalOutput} (before : f.state = .discharged) (after : g.state = .hold)
      (kept : g.alarm = f.alarm) (release : u.state ≠ .drivenOn) : Turns f o now minute g u
  | spends {g : FireSequencer} (before : f.state = .hold) (after : g.state = .spent) (kept : g.alarm = f.alarm) :
      Turns f o now minute g o
  | resets {g : FireSequencer} (before : f.state = .alert ∨ f.state = .spent) (after : g.state = .quiet)
      (cleared : g.alarm = none) : Turns f o now minute g o

/-- `q` is what the blocks may make of `p` in an event: the start-up unit stays, but for a restart that becomes pending,
no time passes, and the sequencer makes one of its turns; no RESTART is taken in an event that moves the fire state. -/
structure Part.FireTurns (p q : Part) : Prop where
  startUp : q.startUp = { p.startUp with restartDeadline := q.startUp.restartDeadline }
  now : q.now = p.now
  pending : q.startUp.restartDeadline = p.startUp.restartDeadline ∨ q.fire.state = p.fire.state
  turn : p.fire.Turns p.outputs.out2 p.now p.minute q.fire q.outputs.out2

/-- `q` differs from `p` in nothing that the turns of the sequencer show. -/
structure Part.SameFire (p q : Part) : Prop where
  fire : q.fire = p.fire
  out2 : q.outputs.out2 = p.outputs.out2
  now : q.now = p.now
  startUp : q.startUp = p.startUp

namespace Part.SameFire

theorem refl (p : Part) : p.SameFire p := ⟨rfl, rfl, rfl, rfl⟩

theorem trans (h : p.SameFire q) (k : q.SameFire r) : p.SameFire r :=
  ⟨k.fire.trans h.fire, k.out2.trans h.out2, k.now.trans h.now, k.startUp.trans h.startUp⟩

theorem ite {c : Prop} [Decidable c] (yes : p.SameFire q) (no : p.SameFire r) : p.SameFire (if c then q else r) := by
  split
  · exact yes
  · exact no

theorem ofHatch (h : p.HatchActs q) : p.SameFire q := by
  induction h with
  | refl => exact refl p
  | requestLock _ l r ih =>
    exact ih.trans ⟨by simp, Part.requestOutput_other _ r (o := lockOutput l) (u := .out2) (out2_ne_lockOutput l),
      by simp [Part.now_eq], by simp⟩
  | evaluate _ ih => exact ih.trans ⟨by simp, (Part.evaluate_fireOutputs).1, by simp [Part.now_eq], by simp⟩
  | handFrame _ f _ ih => exact ih.trans ⟨by simp, by simp, by simp [Part.now_eq], by simp⟩
  | _ _ _ ih => exact ih.trans ⟨rfl, rfl, rfl, rfl⟩

theorem evaluate (p : Part) : p.SameFire p.evaluate := ofHatch (.evaluate .refl)

theorem handFrame (p : Part) (f : TxFrame) : p.SameFire (p.handFrame f) :=
  ⟨by simp, by simp, by simp [Part.now_eq], by simp⟩

/-- A change of blocks that the turns do not show. -/
theorem others (frame : q.fire = p.fire ∧ q.outputs = p.outputs ∧ q.clock = p.clock ∧ q.startUp = p.startUp) :
    p.SameFire q := by
  obtain ⟨fire, outputs, clock, startUp⟩ := frame
  exact ⟨fire, congrArg _ outputs, congrArg ArchiveClock.localTime clock, startUp⟩

end Part.SameFire

namespace Part.FireTurns

/-- Where the sequencer is not touched. -/
theorem ofSame (h : p.SameFire q) : p.FireTurns q where
  startUp := by rw [h.startUp]
  now := h.now
  pending := .inl (by rw [h.startUp])
  turn := .stays (by rw [h.fire]) (by rw [h.fire]) (.inl ⟨by rw [h.fire], h.out2⟩)

theorem refl (p : Part) : p.FireTurns p := ofSame (.refl p)

theorem ite {c : Prop} [Decidable c] (yes : p.FireTurns q) (no : p.FireTurns r) : p.FireTurns (if c then q else r) := by
  split
  · exact yes
  · exact no

/-- A turn of a part that differs from `p` in nothing that the turns show, at the same archive minute. -/
theorem before (h : p.SameFire q) (minute : q.minute = p.minute) (k : q.FireTurns r) : p.FireTurns r where
  startUp := by rw [k.startUp, h.startUp]
  now := k.now.trans h.now
  pending := by rw [← h.startUp, ← h.fire]; exact k.pending
  turn := by rw [← h.fire, ← h.out2, ← h.now, ← minute]; exact k.turn

/-- What comes after a turn and does not touch the sequencer. -/
theorem after (h : p.FireTurns q) (k : q.SameFire r) : p.FireTurns r where
  startUp := by rw [k.startUp]; exact h.startUp
  now := k.now.trans h.now
  pending := by rw [k.startUp, k.fire]; exact h.pending
  turn := by rw [k.fire, k.out2]; exact h.turn

theorem reply (h : p.FireTurns q) (a : Asker) (st : Status) (d : ReplyData) : p.FireTurns (q.reply a st d) :=
  h.after (.handFrame q _)

end Part.FireTurns

/-! ## A change of the fire state (R66) -/

theorem FireSequencer.entered_alarm (f : FireSequencer) (low : Bool) : (f.entered low).alarm = f.alarm := by
  unfold FireSequencer.entered; split <;> rfl

/-- A change of the fire state drives no release. -/
theorem Part.changeFire_out2 (p : Part) (f : FireSequencer) : (p.changeFire f).outputs.out2 = p.outputs.out2 :=
  Part.changeFire_output (o := .out2) f out2_ne_lockOutput nofun nofun

theorem Part.changeFire_now (p : Part) (f : FireSequencer) : (p.changeFire f).now = p.now := by simp [Part.now_eq]

theorem Part.changeFire_alarm (p : Part) (f : FireSequencer) : (p.changeFire f).fire.alarm = f.alarm := by
  rw [Part.changeFire_fire, FireSequencer.entered_alarm]

theorem Part.changeFire_state (p : Part) (f : FireSequencer) : (p.changeFire f).fire.state = f.state := by
  rw [Part.changeFire_fire, FireSequencer.entered_state]

/-! ## The way from an alarm to DISCHARGED (R68 to R77) -/

/-- `q` has come from `p` on the way from an alarm to DISCHARGED, with this alarm record. -/
structure Part.Burns (p q : Part) (alarm : Option AlarmRecord) : Prop where
  startUp : q.startUp = p.startUp
  now : q.now = p.now
  state : q.fire.state = .alert ∨ q.fire.state = .preDischarge ∨ q.fire.state = .discharged
  alarm : q.fire.alarm = alarm
  release : q.outputs.out2 = p.outputs.out2
    ∨ q.fire.state = .discharged ∧ q.fire.pulseEnd = some (p.now + pulseTime)

namespace Part.Burns

variable {alarm : Option AlarmRecord}

theorem changeFire (p : Part) (f : FireSequencer) (state : f.state = .alert ∨ f.state = .preDischarge) :
    p.Burns (p.changeFire f) f.alarm where
  startUp := by simp
  now := p.changeFire_now f
  state := by
    rw [p.changeFire_state]
    exact state.imp_right .inl
  alarm := p.changeFire_alarm f
  release := .inl (p.changeFire_out2 f)

theorem discharge (p : Part) : p.Burns p.discharge p.fire.alarm where
  startUp := by simp
  now := by simp [Part.now_eq]
  state := by rw [Part.discharge_fire]; exact .inr (.inr rfl)
  alarm := by rw [Part.discharge_fire]
  release := by rw [Part.discharge_fire]; exact .inr ⟨rfl, rfl⟩

/-- The next stretch of the way. -/
theorem after (same : q.startUp = p.startUp) (now : q.now = p.now) (out2 : q.outputs.out2 = p.outputs.out2)
    (h : q.Burns r alarm) : p.Burns r alarm :=
  ⟨h.startUp.trans same, h.now.trans now, h.state, h.alarm, by rw [← out2, ← now]; exact h.release⟩

theorem after_changeFire (f : FireSequencer) (h : (p.changeFire f).Burns r (p.changeFire f).fire.alarm) :
    p.Burns r f.alarm :=
  p.changeFire_alarm f ▸ h.after (by simp) (p.changeFire_now f) (p.changeFire_out2 f)

theorem ite {c : Prop} [Decidable c] (yes : p.Burns q alarm) (no : p.Burns r alarm) :
    p.Burns (if c then q else r) alarm := by
  split
  · exact yes
  · exact no

theorem enterPreDischarge (p : Part) (n : Nat) (alarm : Option AlarmRecord) :
    p.Burns (p.enterPreDischarge n alarm) alarm :=
  .ite (after_changeFire (p.preDischarge n alarm) (discharge _)) (changeFire p (p.preDischarge n alarm) (.inr rfl))

theorem confirmFire (p : Part) : p.Burns p.confirmFire p.fire.alarm := enterPreDischarge p _ _

theorem enterAlert (p : Part) (x : AlarmRecord) : p.Burns (p.enterAlert x) (some x) :=
  .ite (after_changeFire { p.fire with state := .alert, alarm := some x } (confirmFire _)) (changeFire p _ (.inl rfl))

/-- The way begins in QUIET with a record written now, or goes on with the record there is (R67). -/
theorem turns (h : p.Burns q alarm) (before : p.fire.state = .quiet ∨ p.fire.state = .alert ∨ p.fire.state = .preDischarge)
    (written : p.fire.state = .quiet → ∃ x, alarm = some x ∧ x.minute = p.minute)
    (kept : p.fire.state ≠ .quiet → alarm = p.fire.alarm) : p.FireTurns q where
  startUp := by rw [h.startUp]
  now := h.now
  pending := .inl (by rw [h.startUp])
  turn := .burns before h.state (h.alarm ▸ written) (h.alarm ▸ kept) h.release

theorem turns_quiet {x : AlarmRecord} (h : p.Burns q (some x)) (state : p.fire.state = .quiet)
    (minute : x.minute = p.minute) : p.FireTurns q :=
  h.turns (.inl state) (fun _ => ⟨x, rfl, minute⟩) fun burns => absurd state burns

theorem turns_alert (h : p.Burns q p.fire.alarm) (state : p.fire.state = .alert ∨ p.fire.state = .preDischarge) :
    p.FireTurns q :=
  h.turns (.inr state) (fun quiet => by rcases state with st | st <;> cases st.symm.trans quiet) fun _ => rfl

end Part.Burns

/-- OUT2 driven off, fitted or not (R170). -/
theorem Part.requestOff_out2 (p : Part) : (p.requestOutput .out2 .drivenOff).outputs.out2.state ≠ .drivenOn := by
  rw [show (p.requestOutput .out2 .drivenOff).outputs.out2 = _ from p.requestOutput_self .out2 .drivenOff]
  unfold DigitalOutput.take
  split <;> simp [OutputState.take]

/-! ## The rules of the sequencer (R68 to R83) -/

namespace Part.FireTurns

/-- The sequencer changes, its state, alarm record and release pulse do not. -/
theorem withFire (f : FireSequencer) (state : f.state = p.fire.state := by rfl) (alarm : f.alarm = p.fire.alarm := by rfl)
    (pulse : f.pulseEnd = p.fire.pulseEnd := by rfl) : p.FireTurns (p.withFire f) :=
  ⟨rfl, rfl, .inl rfl, .stays state alarm (.inl ⟨pulse, rfl⟩)⟩

theorem updateFire (f : FireSequencer) (state : f.state = p.fire.state := by rfl) (alarm : f.alarm = p.fire.alarm := by rfl)
    (pulse : f.pulseEnd = p.fire.pulseEnd := by rfl) : p.FireTurns (p.updateFire f) :=
  (withFire f state alarm pulse).after (.handFrame _ _)

theorem discharge (state : p.fire.state = .preDischarge) : p.FireTurns p.discharge :=
  (Burns.discharge p).turns_alert (.inr state)

/-- A countdown that has changed, and expires where it stands at 0 (R72, R73). -/
theorem expireAtZero (h : p.FireTurns q) (startUp : q.startUp = p.startUp) (out2 : q.outputs.out2 = p.outputs.out2)
    (alarm : q.fire.alarm = p.fire.alarm) (state : p.fire.state = .preDischarge) : p.FireTurns q.expireAtZero := by
  have burns : p.Burns q.discharge q.fire.alarm := (Burns.discharge q).after startUp h.now out2
  exact .ite ((alarm ▸ burns).turns_alert (.inr state)) h

theorem confirmFire (state : p.fire.state = .alert) : p.FireTurns p.confirmFire :=
  (Burns.confirmFire p).turns_alert (.inl state)

theorem countdownSecond (p : Part) : p.FireTurns p.countdownSecond := by
  unfold Part.countdownSecond
  split
  · next counting => exact (withFire _).expireAtZero rfl rfl rfl counting.1
  · exact refl p

theorem takeLoopChange (p : Part) (l : LoopId) (old new : LoopClass) : p.FireTurns (p.takeLoopChange l old new) := by
  unfold Part.takeLoopChange
  dsimp only
  split
  · next state =>
    exact .ite (.ite ((Burns.enterPreDischarge p _ _).turns_quiet state rfl) ((Burns.enterAlert p _).turns_quiet state rfl))
      (refl p)
  · next state => exact .ite (confirmFire state) (.ite (.ite (refl p) (confirmFire state)) (refl p))
  all_goals exact refl p

theorem takeNeighbourChange (p : Part) (st : FireState) : p.FireTurns (p.takeNeighbourChange st) := by
  unfold Part.takeNeighbourChange
  split
  · next confirms => exact confirmFire confirms.1
  · exact refl p

theorem manualRelease (p : Part) : p.FireTurns p.manualRelease := by
  unfold Part.manualRelease
  dsimp only
  split
  · next state => exact (Burns.enterPreDischarge p _ _).turns_quiet state rfl
  · next state => exact (Burns.enterPreDischarge p _ _).turns_alert (.inl state)
  · next state =>
    exact .ite (refl p) ((updateFire _).expireAtZero (by simp) (by simp [Part.updateFire])
      (by simp [Part.updateFire]) state)
  all_goals exact refl p

theorem takeAbort (p : Part) (active : Bool) : p.FireTurns (p.takeAbort active) :=
  .ite (.ite (.ite (refl p) (updateFire _)) (.ite (updateFire _) (refl p))) (refl p)

theorem setCylinderLow (p : Part) (low : Bool) : p.FireTurns (p.setCylinderLow low) := .ite (refl p) (updateFire _)

theorem enterHold (unconfirmed : Bool) (state : p.fire.state = .discharged) (startUp : q.startUp = p.startUp := by rfl)
    (now : q.now = p.now := by rfl) (alarm : q.fire.alarm = p.fire.alarm := by rfl) :
    p.FireTurns (q.enterHold unconfirmed) where
  startUp := by simp [startUp]
  now := (show (q.enterHold unconfirmed).now = q.now by simp [Part.now_eq]).trans now
  pending := .inl (by simp [startUp])
  turn := .holds state ((Part.changeFire_state _ _).trans rfl) ((Part.changeFire_alarm _ _).trans alarm)
    (by rw [Part.enterHold, Part.changeFire_out2]; exact q.requestOff_out2)

theorem pulseEnds (state : p.fire.state = .discharged) : p.FireTurns p.pulseEnds := by
  refine .ite (enterHold _ state) ⟨by simp, by simp [Part.now_eq], .inl (by simp), ?_⟩
  exact .stays rfl rfl (.inr ⟨rfl, p.requestOff_out2⟩)

theorem holdEnds (state : p.fire.state = .hold) : p.FireTurns p.holdEnds where
  startUp := by simp
  now := by simp [Part.now_eq]
  pending := .inl (by simp)
  turn := by
    rw [Part.holdEnds, Part.changeFire_out2]
    exact .spends state (Part.changeFire_state _ _) (Part.changeFire_alarm _ _)

theorem takePressure (p : Part) (normal : Bool) : p.FireTurns (p.takePressure normal) := by
  refine .ite (setCylinderLow p _) ?_
  split
  · exact setCylinderLow p _
  · exact setCylinderLow p _
  · next state => exact .ite (enterHold _ state) (withFire _)
  all_goals exact refl p

theorem takeCancelDischarge (p : Part) (a : Asker) : p.FireTurns (p.takeCancelDischarge a) := by
  unfold Part.takeCancelDischarge
  split
  · exact (refl p).reply _ _ _
  · next state =>
    refine .ite ((refl p).reply _ _ _) (reply ?_ _ _ _)
    exact (Burns.changeFire p { p.fire with state := .alert, paused := false, countdown := none } (.inl rfl)).turns_alert
      (.inr (not_not.1 state))

theorem takeResetFire (p : Part) (a : Asker) : p.FireTurns (p.takeResetFire a) := by
  unfold Part.takeResetFire
  split
  · exact (refl p).reply _ _ _
  · next resets =>
    refine reply ⟨by simp, by simp [Part.now_eq], .inl (by simp), ?_⟩ _ _ _
    rw [Part.changeFire_out2]
    simp only [Bool.or_eq_true, not_or, Bool.not_eq_true', Bool.not_eq_false] at resets
    exact .resets (FireState.resettable_iff.1 resets.1.1) (Part.changeFire_state _ _) (Part.changeFire_alarm _ _)

end Part.FireTurns

end Sys2Proof.Machine
end

section
/-! PROOF. The turns of the fire sequencer through inputs, loops, the second count, requests and frames. -/

namespace Sys2Proof.Machine

variable {p q r : Part}

namespace Part.SameFire

/-! ## Requests of the hatch (R119, R121 to R133) -/

section
variable (h : p.SameFire q)
include h

theorem hatch (k : q.HatchActs r) : p.SameFire r := h.trans (ofHatch k)

theorem reply (a : Asker) (st : Status) (d : ReplyData) : p.SameFire (q.reply a st d) := h.trans (.handFrame q _)

theorem refuseSequence (a : Asker) (x : HatchContext) : p.SameFire (q.refuseSequence a x) := h.reply _ _ _

theorem takeOpenInner (a : Asker) : p.SameFire (q.takeOpenInner a) := by
  have opened := h.hatch (((HatchActs.refl.withHatch
    { q.hatch with returnState := some q.hatch.state, startTally := .no }).unlock .inner).setHatchState .innerAccess)
  exact .ite (h.reply _ _ _) (.ite (h.reply _ _ _) (.ite (h.reply _ _ _) (.ite (h.reply _ _ _) (opened.reply _ _ _))))

theorem takeInboundAttest (a : Asker) (x : HandoverRequest) : p.SameFire (q.takeInboundAttest a x) :=
  (h.hatch ((HatchActs.refl.withHatch _).setHatchState _).evaluate).reply _ _ _

theorem takeStep (a : Asker) (x : HandoverRequest) : p.SameFire (q.takeStep a x) := by
  unfold Part.takeStep
  split
  · exact h.takeInboundAttest a _
  · exact (h.hatch (((HatchActs.refl.withHatch _).setHatchState _).unlockWithNotice _ _ _)).reply _ _ _
  · exact (h.hatch (.withHatch .refl _)).reply _ _ _

theorem takeWhileOpen (a : Asker) (x : HandoverRequest) : p.SameFire (q.takeWhileOpen a x) :=
  .ite (h.reply _ _ _) (.ite (h.takeStep a x)
    (.ite ((h.reply _ _ _).hatch (.abandon .refl _)) ((h.refuseSequence _ _).hatch (.abandon .refl _))))

theorem takePresentOut (a : Asker) (b n c : Nat) : p.SameFire (q.takePresentOut a b n c) :=
  .ite (h.reply _ _ _) (.ite (h.reply _ _ _) (.ite (h.reply _ _ _) (.ite (h.refuseSequence _ _)
    ((h.hatch (.withHatch .refl _)).reply _ _ _))))

theorem takePresentIn (a : Asker) (b n c : Nat) : p.SameFire (q.takePresentIn a b n c) :=
  .ite (h.reply _ _ _) (.ite (h.reply _ _ _) (.ite (h.reply _ _ _) (.ite (h.reply _ _ _)
    ((h.hatch ((((HatchActs.refl.withCustody _).withHatch _).setHatchState _).unlockWithNotice _ _ _)).reply _ _ _))))

theorem takeWhileClosed (a : Asker) (x : HandoverRequest) : p.SameFire (q.takeWhileClosed a x) := by
  unfold Part.takeWhileClosed
  split
  · exact h.takePresentOut a _ _ _
  · exact h.takePresentIn a _ _ _
  · exact .ite (.ite (h.reply _ _ _) (.ite (h.reply _ _ _) (h.takeInboundAttest _ _))) (h.refuseSequence _ _)
  · exact .ite (.ite (h.reply _ _ _) ((h.hatch ((HatchActs.refl.withHatch _).unlockWithNotice _ _ _)).reply _ _ _))
      (h.refuseSequence _ _)
  · exact h.refuseSequence _ _

theorem takeHandover (a : Asker) (x : HandoverRequest) : p.SameFire (q.takeHandover a x) :=
  .ite (h.reply _ _ _) (.ite (h.takeWhileOpen a x) (h.takeWhileClosed a x))

end

/-! ## The governor and the scan (R35, R47, R48) -/

theorem setDamperFault (fault : Bool) : p.SameFire (p.setDamperFault fault) := others (by simp)

theorem superviseSwitch (closed : Bool) : p.SameFire (p.superviseSwitch closed) := others (by simp)

theorem withClimate (x : ClimateGovernor) : p.SameFire (p.withClimate x) := ⟨rfl, rfl, rfl, rfl⟩

theorem withMoisture (x : MoistureUnit) : p.SameFire (p.withMoisture x) := ⟨rfl, rfl, rfl, rfl⟩

theorem withPeers (x : PeerView) : p.SameFire (p.withPeers x) := ⟨rfl, rfl, rfl, rfl⟩

theorem withInputs (x : PerInput InputState) : p.SameFire (p.withInputs x) := ⟨rfl, rfl, rfl, rfl⟩

/-- A request that neither fire nor the start-up unit takes. -/
theorem handToOwner (a : Asker) {x : Request} (cancel : x ≠ .cancelDischarge) (reset : x ≠ .resetFire)
    (restart : x ≠ .restart) : p.SameFire (p.handToOwner a x) := by
  cases x with
  | cancelDischarge => exact absurd rfl cancel
  | resetFire => exact absurd rfl reset
  | restart => exact absurd rfl restart
  | present _ _ _ _ => exact (refl p).takeHandover a _
  | attest _ _ => exact (refl p).takeHandover a _
  | accept _ => exact (refl p).takeHandover a _
  | withdraw _ => exact (refl p).takeHandover a _
  | openInner => exact (refl p).takeOpenInner a
  | _ => exact others (by simp [Part.handToOwner])

theorem takePlantInput (faulted : Bool) : p.SameFire (p.takePlantInput faulted) := (withClimate _).trans (evaluate _)

/-- A scan's hand-off evaluates the air path and lets the hatch controller act. -/
theorem handScan : p.SameFire p.handScan := by
  have resolved : p.SameFire (p.climateHandOff p.moisture.store) :=
    ⟨by simp, by
      rw [Part.climateHandOff, Part.handClimate, (Part.handFrame_frame _ _).2.2.2.2.2.2.2.2.2.2.2.1, Part.resolveAirPath,
        Part.takeChoice_outputs]
      rfl, by simp [Part.now_eq], by simp⟩
  exact (resolved.hatch (.hatchHandOff .refl _ _)).trans (handFrame _ _)

theorem decideChannel (x : Scan) (g : Group) (pl : Place) : p.SameFire (p.decideChannel x g pl) :=
  .ite ((withMoisture _).trans ((withMoisture _).trans handScan)) (withMoisture _)

theorem channelMisses (x : Scan) (g : Group) (pl : Place) : p.SameFire (p.channelMisses x g pl) :=
  (withMoisture _).trans (decideChannel x g pl)

theorem channelReads (x : Scan) (g : Group) (pl : Place) (t : Int) (rh : Nat) : p.SameFire (p.channelReads x g pl t rh) := by
  unfold Part.channelReads
  extract_lets read
  have kept : p.SameFire read := withMoisture _
  refine trans ?_ (decideChannel x g pl)
  split
  · exact kept.trans (others (by simp))
  · exact kept

theorem takeAnswer (g : Group) (pl : Place) (t : Int) (rh : Nat) (agrees : Bool) :
    p.SameFire (p.takeAnswer g pl t rh agrees) := by
  unfold Part.takeAnswer
  split
  · exact .ite (refl p) (.ite (channelReads _ _ _ _ _) (channelMisses _ _ _))
  · exact refl p

theorem windowCloses (g : Group) (pl : Place) : p.SameFire (p.windowCloses g pl) := by
  unfold Part.windowCloses
  split
  · exact channelMisses _ _ _
  · exact refl p

end Part.SameFire

namespace Part.FireTurns

/-! ## Inputs, loops, the second count -/

theorem handInput (i : InputId) (active : Bool) : p.FireTurns (p.handInput i active) := by
  cases i with
  | in0 => exact ofSame (.ofHatch (.takeLeaf .refl _ _))
  | in1 => exact ofSame (.ofHatch (.takeLeaf .refl _ _))
  | in2 => exact .ite (manualRelease p) (refl p)
  | in3 => exact takeAbort p _
  | in4 => exact takePressure p _
  | in5 => exact ofSame (.superviseSwitch _)
  | in6 => exact ofSame (.takePlantInput _)
  | in7 => exact refl p

theorem acceptInput (i : InputId) : p.FireTurns (p.acceptInput i) := by
  unfold Part.acceptInput
  dsimp only
  split
  · exact refl p
  · refine .ite (ofSame (.withInputs _)) (before (.withInputs _) ?_ (handInput i _))
    rfl

theorem takeLoopReading (l : LoopId) (reading : Nat) : p.FireTurns (p.takeLoopReading l reading) := by
  have converted (x : LoopState) : p.SameFire (p.converted l x) := by
    rw [Part.converted_eq]
    exact .others ⟨rfl, rfl, rfl, rfl⟩
  rw [Part.takeLoopReading_eq rfl]
  refine .ite (ofSame (converted _)) ((takeLoopChange _ l _ _).before (converted _) ?_)
  rw [Part.converted_eq]
  rfl

theorem advanceSecond : p.FireTurns p.advanceSecond := by
  have counted : p.SameFire (p.countSecond.withClock p.countSecond.clock.countSecondOfMinute) := by
    unfold Part.countSecond
    split <;> exact ⟨rfl, rfl, rfl, rfl⟩
  have minute : (p.countSecond.withClock p.countSecond.clock.countSecondOfMinute).minute = p.minute := by
    unfold Part.countSecond
    split <;> rfl
  exact ((countdownSecond _).before counted minute).after (.ofHatch (.purgeSecond .refl))

/-! ## Requests (R158, R159, R182) -/

/-- A restart becomes pending (R182). -/
theorem takeRestart (a : Asker) : p.FireTurns (p.takeRestart a) := by
  refine .ite ((refl p).reply _ _ _) (after (q := p.withStartUp _) ?_ (.handFrame _ _))
  exact ⟨rfl, rfl, .inr rfl, .stays rfl rfl (.inl ⟨rfl, rfl⟩)⟩

theorem handToOwner (a : Asker) (x : Request) : p.FireTurns (p.handToOwner a x) := by
  cases x with
  | cancelDischarge => exact takeCancelDischarge p a
  | resetFire => exact takeResetFire p a
  | restart => exact takeRestart a
  | _ => exact ofSame (.handToOwner a nofun nofun nofun)

theorem answer (a : Asker) (role : Role) (x : Request) : p.FireTurns (p.answer a role x) := by
  refine .ite ((refl p).reply _ _ _) (.ite (ofSame (.others (by simp))) ?_)
  split
  · exact (refl p).reply _ _ _
  · exact handToOwner a x

theorem takeRequest (src : Station) (role : Role) (x : Request) : p.FireTurns (p.takeRequest src role x) :=
  .ite (answer _ _ _) (refl p)

theorem dispatch (f : RxFrame) : p.FireTurns (p.dispatch f) := by
  unfold Part.dispatch
  dsimp only
  split
  case h_1 => exact (refl p).reply _ _ _
  case h_6 =>
    refine .ite ((refl p).reply _ _ _) ?_
    split
    · exact answer _ _ _
    · exact ofSame (.others (by simp))
  all_goals exact refl p

/-! ## Frames (R71, R157, R163) -/

theorem hearFrame (f : RxFrame) : p.FireTurns (p.hearFrame f) := by
  have told : p.FireTurns (p.told f) := by
    have heard : p.SameFire (p.heard f) := .withPeers _
    unfold Part.told
    split
    · next confirms => exact (confirmFire (p := p.heard f) (Part.frameConfirms_iff.1 confirms).1).before heard rfl
    · exact ofSame heard
  rw [Part.hearFrame_eq]
  exact .ite (told.after (.evaluate _)) told

end Part.FireTurns

/-- A request carries nothing for the peer view (R163). -/
theorem contentOf_request {f : RxFrame} {k : RequestKind} (request : kindMeaning f.cls f.kind = .request k) :
    contentOf f = .nothing := by
  simp [contentOf, request]

/-- A request leaves the sequencer as it is until its owner takes it. -/
theorem Part.SameFire.hearRequest {f : RxFrame} {k : RequestKind} (request : kindMeaning f.cls f.kind = .request k) :
    p.SameFire (p.hearFrame f) := by
  have calm : p.frameConfirms f = false := Part.frameConfirms_of_empty (by rw [contentOf_request request]; rfl)
  have heard : p.SameFire (p.heard f) := .withPeers _
  rw [Part.hearFrame_eq, Part.told_calm calm]
  exact .ite (heard.trans (.evaluate _)) heard

theorem Part.FireTurns.receiveFrame (f : RxFrame) : p.FireTurns (p.receiveFrame f) := by
  cases valid : frameValid f p.bus.station with
  | false => rw [Part.receiveFrame_invalid valid]; exact .refl p
  | true =>
    by_cases request : ∃ k, kindMeaning f.cls f.kind = .request k
    · obtain ⟨k, request⟩ := request
      have heard := Part.SameFire.hearRequest (p := p) request
      have still : (p.hearFrame f).adoptMinute (contentOf f).minute = p.hearFrame f := by
        rw [contentOf_request request]
        rfl
      rw [Part.receiveFrame_valid valid, still, ite_self]
      exact .ite ((Part.FireTurns.dispatch f).before heard (by simp [Part.minute_eq])) (.ofSame heard)
    · rw [Part.receiveFrame_eq valid (not_exists.1 request)]
      refine (Part.FireTurns.hearFrame f).after ⟨rfl, rfl, ?_, rfl⟩
      exact (by simp [Part.now_eq] : p.now = (p.hearFrame f).now)

end Sys2Proof.Machine
end

section
/-! PROOF. The fire sequencer through starts, supplies and the reset pin, and so through every step: what a step can make
of it, said once (`Part.FireSteps`) (R86 to R89, R180 to R182, R186). -/

namespace Sys2Proof.Machine

variable {p q r : Part}

/-! ## What a start makes of the sequencer (R86 to R88) -/

/-- What a start makes of the sequencer `f` and of OUT2 `o`, whatever stage it has reached, `cold` saying that it can be a
cold one, `acts` that it has completed, and `now` being local time then. -/
inductive FireSequencer.Starts (f : FireSequencer) (o : DigitalOutput) (cold acts : Prop) (now : Time) :
    FireSequencer → DigitalOutput → Prop where
  | begun (held : ¬ acts) : Starts f o cold acts now f o
  | ended {g : FireSequencer} (held : ¬ acts) (state : g.state = f.state) (alarm : g.alarm = f.alarm)
      (pulse : g.pulseEnd = none) : Starts f o cold acts now g o
  | wiped {g : FireSequencer} {u : DigitalOutput} (why : cold) (state : g.state = .quiet) (alarm : g.alarm = none)
      (release : u.state ≠ .drivenOn) : Starts f o cold acts now g u
  | retained {g : FireSequencer} {u : DigitalOutput} (state : g.state = f.state ∨ g.state = f.state.retained)
      (alarm : g.alarm = f.alarm) (pulse : g.pulseEnd = none) (release : u.state ≠ .drivenOn) : Starts f o cold acts now g u
  | releases {g : FireSequencer} {u : DigitalOutput} (before : f.state = .preDischarge) (after : g.state = .discharged)
      (alarm : g.alarm = f.alarm) (pulse : g.pulseEnd = some (now + pulseTime)) : Starts f o cold acts now g u

/-- The part `q` is in a start, or after one, of the sequencer `f` and OUT2 `o`. -/
def Part.FireStarted (f : FireSequencer) (o : DigitalOutput) (cold : Prop) (q : Part) : Prop :=
  f.Starts o cold (q.running = true) q.now q.fire q.outputs.out2

theorem Part.safe_out2 (c : Settings) : (OutputDriver.safe c).out2.state ≠ .drivenOn := safeOutput_not_driven c .out2

/-- What a cold start writes of the sequencer (R180). -/
theorem Part.writeBackup_fire (p : Part) (run : StartInProgress) :
    run.kind = .cold ∧ (p.writeBackup run).fire = { p.fire with state := .quiet, alarm := none, releaseUnconfirmed := false }
      ∨ run.kind ≠ .cold ∧ (p.writeBackup run).fire = p.fire := by
  unfold Part.writeBackup
  cases kind : run.kind with
  | cold => exact .inl ⟨rfl, rfl⟩
  | warm => exact .inr ⟨nofun, rfl⟩
  | restart => exact .inr ⟨nofun, rfl⟩

/-- The sequencer once stage 2 is done: its timers ended, and, at a cold start, QUIET written (R86, R87, R180). -/
theorem Part.afterStage_written_fire (p : Part) (run : StartInProgress) :
    (p.afterStage run .written).fire.pulseEnd = none
    ∧ (run.kind = .cold ∧ (p.afterStage run .written).fire.state = .quiet
        ∧ (p.afterStage run .written).fire.alarm = none
      ∨ run.kind ≠ .cold ∧ (p.afterStage run .written).fire.state = p.fire.state
        ∧ (p.afterStage run .written).fire.alarm = p.fire.alarm) := by
  rw [Part.afterStage_written]
  rcases (p.afterStage run .read).writeBackup_fire run with ⟨kind, fire⟩ | ⟨kind, fire⟩
  · rw [fire]
    exact ⟨rfl, .inl ⟨kind, rfl, rfl⟩⟩
  · rw [fire]
    exact ⟨rfl, .inr ⟨kind, rfl, rfl⟩⟩

theorem Part.markBackup_fire (p : Part) (run : StartInProgress) : (p.markBackup run).fire = p.fire := by
  unfold Part.markBackup
  cases run.kind <;> rfl

theorem Part.afterStage_marked_fire (p : Part) (run : StartInProgress) :
    (p.afterStage run .marked).fire = (p.afterStage run .written).fire := Part.markBackup_fire _ run

/-- The sequencer at the end of stage 4 (R86 to R88). -/
theorem Part.afterStage_valued_fire (p : Part) (run : StartInProgress) : ∃ c o,
    (p.afterStage run .valued).fire = (p.afterStage run .written).fire.atStart c o := by
  rw [← p.afterStage_marked_fire run]
  exact ⟨_, _, rfl⟩

theorem FireState.retained_preDischarge {st : FireState} : st.retained = .preDischarge ↔ st = .preDischarge := by
  cases st <;> decide

/-- A start left unfinished at a stage, if it is a restart or has driven no output (R86, R173, R186). -/
theorem Part.afterStage_fireStarted {run : StartInProgress} (progress : p.startUp.inProgress = some run) (stage : StartStage)
    (begun : run ≠ .restart → p.outputs = OutputDriver.released) :
    (p.afterStage run stage).FireStarted p.fire p.outputs.out2 (run.kind = .cold) := by
  have held : ¬ (p.afterStage run stage).running = true := Part.not_acting (by simp [progress])
  obtain ⟨pulse, written⟩ := p.afterStage_written_fire run
  have off : run.kind = .cold → p.outputs.out2.state ≠ .drivenOn := fun cold => by
    rw [begun (by rintro rfl; cases cold)]
    nofun
  have early {g : FireSequencer} {u : DigitalOutput} (fire : g = (p.afterStage run .written).fire)
      (out2 : u = p.outputs.out2 ∨ u.state ≠ .drivenOn) :
      p.fire.Starts p.outputs.out2 (run.kind = .cold) ((p.afterStage run stage).running = true)
        (p.afterStage run stage).now g u := by
    subst fire
    rcases written with ⟨cold, state, alarm⟩ | ⟨_, state, alarm⟩
    · exact .wiped cold state alarm (out2.elim (fun same => same ▸ off cold) id)
    · rcases out2 with rfl | release
      · exact .ended held state alarm pulse
      · exact .retained (.inl state) alarm pulse release
  have kept {x : Part} (outputs : x.outputs = p.abandonInFlight.outputs) : x.outputs.out2 = p.outputs.out2 := by
    rw [outputs]
    rfl
  cases stage with
  | begun => exact .begun held
  | abandoned => exact .ended held rfl rfl rfl
  | read => exact .ended held rfl rfl rfl
  | written => exact early rfl (.inl (kept (Part.afterStage_outputs run (.inr (.inl rfl)))))
  | marked => exact early (p.afterStage_marked_fire run) (.inl (kept (Part.afterStage_outputs run (.inr (.inr rfl)))))
  | safe => exact early (p.afterStage_marked_fire run) (.inr (Part.safe_out2 _))
  | valued =>
    obtain ⟨_, _, fire⟩ := p.afterStage_valued_fire run
    unfold Part.FireStarted
    rw [fire]
    rcases written with ⟨cold, state, alarm⟩ | ⟨_, state, alarm⟩
    · exact .wiped cold (congrArg FireState.retained state) alarm (Part.safe_out2 _)
    · exact .retained (.inr (congrArg FireState.retained state)) alarm pulse (Part.safe_out2 _)

/-- What a completion does after stage 4 keeps the sequencer, but for the hold it begins and a countdown of 0 (R72, R88). -/
theorem Part.completion_fire (p : Part) : ∃ q : Part, p.completion = q.expireAtZero
    ∧ q.fire = p.fire.startHold p.settings ∧ q.outputs.out2 = p.outputs.out2 ∧ q.now = 0 := by
  obtain ⟨_, _, _, fire, _, _, clock, outputs, _⟩ := p.started_frame
  refine ⟨p.started.beginScan.requestSignals.handFireState.startShut.startConfirmation, rfl, by simp [fire], ?_, ?_⟩
  · rw [← outputs]
    simp [Part.requestSignals, Part.requestOutput, OutputDriver.set]
  · simp [Part.now_eq, clock, Part.startCounting, ArchiveClock.fromZero]

/-- A start that completes (R86 to R88). -/
theorem Part.completeStart_fireStarted {run : StartInProgress} (progress : p.startUp.inProgress = some run) :
    p.completeStart.FireStarted p.fire p.outputs.out2 (run.kind = .cold) := by
  obtain ⟨pulse, written⟩ := p.afterStage_written_fire run
  obtain ⟨_, _, fire⟩ := p.afterStage_valued_fire run
  have done : p.completeStart = (p.afterStage run .valued).completion := by simp [Part.completeStart, progress]
  obtain ⟨q, completed, held, out2, now⟩ := (p.afterStage run .valued).completion_fire
  have off : q.outputs.out2.state ≠ .drivenOn := out2 ▸ Part.safe_out2 _
  rw [fire] at held
  unfold Part.FireStarted
  rw [done, completed, Part.expireAtZero]
  split
  · next zero =>
    obtain ⟨state, _⟩ := Part.countdownOver_iff.1 zero
    rw [Part.discharge_fire]
    rcases written with ⟨_, quiet, _⟩ | ⟨_, same, alarm⟩
    · rw [held] at state
      cases (congrArg FireState.retained quiet).symm.trans state
    · refine .releases ?_ rfl ((congrArg FireSequencer.alarm held).trans alarm) ?_
      · rw [held] at state
        exact same ▸ FireState.retained_preDischarge.1 state
      · simp [Part.now_eq]
  · rw [held]
    rcases written with ⟨cold, state, alarm⟩ | ⟨_, state, alarm⟩
    · exact .wiped cold (congrArg FireState.retained state) alarm off
    · exact .retained (.inr (congrArg FireState.retained state)) alarm pulse off

end Sys2Proof.Machine
end

section
/-! PROOF. Changes that reach the sequencer, the governor, the outputs and the bus port only: a change of the fire state
that the hatch controller does not act on is one (R66, R126). -/

namespace Sys2Proof.Machine

variable {p q r : Part}

/-! ## Changes that reach the sequencer, the air path and the bus port only -/

/-- `q` differs from `p` in the sequencer, the governor, the outputs and the bus port at most. -/
def Part.FireOnly (p q : Part) : Prop :=
  q = { p with fire := q.fire, climate := q.climate, outputs := q.outputs, bus := q.bus }

namespace Part.FireOnly

theorem refl (p : Part) : p.FireOnly p := rfl

theorem trans (h : p.FireOnly q) (k : q.FireOnly r) : p.FireOnly r := by
  unfold FireOnly at *
  rw [h] at k
  exact k

theorem withFire (f : FireSequencer) : p.FireOnly (p.withFire f) := rfl

theorem requestOutput (o : OutputId) (x : OutputRequest) : p.FireOnly (p.requestOutput o x) := rfl

theorem handFrame (f : TxFrame) : p.FireOnly (p.handFrame f) := by
  rw [Part.handFrame_eq]
  rfl

theorem evaluate : p.FireOnly p.evaluate := by
  have only := p.evaluate_only
  have fire : p.evaluate.fire = p.fire := by simp
  unfold FireOnly
  rw [fire]
  exact only

/-- The machine with such a part. -/
theorem state (h : p.FireOnly q) (waiting : List Instr) : ({ toPart := q, pending := waiting } : State)
    = { ({ toPart := p, pending := waiting } : State) with
        fire := q.fire, climate := q.climate, outputs := q.outputs, bus := q.bus } :=
  congrArg (State.mk · waiting) h

end Part.FireOnly

/-! ## A change of the fire state that does not seal the zone anew (R66, R126) -/

section
variable {f : FireSequencer} (calm : p.fire.state.sealed = true ∨ f.state.sealed = false)
include calm

/-- The hatch controller acts on an entry into the sealed states alone (R126). -/
theorem Part.changeFire_calm : p.changeFire f
    = (p.withFire (f.entered (p.inactive .in4))).requestSignals.handFireState.evaluate := by
  have state : ((p.withFire (f.entered (p.inactive .in4))).requestSignals.handFireState.evaluate).fire.state = f.state := by
    simp [FireSequencer.entered_state]
  unfold Part.changeFire Part.hatchTakesFire
  rw [state]
  rcases calm with sealed | open_
  · simp [sealed]
  · simp [open_]

theorem Part.changeFire_fireOnly : p.FireOnly (p.changeFire f) := by
  rw [Part.changeFire_calm calm]
  exact (((Part.FireOnly.withFire _).trans (.requestOutput _ _)).trans (.requestOutput _ _)).trans
    ((Part.FireOnly.handFrame _).trans .evaluate)

end

theorem Part.discharge_fireOnly (sealed : p.fire.state.sealed = true) : p.FireOnly p.discharge :=
  (Part.changeFire_fireOnly (.inl sealed)).trans (.requestOutput _ _)

theorem Part.enterHold_fireOnly (sealed : p.fire.state.sealed = true) (unconfirmed : Bool) :
    p.FireOnly (p.enterHold unconfirmed) :=
  (Part.FireOnly.requestOutput _ _).trans (Part.changeFire_fireOnly (.inl sealed))

end Sys2Proof.Machine
end

section
/-! PROOF. FIRE_STATE at every change of the fire state: the content as it then stands waits in the queue, and what is
handed after it in the same event leaves it there (R66, R84, R161, R162). -/

namespace Sys2Proof.Machine

variable {p q r : Part} {b : BusPort} {n m : Nat} {c d : FireContent}

/-! ## FIRE_STATE in the queue (R161, R162) -/

/-- FIRE_STATE content as every change hands it: in class FIRE, to every station. -/
def fireStateFrame (c : FireContent) : TxFrame := newFrame .fire 63#6 (.fireState c)

/-- Every FIRE_STATE that is pending is of class FIRE and to every station. -/
def BusPort.Broadcasts (b : BusPort) : Prop :=
  ∀ f ∈ b.queue, f.pendingOf .fireState = true → f.cls = .fire ∧ f.dest = 63#6

/-- FIRE_STATE content finds a place among `n` frames: room, or pending content of its kind; none is needed at a listen-only
part. -/
def BusPort.Opens (n : Nat) (b : BusPort) : Prop :=
  b.Broadcasts ∧ (b.station = none
    ∨ b.queue.length ≤ n ∧ (b.queue.length < n ∨ b.queue.any (TxFrame.pendingOf .fireState) = true))

/-- The FIRE_STATE content `c` waits for every station, among `n` frames at most; none does at a listen-only part. -/
def BusPort.Announces (n : Nat) (b : BusPort) (c : FireContent) : Prop :=
  b.Broadcasts ∧ (b.station = none ∨ b.queue.length ≤ n
    ∧ ∃ f ∈ b.queue, f.onLine = false ∧ f.cls = .fire ∧ f.dest = 63#6 ∧ f.body = .fireState c)

theorem mem_enterQueue {f g : TxFrame} {q : List TxFrame} (mem : f ∈ enterQueue g q) : f = g ∨ f ∈ q := by
  have inserted {r : List TxFrame} (here : f ∈ insertByClass g r) : f = g ∨ f ∈ r :=
    List.mem_cons.1 ((insertByClass_perm g r).mem_iff.1 here)
  unfold enterQueue at mem
  split at mem
  · exact inserted mem
  · split at mem
    · split at mem
      · exact (inserted mem).imp_right List.mem_of_mem_eraseP
      · split at mem
        · exact (mem_changeFirst mem).elim .inr fun ⟨_, _, _, same⟩ => .inl same
        · exact .inr mem
    · exact .inr mem

theorem mem_placeFrame {f g : TxFrame} {q : List TxFrame} (mem : f ∈ placeFrame g q) : f = g ∨ f ∈ q
    ∨ ∃ k, g.body.coalescedKind = some k ∧ ∃ x ∈ q, x.pendingOf k = true ∧ f = { x with body := g.body } := by
  unfold placeFrame at mem
  split at mem
  · next k kind =>
    split at mem
    · exact .inr ((mem_changeFirst mem).imp_right fun ⟨x, here, pending, same⟩ => ⟨k, kind, x, here, pending, same⟩)
    · exact (mem_enterQueue mem).imp_right .inl
  · exact (mem_enterQueue mem).imp_right .inl

theorem TxFrame.pendingOf_iff {f : TxFrame} {k : CoalescedKind} :
    f.pendingOf k = true ↔ f.onLine = false ∧ f.body.coalescedKind = some k := by
  simp [TxFrame.pendingOf]

/-- A frame handed leaves every pending FIRE_STATE a broadcast, if it is one where it is a FIRE_STATE. -/
theorem BusPort.Broadcasts.handed (h : b.Broadcasts) {g : TxFrame}
    (fits : g.body.coalescedKind = some .fireState → g.cls = .fire ∧ g.dest = 63#6) : (b.handed g).Broadcasts := by
  by_cases own : b.station = none
  · rwa [BusPort.handed_of_listenOnly own]
  · rw [BusPort.handed_eq own]
    intro f mem pending
    rcases mem_placeFrame mem with rfl | here | ⟨k, kind, x, here, before, rfl⟩
    · exact fits (TxFrame.pendingOf_iff.1 pending).2
    · exact h f here pending
    · have fire : k = .fireState := Option.some.inj (kind.symm.trans (TxFrame.pendingOf_iff.1 pending).2)
      exact h x here (fire ▸ before)

namespace BusPort.Announces

theorem opens (h : b.Announces n c) : b.Opens n := by
  obtain ⟨fits, none | ⟨short, f, mem, waits, cls, dest, body⟩⟩ := h
  · exact ⟨fits, .inl none⟩
  · refine ⟨fits, .inr ⟨short, .inr (List.any_eq_true.2 ⟨f, mem, TxFrame.pendingOf_iff.2 ⟨waits, ?_⟩⟩)⟩⟩
    rw [body]
    rfl

theorem mono (h : b.Announces n c) (le : n ≤ m) : b.Announces m c :=
  ⟨h.1, h.2.imp_right fun ⟨short, waits⟩ => ⟨short.trans le, waits⟩⟩

/-- The frame that waits stays through whatever keeps it and the bound. -/
theorem keeps {g : TxFrame} (h : b.Announces n c)
    (fits : g.body.coalescedKind = some .fireState → g.cls = .fire ∧ g.dest = 63#6)
    (short : b.queue.length ≤ n → (placeFrame g b.queue).length ≤ m)
    (stays : b.queue.length ≤ n → ∀ f ∈ b.queue, f.pendingOf .fireState = true → f.cls = .fire → f ∈ placeFrame g b.queue) :
    (b.handed g).Announces m c := by
  refine ⟨h.1.handed fits, ?_⟩
  by_cases own : b.station = none
  · exact .inl ((b.handed_station g).trans own)
  · obtain ⟨room, f, mem, waits, cls, dest, body⟩ := h.2.resolve_left own
    have pending : f.pendingOf .fireState = true := TxFrame.pendingOf_iff.2 ⟨waits, by rw [body]; rfl⟩
    rw [BusPort.handed_eq own]
    exact .inr ⟨short room, f, stays room f mem pending cls, waits, cls, dest, body⟩

/-- Content of another kind that takes the place of pending content. -/
theorem handed_inPlace (h : b.Announces n c) {g : TxFrame} {k : CoalescedKind} (kind : g.body.coalescedKind = some k)
    (other : k ≠ .fireState) (pending : b.queue.any (TxFrame.pendingOf k) = true) : (b.handed g).Announces n c := by
  have placed := placeFrame_of_pending kind pending
  refine h.keeps (fun fire => absurd (Option.some.inj (kind.symm.trans fire)) other) (fun short => ?_)
    fun _ f mem waits _ => ?_
  · rw [placed, changeFirst_length]
    exact short
  · rw [placed]
    refine (changeFirst_keeps mem).resolve_right fun changed => other ?_
    exact Option.some.inj ((TxFrame.pendingOf_iff.1 changed.1).2.symm.trans (TxFrame.pendingOf_iff.1 waits).2)

/-- A frame of another class that is not FIRE_STATE displaces nothing (R162). -/
theorem handed_notFire (h : b.Announces 8 c) {g : TxFrame} (cls : g.cls ≠ .fire) (kind : g.body.coalescedKind = none) :
    (b.handed g).Announces 8 c := by
  have placed : placeFrame g b.queue = enterQueue g b.queue := by simp [placeFrame, kind]
  refine h.keeps (by simp [kind]) (placeFrame_length_le g) fun _ f mem _ _ => ?_
  rw [placed, enterQueue]
  split
  · exact (insertByClass_perm g _).mem_iff.2 (List.mem_cons_of_mem _ mem)
  · exact mem

/-- A reply of any class enters a queue with room. -/
theorem handed_reply (h : b.Announces 7 c) {g : TxFrame} (kind : g.body.coalescedKind = none) :
    (b.handed g).Announces 8 c := by
  have placed : placeFrame g b.queue = enterQueue g b.queue := by simp [placeFrame, kind]
  refine h.keeps (by simp [kind]) (fun short => placeFrame_length_le g (short.trans (by decide))) fun short f mem _ _ => ?_
  rw [placed, enterQueue, if_pos (show b.queue.length < queueCapacity by unfold queueCapacity; omega)]
  exact (insertByClass_perm g _).mem_iff.2 (List.mem_cons_of_mem _ mem)

theorem notified (h : b.Announces 8 c) (stations : List Station) (t : NoticeType) (x : Direction) (k : Nat)
    (st : HatchState) (cause : Option Cause) : (b.notified stations t x k st cause).Announces 8 c := by
  unfold BusPort.notified
  induction stations generalizing b with
  | nil => exact h
  | cons y ys ih => exact ih (h.handed_notFire nofun rfl)

end BusPort.Announces

theorem changeFirst_of_any {α : Type} {q : α → Bool} {f : α → α} {xs : List α} (some_ : xs.any q = true) :
    ∃ x ∈ xs, q x = true ∧ f x ∈ changeFirst q f xs := by
  induction xs with
  | nil => cases some_
  | cons x xs ih =>
    by_cases here : q x = true
    · exact ⟨x, List.mem_cons_self, here, by simp [changeFirst, here]⟩
    · obtain ⟨y, mem, meets, changed⟩ := ih (by simpa [here] using some_)
      exact ⟨y, List.mem_cons_of_mem _ mem, meets, by simp [changeFirst, here, changed]⟩

namespace BusPort.Opens

theorem mono (h : b.Opens n) (lt : n < m) : b.Opens m :=
  ⟨h.1, h.2.imp_right fun ⟨short, _⟩ => ⟨short.trans lt.le, .inl (Nat.lt_of_le_of_lt short lt)⟩⟩

/-- FIRE_STATE content waits once it is handed where there is a place for it. -/
theorem announces (h : b.Opens n) (le : n ≤ 8) (c : FireContent) : (b.handed (fireStateFrame c)).Announces n c := by
  refine ⟨h.1.handed fun _ => ⟨rfl, rfl⟩, ?_⟩
  by_cases own : b.station = none
  · exact .inl ((b.handed_station _).trans own)
  · obtain ⟨short, place⟩ := h.2.resolve_left own
    rw [BusPort.handed_eq own]
    refine .inr ?_
    cases shown : b.queue.any (TxFrame.pendingOf .fireState) with
    | true =>
      rw [placeFrame_of_pending (f := fireStateFrame c) rfl shown]
      obtain ⟨x, mem, pending, changed⟩ := changeFirst_of_any
        (f := fun x : TxFrame => { x with body := (fireStateFrame c).body }) shown
      obtain ⟨cls, dest⟩ := h.1 x mem pending
      exact ⟨by rwa [changeFirst_length], _, changed, (TxFrame.pendingOf_iff.1 pending).1, cls, dest, rfl⟩
    | false =>
      have room := place.resolve_right (by simp [shown])
      have placed : placeFrame (fireStateFrame c) b.queue = insertByClass (fireStateFrame c) b.queue := by
        have enters : placeFrame (fireStateFrame c) b.queue = enterQueue (fireStateFrame c) b.queue :=
          if_neg (by simp [shown])
        rw [enters, enterQueue, if_pos (show b.queue.length < queueCapacity by unfold queueCapacity; omega)]
      rw [placed]
      refine ⟨?_, _, (insertByClass_perm _ _).mem_iff.2 List.mem_cons_self, rfl, rfl, rfl, rfl⟩
      rw [(insertByClass_perm _ _).length_eq, List.length_cons]
      exact room

/-- Content of another kind that takes the place of pending content. -/
theorem handed_inPlace (h : b.Opens n) {g : TxFrame} {k : CoalescedKind} (kind : g.body.coalescedKind = some k)
    (other : k ≠ .fireState) (pending : b.queue.any (TxFrame.pendingOf k) = true) : (b.handed g).Opens n := by
  refine ⟨h.1.handed fun fire => absurd (Option.some.inj (kind.symm.trans fire)) other, ?_⟩
  by_cases own : b.station = none
  · exact .inl ((b.handed_station g).trans own)
  · obtain ⟨short, place⟩ := h.2.resolve_left own
    rw [BusPort.handed_eq own, placeFrame_of_pending kind pending]
    refine .inr ⟨by rwa [changeFirst_length], place.imp (by rw [changeFirst_length]; exact id) fun shown => ?_⟩
    obtain ⟨f, mem, waits⟩ := List.any_eq_true.1 shown
    refine List.any_eq_true.2 ⟨f, (changeFirst_keeps mem).resolve_right fun changed => other ?_, waits⟩
    exact Option.some.inj ((TxFrame.pendingOf_iff.1 changed.1).2.symm.trans (TxFrame.pendingOf_iff.1 waits).2)

end BusPort.Opens

/-! ## Evaluations (R35, R48) -/

/-- Of an evaluation's two frames, CLIMATE takes the place of a pending one, which can be only that kind. -/
theorem BusPort.evaluated_inPlace {motive : BusPort → Prop} (p q : Part)
    (fault : motive (b.faultShown p.climate.damperFault q))
    (climate : ∀ {x : BusPort} {f : TxFrame}, motive x → f.body.coalescedKind = some .climate →
      x.queue.any (TxFrame.pendingOf .climate) = true → motive (x.handed f)) : motive (b.evaluated p q) :=
  BusPort.evaluated_cases p q fault fun shown _ kind pending => climate shown kind pending

theorem Part.evaluate_opens (h : p.bus.Opens n) (le : n ≤ 8) : p.evaluate.bus.Opens n := by
  rw [Part.evaluate_bus]
  refine BusPort.evaluated_inPlace p p.evaluate ?_ fun opens kind pending => opens.handed_inPlace kind nofun pending
  unfold BusPort.faultShown
  split
  · exact h
  · exact (h.announces le _).opens

/-- The content of FIRE_STATE as it stands waits among `n` frames at most. -/
def Part.Shown (n : Nat) (p : Part) : Prop := p.bus.Announces n p.fireContent

namespace Part.Shown

/-- What FIRE_STATE content and the bus port show. -/
theorem congr (h : p.Shown n) (bus : q.bus = p.bus) (fire : q.fire = p.fire) (loops : q.loops = p.loops)
    (fault : q.climate.damperFault = p.climate.damperFault) : q.Shown n := by
  unfold Shown
  rw [bus, Part.fireContent_congr fire loops fault]
  exact h

theorem mono (h : p.Shown n) (le : n ≤ m) : p.Shown m := BusPort.Announces.mono h le

theorem opens (h : p.Shown n) : p.bus.Opens n := BusPort.Announces.opens h

theorem ite {x : Prop} [Decidable x] (yes : q.Shown n) (no : r.Shown n) : (if x then q else r).Shown n := by
  split
  · exact yes
  · exact no

theorem handFireState (h : p.bus.Opens n) (le : n ≤ 8) : p.handFireState.Shown n := by
  unfold Shown
  rw [Part.handFireState_bus, Part.handFireState_fireContent]
  exact h.announces le _

theorem evaluate (h : p.Shown n) (le : n ≤ 8) : p.evaluate.Shown n := by
  unfold Shown
  rw [Part.evaluate_bus]
  refine BusPort.evaluated_inPlace (motive := (·.Announces n p.evaluate.fireContent)) p p.evaluate ?_
    fun shown kind pending => shown.handed_inPlace kind nofun pending
  unfold BusPort.faultShown
  split
  · next same =>
    rw [Part.fireContent_congr (p := p.evaluate) (by simp) (by simp) same]
    exact h
  · exact h.opens.announces le _

/-! ## What the hatch controller does after a change (R126) -/

theorem requestOutput (h : p.Shown n) (o : OutputId) (x : OutputRequest) : (p.requestOutput o x).Shown n :=
  h.congr (by simp) (by simp) (by simp) (by simp)

theorem handNotices (h : p.Shown 8) (xs : List Station) (t : NoticeType) (x : Option Direction) (k : Option Nat)
    (cause : Option Cause) : (p.handNotices xs t x k cause).Shown 8 := by
  rw [Part.handNotices_eq]
  exact BusPort.Announces.notified h _ _ _ _ _ _

theorem lockBoth (h : p.Shown n) : p.lockBoth.Shown n := h.congr (by simp) (by simp) (by simp) (by simp)

theorem endPurge (h : p.Shown 8) : p.endPurge.Shown 8 :=
  .ite (evaluate (p := p.withHatch { p.hatch with purgeRequest := false }) h le_rfl) h

theorem abandonStage (h : p.Shown 8) : p.abandonStage.Shown 8 := by
  unfold Part.abandonStage
  split
  · exact h
  · exact endPurge (p := p.withHatch { p.hatch with stage := .tallied }) h
  · exact endPurge (p := p.withHatch { p.hatch with stage := .tallied }) h
  · exact h

theorem abandon (h : p.Shown 8) (cause : Cause) : (p.abandon cause).Shown 8 := by
  have locked : (p.lockBoth.withHatch
      { p.lockBoth.hatch with stepTimeout := none, handoverOpen := false, lastStep := none }).Shown 8 := h.lockBoth
  exact handNotices (p := p.abandonCore) (locked.abandonStage.congr (by simp [Part.abandonCore])
    (by simp [Part.abandonCore]) (by simp [Part.abandonCore]) (by simp [Part.abandonCore])) _ _ _ _ _

theorem returnAccess (h : p.Shown n) (abandoned : Bool) : (p.returnAccess abandoned).Shown n :=
  h.congr (by simp) (by simp) (by simp) (by simp)

theorem stagingTally (h : p.Shown n) (t : TagReport) : (p.stagingTally t).Shown n :=
  h.congr (by simp) (by simp) (by simp) (by simp)

theorem hatchTakesFire (h : p.Shown 8) (old : FireState) : (p.hatchTakesFire old).Shown 8 := by
  have locked := h.lockBoth
  unfold Part.hatchTakesFire
  refine .ite (.ite (locked.abandon _) ?_) h
  dsimp only
  split
  · exact .ite (locked.returnAccess _) locked
  · refine .ite ?_ locked
    split
    · exact locked
    · exact locked
    · exact locked.stagingTally _
  · exact locked

end Part.Shown

end Sys2Proof.Machine
end

section
/-! PROOF. Every rule that changes the fire state hands FIRE_STATE, at inputs, loops and the timers of the sequencer (R66,
R84). -/

namespace Sys2Proof.Machine

variable {p q r : Part}

/-! ## A change of the fire state (R66) -/

theorem Part.changeFire_shown (h : p.bus.Opens 8) (f : FireSequencer) : (p.changeFire f).Shown 8 := by
  have handed : (p.withFire (f.entered (p.inactive .in4))).requestSignals.handFireState.Shown 8 :=
    Part.Shown.handFireState (by simpa using h) le_rfl
  exact (handed.evaluate le_rfl).hatchTakesFire _

/-- The hatch controller hands no notice after a change that does not seal the zone anew. -/
theorem Part.changeFire_calm_shown (h : p.bus.Opens 7) {f : FireSequencer}
    (calm : p.fire.state.sealed = true ∨ f.state.sealed = false) : (p.changeFire f).Shown 7 := by
  rw [Part.changeFire_calm calm]
  exact (Part.Shown.handFireState (by simpa using h) (by decide)).evaluate (by decide)

theorem Part.updateFire_shown (h : p.bus.Opens 8) (f : FireSequencer) : (p.updateFire f).Shown 8 :=
  Part.Shown.handFireState (p := p.withFire f) h le_rfl

theorem Part.discharge_shown (h : p.bus.Opens 8) : p.discharge.Shown 8 := (Part.changeFire_shown h _).requestOutput _ _

theorem Part.Shown.expireAtZero (h : p.Shown 8) : p.expireAtZero.Shown 8 := .ite (Part.discharge_shown h.opens) h

theorem Part.enterPreDischarge_shown (h : p.bus.Opens 8) (n : Nat) (alarm : Option AlarmRecord) :
    (p.enterPreDischarge n alarm).Shown 8 := (Part.changeFire_shown h _).expireAtZero

theorem Part.confirmFire_shown (h : p.bus.Opens 8) : p.confirmFire.Shown 8 := Part.enterPreDischarge_shown h _ _

theorem Part.enterAlert_shown (h : p.bus.Opens 8) (x : AlarmRecord) : (p.enterAlert x).Shown 8 :=
  have alert := Part.changeFire_shown h _
  .ite (Part.confirmFire_shown alert.opens) alert

theorem Part.enterHold_shown (h : p.bus.Opens 8) (unconfirmed : Bool) : (p.enterHold unconfirmed).Shown 8 :=
  Part.changeFire_shown (p := p.requestOutput .out2 .drivenOff) (by simpa using h) _

/-! ## What one event says of the fire state (R84) -/

/-- An event from `p` to `q` that finds room for two frames keeps the fire state, or FIRE_STATE as it then stands waits. -/
def Part.Speaks (p q : Part) : Prop := p.bus.Opens 7 → q.fire.state = p.fire.state ∨ q.Shown 8

namespace Part.Speaks

theorem ofState (h : q.fire.state = p.fire.state) : p.Speaks q := fun _ => .inl h

theorem ofSame (h : p.SameFire q) : p.Speaks q := ofState (congrArg _ h.fire)

theorem refl (p : Part) : p.Speaks p := ofState rfl

theorem ofShown (h : p.bus.Opens 8 → q.Shown 8) : p.Speaks q := fun opens => .inr (h (opens.mono (by decide)))

theorem ite {x : Prop} [Decidable x] (yes : p.Speaks q) (no : p.Speaks r) : p.Speaks (if x then q else r) := by
  split
  · exact yes
  · exact no

/-- Where what comes before keeps the fire state and the room. -/
theorem before (state : q.fire.state = p.fire.state) (room : p.bus.Opens 7 → q.bus.Opens 7) (h : q.Speaks r) : p.Speaks r :=
  fun opens => state ▸ h (room opens)

theorem withInputs {x : PerInput InputState} (h : (p.withInputs x).Speaks q) : p.Speaks q := h

theorem withFire {f : FireSequencer} (h : (p.withFire f).Speaks q) (state : f.state = p.fire.state) : p.Speaks q :=
  before (q := p.withFire f) state id h

/-- What comes after and keeps the fire state and the content that waits. -/
theorem after (h : p.Speaks q) (state : r.fire.state = q.fire.state) (keeps : q.Shown 8 → r.Shown 8) : p.Speaks r :=
  fun opens => (h opens).imp state.trans keeps

/-! ## The rules of the sequencer (R68 to R83) -/

theorem takeLoopChange (p : Part) (l : LoopId) (old new : LoopClass) : p.Speaks (p.takeLoopChange l old new) := by
  have confirms : p.Speaks p.confirmFire := ofShown Part.confirmFire_shown
  unfold Part.takeLoopChange
  dsimp only
  split
  · exact .ite (.ite (ofShown fun h => Part.enterPreDischarge_shown h _ _) (ofShown fun h => Part.enterAlert_shown h _))
      (refl p)
  · exact .ite confirms (.ite (.ite (refl p) confirms) (refl p))
  all_goals exact refl p

theorem takeLoopReading (l : LoopId) (reading : Nat) : p.Speaks (p.takeLoopReading l reading) := by
  have state (x : LoopState) : (p.converted l x).fire.state = p.fire.state := by rw [Part.converted_fire]
  have room (x : LoopState) (h : p.bus.Opens 7) : (p.converted l x).bus.Opens 7 := by
    unfold Part.converted
    split
    · exact h
    · exact (Part.Shown.handFireState (p := p.withLoops (p.loopsConverted l x)) h (by decide)).opens
  rw [Part.takeLoopReading_eq rfl]
  exact .ite (ofState (state _)) (before (state _) (room _) (takeLoopChange _ l _ _))

theorem manualRelease (p : Part) : p.Speaks p.manualRelease := by
  unfold Part.manualRelease
  dsimp only
  split
  · exact ofShown fun h => Part.enterPreDischarge_shown h _ _
  · exact ofShown fun h => Part.enterPreDischarge_shown h _ _
  · exact .ite (refl p) (ofShown fun h => (Part.updateFire_shown h _).expireAtZero)
  all_goals exact refl p

theorem updateFire (f : FireSequencer) : p.Speaks (p.updateFire f) := ofShown fun h => Part.updateFire_shown h f

theorem takeAbort (p : Part) (active : Bool) : p.Speaks (p.takeAbort active) :=
  .ite (.ite (.ite (refl p) (updateFire _)) (.ite (updateFire _) (refl p))) (refl p)

theorem setCylinderLow (p : Part) (low : Bool) : p.Speaks (p.setCylinderLow low) := .ite (refl p) (updateFire _)

theorem takePressure (p : Part) (normal : Bool) : p.Speaks (p.takePressure normal) := by
  refine .ite (setCylinderLow p _) ?_
  split
  · exact setCylinderLow p _
  · exact setCylinderLow p _
  · exact .ite (ofShown fun h => Part.enterHold_shown (p := p.withFire { p.fire with pressureFall := true }) h _)
      (ofState rfl)
  all_goals exact refl p

theorem discharge (p : Part) : p.Speaks p.discharge := ofShown Part.discharge_shown

theorem expireAtZero (p : Part) : p.Speaks p.expireAtZero := .ite (discharge p) (refl p)

theorem countdownSecond (p : Part) : p.Speaks p.countdownSecond := .ite (withFire (expireAtZero _) rfl) (refl p)

theorem enterHold (p : Part) (unconfirmed : Bool) : p.Speaks (p.enterHold unconfirmed) :=
  ofShown fun h => Part.enterHold_shown h _

theorem pulseEnds (p : Part) : p.Speaks p.pulseEnds := .ite (enterHold p _) (ofState rfl)

theorem holdEnds (p : Part) : p.Speaks p.holdEnds := ofShown fun h => Part.changeFire_shown h _

/-! ## Inputs and the second count -/

theorem handInput (i : InputId) (active : Bool) : p.Speaks (p.handInput i active) := by
  cases i with
  | in0 => exact ofSame (.ofHatch (.takeLeaf .refl _ _))
  | in1 => exact ofSame (.ofHatch (.takeLeaf .refl _ _))
  | in2 => exact .ite (manualRelease p) (refl p)
  | in3 => exact takeAbort p _
  | in4 => exact takePressure p _
  | in5 => exact ofSame (.superviseSwitch _)
  | in6 => exact ofSame (.takePlantInput _)
  | in7 => exact refl p

theorem acceptInput (i : InputId) : p.Speaks (p.acceptInput i) := by
  unfold Part.acceptInput
  dsimp only
  split
  · exact refl p
  · exact .ite (ofState rfl) (withInputs (handInput i _))

end Part.Speaks

theorem Part.Shown.purgeSecond (h : p.Shown 8) : p.purgeSecond.Shown 8 := by
  have completes {q : Part} (shown : q.Shown 8) : (q.completePurge true).Shown 8 := by
    have ended : (q.purgeEnded (q.purgeExceptions true)).Shown 8 :=
      Part.Shown.endPurge (p := q.withExceptions _) shown
    rw [Part.completePurge_eq, Part.unlockWithNotice]
    exact .ite (Part.Shown.handNotices (ended.congr (by simp) (by simp) (by simp) (by simp)) _ _ _ _ _) ended
  unfold Part.purgeSecond
  exact .ite (.ite (completes (q := p.withHatch _) h) h) h

namespace Part.Speaks

theorem advanceSecond : p.Speaks p.advanceSecond := by
  have fire : p.countSecond.fire = p.fire := by simp
  have bus : p.countSecond.bus = p.bus := by simp
  have counted : p.Speaks (p.countSecond.withClock p.countSecond.clock.countSecondOfMinute).countdownSecond :=
    before (q := p.countSecond.withClock p.countSecond.clock.countSecondOfMinute) (congrArg _ fire)
      (fun h => show p.countSecond.bus.Opens 7 from bus ▸ h) (countdownSecond _)
  exact counted.after (by simp [Part.advanceSecond]) Part.Shown.purgeSecond

end Part.Speaks

end Sys2Proof.Machine
end

section
/-! PROOF. FIRE_STATE waits after the requests and the frames that change the fire state, and after every start that
completes (R66, R76, R82, R89, R186). -/

namespace Sys2Proof.Machine

variable {p q r : Part}

/-! ## Requests (R76, R82, R158, R159) -/

theorem Part.Shown.reply (h : p.Shown 7) (a : Asker) (st : Status) (d : ReplyData) : (p.reply a st d).Shown 8 := by
  have content : (p.reply a st d).fireContent = p.fireContent := Part.fireContent_congr (by simp) (by simp) (by simp)
  unfold Shown
  rw [content, Part.reply, Part.handFrame_bus]
  exact BusPort.Announces.handed_reply h rfl

namespace Part.Speaks

theorem reply (a : Asker) (st : Status) (d : ReplyData) : p.Speaks (p.reply a st d) := ofSame (.handFrame p _)

/-- A request that changes the fire state short of sealing the zone: its reply finds room behind FIRE_STATE. -/
theorem changes {f : FireSequencer} (open_ : f.state.sealed = false) (a : Asker) (st : Status) (d : ReplyData) :
    p.Speaks ((p.changeFire f).reply a st d) :=
  fun opens => .inr ((Part.changeFire_calm_shown opens (.inr open_)).reply a st d)

theorem takeCancelDischarge (p : Part) (a : Asker) : p.Speaks (p.takeCancelDischarge a) :=
  .ite (reply a _ _) (.ite (reply a _ _) (changes rfl a _ _))

theorem takeResetFire (p : Part) (a : Asker) : p.Speaks (p.takeResetFire a) := .ite (reply a _ _) (changes rfl a _ _)

theorem handToOwner (a : Asker) (x : Request) : p.Speaks (p.handToOwner a x) := by
  cases x with
  | cancelDischarge => exact takeCancelDischarge p a
  | resetFire => exact takeResetFire p a
  | restart => exact ofState (by simp [Part.handToOwner])
  | _ => exact ofSame (.handToOwner a nofun nofun nofun)

theorem answer (a : Asker) (role : Role) (x : Request) : p.Speaks (p.answer a role x) := by
  refine .ite (reply a _ _) (.ite (ofSame (.others (by simp))) ?_)
  split
  · exact reply a _ _
  · exact handToOwner a x

theorem takeRequest (src : Station) (role : Role) (x : Request) : p.Speaks (p.takeRequest src role x) :=
  .ite (answer _ _ _) (refl p)

theorem dispatch (f : RxFrame) : p.Speaks (p.dispatch f) := by
  unfold Part.dispatch
  dsimp only
  split
  case h_1 => exact reply _ _ _
  case h_6 =>
    refine .ite (reply _ _ _) ?_
    split
    · exact answer _ _ _
    · exact ofSame (.others (by simp))
  all_goals exact refl p

/-! ## Frames (R71, R157, R163) -/

theorem hearFrame (f : RxFrame) : p.Speaks (p.hearFrame f) := by
  have told : p.Speaks (p.told f) :=
    .ite (ofShown fun h => Part.confirmFire_shown (p := p.heard f) h) (ofState rfl)
  rw [Part.hearFrame_eq]
  exact .ite (told.after (by simp) fun shown => shown.evaluate le_rfl) told

end Part.Speaks

/-- A request frame, heard, leaves room for two frames. -/
theorem Part.hearRequest_opens {f : RxFrame} {k : RequestKind} (request : kindMeaning f.cls f.kind = .request k)
    (h : p.bus.Opens 7) : (p.hearFrame f).bus.Opens 7 := by
  have calm : p.frameConfirms f = false := Part.frameConfirms_of_empty (by rw [contentOf_request request]; rfl)
  rw [Part.hearFrame_eq, Part.told_calm calm]
  split
  · exact Part.evaluate_opens (p := p.heard f) h (by decide)
  · exact h

/-- A frame of a kind that is unknown carries nothing for the sequencer, and only such a frame is answered UNKNOWN_KIND. -/
theorem Part.busAfter_or (p : Part) (f : RxFrame) :
    p.busAfter f = (p.hearFrame f).bus ∨ (p.hearFrame f).fire = p.fire := by
  unfold Part.busAfter
  split
  · next unknown =>
    exact .inr (Part.hearFrame_calm_fire (Part.frameConfirms_of_empty (by rw [contentOf_unknown unknown.2]; rfl)))
  · exact .inl rfl

theorem Part.Speaks.receiveFrame (f : RxFrame) : p.Speaks (p.receiveFrame f) := by
  cases valid : frameValid f p.bus.station with
  | false => rw [Part.receiveFrame_invalid valid]; exact .refl p
  | true =>
    by_cases request : ∃ k, kindMeaning f.cls f.kind = .request k
    · obtain ⟨k, request⟩ := request
      have heard := Part.SameFire.hearRequest (p := p) request
      have still : (p.hearFrame f).adoptMinute (contentOf f).minute = p.hearFrame f := by
        rw [contentOf_request request]
        rfl
      rw [Part.receiveFrame_valid valid, still, ite_self]
      exact .ite (.before (congrArg _ heard.fire) (Part.hearRequest_opens request) (.dispatch f)) (.ofSame heard)
    · rw [Part.receiveFrame_eq valid (not_exists.1 request)]
      rcases p.busAfter_or f with bus | fire
      · rw [bus]
        exact (Part.Speaks.hearFrame f).after rfl id
      · exact .ofState (congrArg FireSequencer.state fire)

/-! ## Starts (R89, R186) -/

theorem Part.afterStage_valued_queue (p : Part) (run : StartInProgress) : (p.afterStage run .valued).bus.queue = [] := by
  rw [Part.afterStage_valued, Part.afterStage_safe, Part.afterStage_marked, Part.afterStage_written]
  unfold Part.markBackup Part.writeBackup
  cases run.kind <;> rfl

theorem BusPort.opens_of_empty {b : BusPort} (empty : b.queue = []) : b.Opens 8 := by
  refine ⟨fun f mem => ?_, .inr (by simp [empty])⟩
  rw [empty] at mem
  cases mem

theorem Part.Shown.startShut (h : p.Shown 8) : p.startShut.Shown 8 := .ite h h

theorem Part.Shown.startConfirmation (h : p.Shown 8) : p.startConfirmation.Shown 8 := .ite h h

/-- FIRE_STATE is handed at every completion, before what the values of the start bring (R89). -/
theorem Part.completion_shown (empty : p.bus.queue = []) : p.completion.Shown 8 := by
  have bus : (p.startCounting.markSpareLost.markCustodyLost.endProgress.beginScan.requestSignals).bus = p.bus := by
    unfold Part.markCustodyLost
    split <;> rfl
  have handed : p.startCounting.markSpareLost.markCustodyLost.endProgress.beginScan.requestSignals.handFireState.Shown 8 :=
    Part.Shown.handFireState (bus ▸ BusPort.opens_of_empty empty) le_rfl
  exact handed.startShut.startConfirmation.expireAtZero

theorem Part.completeStart_shown (begun : p.startUp.inProgress ≠ none) : p.completeStart.Shown 8 := by
  obtain ⟨run, progress⟩ := Option.ne_none_iff_exists'.1 begun
  rw [Part.completeStart, progress]
  exact Part.completion_shown (p.afterStage_valued_queue run)

end Sys2Proof.Machine
end

section
/-! PROOF. O24 and O23: what a command can make of the fire sequencer, said once (`Part.FireSteps`), and from it the
release law, the diagram of the fire state and the alarm record (R66, R67, R77, R86 to R88, R180 to R182). -/

namespace Sys2Proof.Machine

variable {p q r : Part}

/-! ## What an event may make of the sequencer, before a start it begins goes on -/

/-- A part whose sequencer an event leaves, with OUT2 as it was or not driven on, where no start begins and none ends. -/
structure Part.FireHeld (p q : Part) : Prop where
  fire : q.fire = p.fire
  now : q.now = p.now
  out2 : q.outputs.out2 = p.outputs.out2 ∨ q.outputs.out2.state ≠ .drivenOn
  acts : q.running = true → p.running = true
  starting : q.starting = true → p.starting = true
  sound : p.StartSound → q.StartSound

/-- `q` is what an event may make of `p`: the sequencer turns, with FIRE_STATE where the fire state moves, and
a restart may begin then; a start begins; or the sequencer is held. -/
inductive Part.FireBecomes (p : Part) : Part → Prop where
  | turns {q : Part} (acts : p.running = true) (h : p.FireTurns q) (speaks : p.Speaks q) : FireBecomes p q
  | restarts {q : Part} (acts : p.running = true) (h : p.FireTurns q) (pending : q.startUp.restartDeadline ≠ none) :
      FireBecomes p (q.beginStart .restart)
  | starts (run : StartInProgress) (cold : run.kind = .cold → p.coldStartNext) : FireBecomes p (p.beginStart run)
  | held {q : Part} (h : p.FireHeld q) : FireBecomes p q

theorem Part.FireHeld.refl (p : Part) : p.FireHeld p := ⟨rfl, rfl, .inl rfl, id, id, id⟩

/-- A part without supply, or held by the pin. -/
theorem Part.FireHeld.unpowered (fire : q.fire = p.fire) (now : q.now = p.now)
    (out2 : q.outputs.out2 = p.outputs.out2 ∨ q.outputs = OutputDriver.released) (unpowered : q.powered = false)
    (sound : p.StartSound → q.StartSound) : p.FireHeld q where
  fire := fire
  now := now
  out2 := out2.imp_right fun released => by rw [released]; nofun
  acts := fun acts => absurd acts (by simp [Part.running, unpowered])
  starting := fun starts => absurd starts (by simp [Part.starting, unpowered])
  sound := sound

/-! ## Events (R181, R182) -/

/-- The end of an event: a restart that is due begins (R182). -/
theorem Part.FireTurns.settle (acts : p.running = true) (h : p.FireTurns q) (speaks : p.Speaks q) :
    p.FireBecomes q.settle := by
  unfold Part.settle
  split
  · next left =>
    refine .restarts acts h ?_
    simp only [Part.restartReplyLeft, Bool.and_eq_true, Option.isSome_iff_ne_none] at left
    exact left.1
  · exact .turns acts h speaks

theorem Part.event_fireBecomes {f : Part → Part} (h : p.FireTurns (f p)) (speaks : p.Speaks (f p)) :
    p.FireBecomes (p.event f) := by
  unfold Part.event
  split
  · next acts => exact h.settle acts speaks
  · exact .held (.refl p)

theorem Part.timed_fireBecomes {due : Part → Bool} {f : Part → Part} (h : due p = true → p.FireTurns (f p))
    (speaks : p.Speaks (f p)) : p.FireBecomes (p.timed due f) := by
  refine Part.event_fireBecomes ?_ (.ite speaks (.refl p))
  split
  · next ran => exact h ran
  · exact .refl p

/-! ## Supplies, the reset pin, the wires (R57, R180, R181) -/

theorem Part.mainRises_fireBecomes (x : PowerReading) : p.FireBecomes (p.mainRises x) := by
  unfold Part.mainRises
  split
  · exact .held (.refl p)
  · next off =>
    split
    · next pin =>
      refine .held (.unpowered rfl rfl (.inl rfl) (by simp [Part.powered, pin]) fun sound => ?_)
      refine ⟨nofun, fun _ => ⟨rfl, pin⟩, fun cold => .inl ?_⟩
      simpa [Part.risingStart] using cold
    · refine .starts _ fun cold => .inl ?_
      cases valid : p.startUp.backupValid with
      | true => simp [StartInProgress.kind, Part.risingStart, valid] at cold
      | false => rfl

theorem Part.mainFalls_fireBecomes : p.FireBecomes p.mainFalls := by
  unfold Part.mainFalls
  split
  · exact .held (.unpowered rfl rfl (.inr rfl) rfl fun _ => ⟨nofun, nofun, nofun⟩)
  · exact .held (.refl p)

theorem Part.backupFalls_fireBecomes : p.FireBecomes p.backupFalls := by
  unfold Part.backupFalls
  split
  · exact .held (.refl p)
  · next off =>
    exact .held (.unpowered rfl rfl (.inl rfl) (by simp [Part.powered, off])
      fun ⟨progress, held, _⟩ => ⟨progress, held, fun _ => .inl rfl⟩)

theorem StartUp.heldByPin_eq_some {u : StartUp} {x : PowerStart} : u.heldByPin = some x ↔
    u.inProgress = some (.power x) ∨ u.inProgress = none ∧ u.heldStart = some x := by
  unfold StartUp.heldByPin
  split <;> simp_all

theorem Part.resetAsserts_fireBecomes : p.FireBecomes p.resetAsserts := by
  refine .held (.unpowered rfl rfl (.inr rfl) (by simp [Part.powered, Part.resetAsserts]) fun ⟨progress, held, cold⟩ => ?_)
  refine ⟨nofun, fun some_ => ⟨?_, rfl⟩, fun cold' => cold ?_⟩
  · obtain ⟨x, pin⟩ := Option.ne_none_iff_exists'.1 some_
    rcases StartUp.heldByPin_eq_some.1 pin with run | ⟨_, before⟩
    · exact (progress (by simp [run])).1
    · exact (held (by simp [before])).1
  · obtain ⟨x, pin, which⟩ := Option.map_eq_some_iff.1 (cold'.resolve_left nofun)
    rcases StartUp.heldByPin_eq_some.1 pin with run | ⟨_, before⟩
    · exact .inl (by simp [run, StartInProgress.kind, which])
    · exact .inr (by simp [before, which])

theorem Part.resetReleases_fireBecomes : p.FireBecomes p.resetReleases := by
  unfold Part.resetReleases
  split
  · split
    · split
      · next x held =>
        refine .starts _ fun cold => .inr ⟨x, held, ?_⟩
        cases which : x.cold with
        | true => rfl
        | false => simp [StartInProgress.kind, which] at cold
      · exact .starts _ nofun
    · next off =>
      refine .held (.unpowered rfl rfl (.inl rfl) (by simp [Part.powered, off]) fun ⟨progress, held, cold⟩ => ?_)
      exact ⟨fun some_ => absurd (progress some_).1 off, fun some_ => absurd (held some_).1 off, cold⟩
  · exact .held (.refl p)

/-- The level of a wire (R57, R64). -/
theorem Part.levelChange_fireBecomes (i : InputId) (high : Bool) :
    p.FireBecomes (if p.running then p.event (fun p => p.takeLevelChange i high) else p.wireChanges i high) := by
  split
  · exact Part.event_fireBecomes (.ofSame (.withInputs _)) (.ofSame (.withInputs _))
  · exact .held ⟨rfl, rfl, .inl rfl, id, id, id⟩

/-! ## The machine after an event -/

/-- What a command can make of the part, as the sequencer shows it. -/
inductive Part.FireSteps (p q : Part) : Prop where
  | turns (acts : p.running = true) (h : p.FireTurns q)
  | restarts {r : Part} (acts : p.running = true) (h : p.FireTurns r) (pending : r.startUp.restartDeadline ≠ none)
      (k : q.FireStarted r.fire r.outputs.out2 False) (ended : q.startUp.restartDeadline = none)
  | starts {o : DigitalOutput} {cold : Prop} (out2 : o = p.outputs.out2 ∨ o.state ≠ .drivenOn)
      (why : cold → p.coldStartNext ∨ p.fire.state = .quiet) (k : q.FireStarted p.fire o cold)
  | held (h : p.FireHeld q)

/-- A start that has begun goes on, whole or to a stage (R186, log 21). -/
theorem Part.afterBegin_fireStarted {run : StartInProgress} (progress : p.startUp.inProgress = some run)
    (begun : run ≠ .restart → p.outputs = OutputDriver.released) (waiting : List Instr) :
    (p.afterBegin waiting).FireStarted p.fire p.outputs.out2 (run.kind = .cold)
    ∧ (p.afterBegin waiting).startUp.restartDeadline = p.startUp.restartDeadline := by
  unfold Part.afterBegin
  split
  · dsimp only
    split
    · next stage _ =>
      refine ⟨?_, by simp⟩
      rw [show (p.withFreeDraws (p.freeDraws + 1)).unfinished stage = (p.withFreeDraws (p.freeDraws + 1)).afterStage run stage
        by simp [Part.unfinished, progress]]
      exact Part.afterStage_fireStarted (p := p.withFreeDraws (p.freeDraws + 1)) progress stage begun
    · exact ⟨Part.completeStart_fireStarted (p := p.withFreeDraws (p.freeDraws + 1)) progress, by simp⟩
  · exact ⟨Part.completeStart_fireStarted progress, by simp⟩

theorem Part.beginStart_outputs (p : Part) (run : StartInProgress) :
    (run ≠ .restart → (p.beginStart run).outputs = OutputDriver.released)
    ∧ ((p.beginStart run).outputs.out2 = p.outputs.out2 ∨ (p.beginStart run).outputs.out2.state ≠ .drivenOn) := by
  cases run with
  | power x => exact ⟨fun _ => rfl, .inr nofun⟩
  | restart => exact ⟨fun other => absurd rfl other, .inl rfl⟩

/-- The part a machine is left with where its event makes `p` of a part that was in a start or not. -/
def Part.goesOn (p : Part) (before : Part) (waiting : List Instr) : Part :=
  if p.starting && !before.starting then p.afterBegin waiting else p

theorem State.become_goesOn (s : State) (p : Part) :
    s.become p = .next { toPart := p.goesOn s.toPart s.pending, pending := s.pending } := rfl

/-- A start that an event begins, or begins again. -/
theorem Part.goesOn_fireStarted (p before : Part) (run : StartInProgress) (waiting : List Instr) :
    ((p.beginStart run).goesOn before waiting).FireStarted p.fire (p.beginStart run).outputs.out2 (run.kind = .cold)
    ∧ ((p.beginStart run).goesOn before waiting).startUp.restartDeadline = none := by
  have progress : (p.beginStart run).startUp.inProgress = some run := by simp
  have fire : (p.beginStart run).fire = p.fire := by simp
  have deadline : (p.beginStart run).startUp.restartDeadline = none := by simp
  unfold Part.goesOn
  split
  · have goes := Part.afterBegin_fireStarted progress (p.beginStart_outputs run).1 waiting
    rwa [fire, deadline] at goes
  · refine ⟨?_, deadline⟩
    unfold Part.FireStarted
    rw [fire]
    exact .begun (Part.not_acting (by simp))

/-- An event in which no restart begins leaves the machine with the part it makes. -/
theorem Part.FireTurns.goesOn (h : p.FireTurns q) (acts : p.running = true) (waiting : List Instr) :
    q.goesOn p waiting = q := by
  have calm : q.startUp.inProgress = none := by
    rw [h.startUp]
    simp only [Part.running_eq, Bool.and_eq_true, Option.isNone_iff_eq_none] at acts
    exact acts.2
  simp [Part.goesOn, Part.starting_eq, calm]

theorem Part.FireHeld.goesOn (h : p.FireHeld q) (waiting : List Instr) : q.goesOn p waiting = q := by
  unfold Part.goesOn
  split
  · next starts =>
    simp only [Bool.and_eq_true, Bool.not_eq_true'] at starts
    exact absurd (h.starting starts.1) (by simp [starts.2])
  · rfl

theorem Part.FireBecomes.goesOn (h : p.FireBecomes q) (waiting : List Instr) : p.FireSteps (q.goesOn p waiting) := by
  cases h with
  | turns acts h _ =>
    rw [h.goesOn acts waiting]
    exact .turns acts h
  | @restarts r acts h pending =>
    obtain ⟨k, ended⟩ := r.goesOn_fireStarted p .restart waiting
    refine .restarts acts h pending ?_ ended
    have never : (StartInProgress.restart.kind = .cold) = False := by simp [StartInProgress.kind]
    rw [never] at k
    exact k
  | starts run cold =>
    exact .starts (p.beginStart_outputs run).2 (fun k => .inl (cold k)) (p.goesOn_fireStarted p run waiting).1
  | held h =>
    rw [h.goesOn waiting]
    exact .held h

/-! ## The commands -/

/-- The machine is left with what an event makes of the part, and the start it begins goes on. -/
def State.FireBecomes (s : State) (o : Host.Outcome State Fault Refusal) : Prop :=
  ∃ q, s.toPart.FireBecomes q ∧ o = s.become q

theorem Part.FireBecomes.become {s : State} (h : s.toPart.FireBecomes q) : s.FireBecomes (s.become q) := ⟨q, h, rfl⟩

theorem State.event_fireBecomes (s : State) {f : Part → Part} (h : s.toPart.FireTurns (f s.toPart))
    (speaks : s.toPart.Speaks (f s.toPart)) : s.FireBecomes (s.become (s.toPart.event f)) :=
  (Part.event_fireBecomes h speaks).become

/-- An event at blocks that the turns of the sequencer do not show. -/
theorem State.event_sameFire (s : State) {f : Part → Part} (h : s.toPart.SameFire (f s.toPart)) :
    s.FireBecomes (s.become (s.toPart.event f)) := s.event_fireBecomes (.ofSame h) (.ofSame h)

theorem State.timed_fireBecomes (s : State) {due : Part → Bool} {f : Part → Part}
    (h : due s.toPart = true → s.toPart.FireTurns (f s.toPart)) (speaks : s.toPart.Speaks (f s.toPart)) :
    s.FireBecomes (s.become (s.toPart.timed due f)) := (Part.timed_fireBecomes h speaks).become

/-- A timed event at blocks that the turns of the sequencer do not show. -/
theorem State.timed_sameFire (s : State) {due : Part → Bool} {f : Part → Part} (h : s.toPart.SameFire (f s.toPart)) :
    s.FireBecomes (s.become (s.toPart.timed due f)) := s.timed_fireBecomes (fun _ => .ofSame h) (.ofSame h)

theorem exec_fireBecomes (i : Instr) (s : State) : s.FireBecomes (exec i s) := by
  cases i with
  | scanStart => exact s.timed_sameFire (.withMoisture _)
  | channelAnswer g pl t rh agrees => exact s.event_sameFire (.takeAnswer g pl t rh agrees)
  | answerWindowExpiry g pl => exact s.timed_sameFire (.windowCloses g pl)
  | groupStalenessExpiry g => exact s.timed_sameFire (.withMoisture _)
  | burnCompletion => exact s.timed_sameFire (.others (by simp))
  | damperConfirmationExpiry => exact s.timed_sameFire (.others (by simp))
  | loopReading l reading =>
    exact s.timed_fireBecomes (fun _ => .takeLoopReading l reading.toNat) (.takeLoopReading l reading.toNat)
  | inputLevelChange input high => exact (Part.levelChange_fireBecomes input high).become
  | inputHoldExpiry input => exact s.timed_fireBecomes (fun _ => .acceptInput input) (.acceptInput input)
  | localSecondAdvance => exact s.timed_fireBecomes (fun _ => .advanceSecond) .advanceSecond
  | countdownExpiry =>
    exact s.timed_fireBecomes (fun zero => .discharge (Part.countdownOver_iff.1 zero).1) (.discharge _)
  | releasePulseEnd =>
    exact s.timed_fireBecomes (fun due => .pulseEnds (by simp [Part.pulseDue] at due; exact due.1)) (.pulseEnds _)
  | confirmationEnd =>
    exact s.timed_fireBecomes (fun due => .enterHold _ (by simp [Part.confirmationDue] at due; exact due.1))
      (.enterHold _ _)
  | holdExpiry =>
    exact s.timed_fireBecomes (fun due => .holdEnds (by simp [Part.holdDue] at due; exact due.1)) (.holdEnds _)
  | archiveMinuteRise =>
    refine s.timed_sameFire ?_
    unfold Part.riseMinute
    split <;> exact ⟨rfl, rfl, rfl, rfl⟩
  | stepTimeoutExpiry => exact s.timed_sameFire (.ofHatch (.stepTimeoutExpires .refl))
  | unlockWindowExpiry l => exact s.timed_sameFire (.ofHatch (.windowExpires .refl l))
  | tallyEnd report => exact s.timed_sameFire (.ofHatch (.tallyCompletes .refl report))
  | purgeCompletion => exact s.timed_sameFire (.ofHatch (.completePurge .refl _))
  | frameReceived f => exact s.event_fireBecomes (.receiveFrame f) (.receiveFrame f)
  | frameTransmitStart => exact s.event_sameFire (.ite (.refl _) (.others (by simp)))
  | contentionLost bit =>
    refine s.event_sameFire ?_
    split
    · exact .others (by simp)
    · exact .refl _
  | frameSent => exact s.event_sameFire (.others (by simp))
  | peerEntryExpiry x =>
    exact s.timed_sameFire (.trans (.withPeers _) (.evaluate _))
  | neighbourWatchExpiry x => exact s.timed_sameFire (.others (by simp))
  | patternPhaseEnd g =>
    refine s.timed_sameFire ?_
    cases g <;> exact ⟨rfl, rfl, rfl, rfl⟩
  | backupSupplyFall => exact Part.backupFalls_fireBecomes.become
  | mainPowerLoss => exact Part.mainFalls_fireBecomes.become
  | powerStart record pins => exact (Part.mainRises_fireBecomes _).become
  | resetPinAssert => exact Part.resetAsserts_fireBecomes.become
  | resetPinRelease => exact Part.resetReleases_fireBecomes.become
  | restartPendingExpiry =>
    refine Part.FireBecomes.become ?_
    unfold Part.timed Part.event
    split
    · next acts =>
      dsimp only
      split
      · next due =>
        obtain ⟨e, runs, _⟩ := expired_iff.1 due
        rw [Part.settle_eq_self (Part.restartReplyLeft_of_none (by simp [Part.beginRestart]))]
        exact .restarts acts (.refl _) (by simp [runs])
      · exact (Part.FireTurns.refl _).settle acts (.refl _)
    · exact .held (.refl _)
  | _ => exact s.event_fireBecomes (.takeRequest _ _ _) (.takeRequest _ _ _)

theorem exec_fireSteps {i : Instr} {s t : State} (taken : exec i s = .next t) : s.toPart.FireSteps t.toPart := by
  obtain ⟨q, becomes, made⟩ := exec_fireBecomes i s
  rw [made, State.become_goesOn] at taken
  cases taken
  exact becomes.goesOn s.pending

end Sys2Proof.Machine
end

section
/-! PROOF. O24 and O23: the release law, the diagram of the fire state and the alarm record, each from what a step can make
of the sequencer (`Part.FireSteps`) (R66, R67, R77, R86 to R88, R180 to R182). -/

namespace Sys2Proof.Machine

variable {p q r : Part}

/-! ## The release law (R77) -/

section
variable {f g : FireSequencer} {o u : DigitalOutput} {now : Time} {minute : Minute} {cold acts : Prop}

/-- Of a start the law asks only that no release is driven outside DISCHARGED before it. -/
theorem Part.FireStarted.releaseSafe (h : q.FireStarted f o cold) (before : o.state = .drivenOn → f.state = .discharged) :
    q.ReleaseSafe := by
  intro on
  unfold Part.FireStarted at h
  generalize fire : q.fire = g, out2 : q.outputs.out2 = u at h on
  cases h with
  | begun held => exact ⟨before on, fun acts => absurd acts held⟩
  | ended held state => exact ⟨state.trans (before on), fun acts => absurd acts held⟩
  | wiped _ _ _ release => exact absurd on release
  | retained _ _ _ release => exact absurd on release
  | releases _ after _ pulse => exact ⟨after, fun _ => ⟨_, pulse, Nat.le_add_right _ _, Nat.le_refl _⟩⟩

theorem Part.FireTurns.releaseSafe (h : p.FireTurns q) (acts : p.running = true) (safe : p.ReleaseSafe) : q.ReleaseSafe := by
  obtain ⟨_, now, _, turn⟩ := h
  intro on
  generalize fire : q.fire = g, out2 : q.outputs.out2 = u at turn on
  have elsewhere {P : Prop} (same : u = p.outputs.out2) (state : p.fire.state ≠ .discharged) : P :=
    absurd (safe (same ▸ on)).1 state
  cases turn with
  | stays state _ release =>
    obtain ⟨pulse, same⟩ := release.resolve_right fun ended => ended.2 on
    obtain ⟨discharged, ahead⟩ := safe (same ▸ on)
    rw [now, pulse]
    exact ⟨state.trans discharged, fun _ => ahead acts⟩
  | burns before _ _ _ release =>
    rcases release with same | ⟨state, pulse⟩
    · exact elsewhere same fun discharged => by simp [discharged] at before
    · rw [now, pulse]
      exact ⟨state, fun _ => ⟨_, rfl, Nat.le_add_right _ _, Nat.le_refl _⟩⟩
  | holds _ _ _ release => exact absurd on release
  | spends before => exact elsewhere rfl (by simp [before])
  | resets before => exact elsewhere rfl fun discharged => by simp [discharged] at before

theorem Part.FireSteps.releaseSafe (h : p.FireSteps q) (safe : p.ReleaseSafe) : q.ReleaseSafe := by
  cases h with
  | turns acts h => exact h.releaseSafe acts safe
  | restarts acts h _ k => exact k.releaseSafe fun on => (h.releaseSafe acts safe on).1
  | starts out2 _ k =>
    exact k.releaseSafe fun on => (safe (by rcases out2 with same | off; exacts [same ▸ on, absurd on off])).1
  | held h =>
    intro on
    obtain ⟨discharged, ahead⟩ := safe (by rcases h.out2 with same | off; exacts [same ▸ on, absurd on off])
    rw [h.fire, h.now]
    exact ⟨discharged, fun acts => ahead (h.acts acts)⟩

/-- From DISCHARGED the sequencer goes to HOLD or nowhere, and its release pulse ends or stays (R77, R79). -/
theorem FireSequencer.Turns.of_discharged (h : f.Turns o now minute g u) (state : f.state = .discharged) :
    g.state = .hold ∨ g.state = .discharged ∧ (g.pulseEnd = f.pulseEnd ∨ g.pulseEnd = none) := by
  cases h with
  | stays same _ release => exact .inr ⟨same.trans state, release.imp And.left And.left⟩
  | holds _ after => exact .inl after
  | burns before => simp [state] at before
  | spends before => simp [state] at before
  | resets before => simp [state] at before

/-- A start sets a release pulse end only at a release of its own (R86). -/
theorem FireSequencer.Starts.pulse (h : f.Starts o cold acts now g u) (after : g.state = .discharged) {e : Time}
    (pulse : g.pulseEnd = some e) : f.state = .preDischarge ∨ f.state = .discharged ∧ f.pulseEnd = some e := by
  cases h with
  | begun => exact .inr ⟨after, pulse⟩
  | ended _ _ _ ended => cases ended.symm.trans pulse
  | wiped _ quiet => cases quiet.symm.trans after
  | retained _ _ ended => cases ended.symm.trans pulse
  | releases before => exact .inl before

theorem Part.FireSteps.pulse (h : p.FireSteps q) (before : p.fire.state = .discharged) (after : q.fire.state = .discharged)
    {e : Time} (pulse : q.fire.pulseEnd = some e) : p.fire.pulseEnd = some e := by
  have turned {r : Part} (h : p.FireTurns r) (still : r.fire.state = .discharged) (pulse : r.fire.pulseEnd = some e) :
      p.fire.pulseEnd = some e := by
    rcases h.turn.of_discharged before with hold | ⟨_, same | ended⟩
    · cases hold.symm.trans still
    · exact same.symm.trans pulse
    · cases ended.symm.trans pulse
  cases h with
  | turns _ h => exact turned h after pulse
  | @restarts r _ h _ k =>
    rcases FireSequencer.Starts.pulse k after pulse with burning | ⟨still, pulse⟩
    · rcases h.turn.of_discharged before with hold | ⟨still, _⟩
      · cases hold.symm.trans burning
      · cases still.symm.trans burning
    · exact turned h still pulse
  | starts _ _ k =>
    rcases FireSequencer.Starts.pulse k after pulse with burning | ⟨_, pulse⟩
    · cases before.symm.trans burning
    · exact pulse
  | held h => exact h.fire ▸ pulse

end

/-! ## The step without a command waiting (log 2) -/

theorem Part.dueCommands_pulse (none_ : dueCommands p = []) : p.pulseDue = false := by
  rw [← Bool.not_eq_true]
  intro due
  simp [dueCommands, dueSequence, whenDue, due] at none_

/-- An idle step completes a start, lets a millisecond pass while no timer is due, or leaves the part. -/
theorem State.idle_cases (s : State) :
    s.toPart.starting = true ∧ s.idle.toPart = s.toPart.completeStart
    ∨ dueCommands s.toPart = [] ∧ s.idle.toPart = s.toPart.tick
    ∨ ∃ n, s.idle.toPart = s.toPart.withFreeDraws n := by
  unfold State.idle
  split
  · next starts => exact .inl ⟨starts, rfl⟩
  · split
    · split
      · next empty => exact .inr (.inl ⟨empty, rfl⟩)
      · exact .inr (.inr ⟨_, rfl⟩)
    · exact .inr (.inr ⟨s.freeDraws, rfl⟩)

theorem Part.starting_progress (h : p.starting = true) : ∃ run, p.startUp.inProgress = some run := by
  simp only [Part.starting_eq, Bool.and_eq_true, Option.isSome_iff_exists] at h
  exact h.2

/-- No millisecond passes a release pulse end that has come. -/
theorem Part.ReleaseSafe.tick (safe : p.ReleaseSafe) (none_ : dueCommands p = []) : p.tick.ReleaseSafe := by
  intro on
  obtain ⟨discharged, ahead⟩ := safe on
  refine ⟨discharged, fun acts => ?_⟩
  obtain ⟨e, pulse, _, near⟩ := ahead acts
  have later : ¬ e ≤ p.now := fun come => by
    have due : p.pulseDue = true := by simp [Part.pulseDue, discharged, expired, pulse, come]
    exact absurd (due.symm.trans (Part.dueCommands_pulse none_)) nofun
  exact ⟨e, pulse, Nat.lt_of_not_le later, Nat.le_trans near (Nat.add_le_add_right (Nat.le_succ p.now) 2000)⟩

theorem State.idle_releaseSafe (s : State) (safe : s.toPart.ReleaseSafe) : s.idle.toPart.ReleaseSafe := by
  rcases s.idle_cases with ⟨starts, idle⟩ | ⟨empty, idle⟩ | ⟨n, idle⟩
  · obtain ⟨run, progress⟩ := Part.starting_progress starts
    rw [idle]
    exact (Part.completeStart_fireStarted progress).releaseSafe fun on => (safe on).1
  · rw [idle]
    exact safe.tick empty
  · rw [idle]
    exact safe

theorem State.idle_pulse (s : State) (before : s.fire.state = .discharged) (after : s.idle.fire.state = .discharged)
    {e : Time} (pulse : s.idle.fire.pulseEnd = some e) : s.fire.pulseEnd = some e := by
  rcases s.idle_cases with ⟨starts, idle⟩ | ⟨_, idle⟩ | ⟨n, idle⟩
  · obtain ⟨run, progress⟩ := Part.starting_progress starts
    rw [idle] at after pulse
    rcases FireSequencer.Starts.pulse (Part.completeStart_fireStarted progress) after pulse with burning | ⟨_, pulse⟩
    · cases before.symm.trans burning
    · exact pulse
  · rw [idle] at pulse
    exact pulse
  · rw [idle] at pulse
    exact pulse

/-- Settles O24: a command makes one turn of the sequencer, with a start after it or not (`exec_fireSteps`), and no turn
drives OUT2 on outside an entry into DISCHARGED. -/
theorem releaseLawIsKept : Obligations.ReleaseLawIsKept := by
  refine ⟨fun s safe t taken => ?_, fun s before t taken after e pulse => ?_⟩
  · unfold step at taken
    split at taken
    · cases taken
      exact s.idle_releaseSafe safe
    · next c rest _ => exact (exec_fireSteps (s := { s with pending := rest }) taken).releaseSafe safe
  · unfold step at taken
    split at taken
    · cases taken
      exact s.idle_pulse before after pulse
    · next c rest _ => exact (exec_fireSteps (s := { s with pending := rest }) taken).pulse before after pulse

end Sys2Proof.Machine
end

section
/-! PROOF. O23: the law of the starts, the diagram of the fire state and the alarm record (R66, R67, R86 to R88, R180 to
R182). -/

namespace Sys2Proof.Machine

variable {p q r : Part}

/-! ## The law of the starts (R180, R181) -/

theorem Part.running_iff : p.running = true ↔
    (p.startUp.mainOn = true ∧ p.startUp.resetAsserted = false) ∧ p.startUp.inProgress = none := by
  simp [Part.running_eq, Option.isNone_iff_eq_none]

/-- A part that acts, or that has acted and kept its start-up unit, holds no start (R181). -/
theorem Part.StartSound.acting (sound : p.StartSound) (acts : p.running = true)
    (startUp : q.startUp = { p.startUp with restartDeadline := q.startUp.restartDeadline }) : q.StartSound := by
  obtain ⟨⟨_, released⟩, calm⟩ := Part.running_iff.1 acts
  have held : p.startUp.heldStart = none := by
    by_contra held
    cases released.symm.trans (sound.2.1 held).2
  unfold Part.StartSound
  rw [startUp]
  dsimp only
  rw [calm, held]
  exact ⟨nofun, nofun, nofun⟩

theorem Part.StartSound.beginStart (run : StartInProgress)
    (cold : run.kind = .cold → p.startUp.backupValid = false ∨ p.fire.state = .quiet) : (p.beginStart run).StartSound := by
  unfold Part.StartSound
  rw [Part.beginStart_startUp, show (p.beginStart run).fire = p.fire by simp]
  exact ⟨fun _ => ⟨rfl, rfl⟩, nofun, fun kind => cold (by simpa using kind)⟩

/-- A cold start finds the mark invalid, or QUIET written (R180). -/
theorem Part.StartSound.coldStartNext (sound : p.StartSound) (next_ : p.coldStartNext) :
    p.startUp.backupValid = false ∨ p.fire.state = .quiet := by
  rcases next_ with invalid | ⟨x, held, cold⟩
  · exact .inl invalid
  · exact sound.2.2 (.inr (by simp [held, cold]))

theorem Part.FireBecomes.startSound (h : p.FireBecomes q) (sound : p.StartSound) : q.StartSound := by
  cases h with
  | turns acts h => exact sound.acting acts h.startUp
  | restarts => exact .beginStart _ nofun
  | starts run cold => exact .beginStart run fun kind => sound.coldStartNext (cold kind)
  | held h => exact h.sound sound

/-- What the stages of a start make of the start-up unit: the settings it reads and the validity mark a cold start sets
(R180, R183). -/
theorem Part.afterStage_startUp (p : Part) (run : StartInProgress) (stage : StartStage) :
    (p.afterStage run stage).startUp = { p.startUp with
      settings := (p.afterStage run stage).startUp.settings, defaulted := (p.afterStage run stage).startUp.defaulted
      backupValid := (p.afterStage run stage).startUp.backupValid }
    ∧ ((p.afterStage run stage).startUp.backupValid = p.startUp.backupValid
        ∧ (p.afterStage run stage).fire.state = p.fire.state
      ∨ run.kind ≠ .cold ∨ (p.afterStage run stage).fire.state = .quiet) := by
  by_cases kind : run.kind = .cold
  · cases stage <;> simp [Part.afterStage, Part.writeBackup, Part.markBackup, kind, Part.abandonInFlight,
      Part.readConfiguration, FireSequencer.endTimers, Part.makeOutputsSafe, Part.takeStartValues, FireSequencer.atStart,
      FireState.retained]
  · refine ⟨?_, .inr (.inl kind)⟩
    cases which : run.kind with
    | cold => exact absurd which kind
    | warm => cases stage <;> simp [Part.afterStage, Part.writeBackup, Part.markBackup, which, Part.abandonInFlight,
        Part.readConfiguration, Part.makeOutputsSafe, Part.takeStartValues]
    | restart => cases stage <;> simp [Part.afterStage, Part.writeBackup, Part.markBackup, which, Part.abandonInFlight,
        Part.readConfiguration, Part.makeOutputsSafe, Part.takeStartValues]

/-- A start in progress holds no other. -/
theorem Part.StartSound.no_held (sound : p.StartSound) (progress : p.startUp.inProgress ≠ none) :
    p.startUp.heldStart = none := by
  by_contra held
  cases (sound.1 progress).2.symm.trans (sound.2.1 held).2

theorem Part.StartSound.afterStage (sound : p.StartSound) {run : StartInProgress}
    (progress : p.startUp.inProgress = some run) (stage : StartStage) : (p.afterStage run stage).StartSound := by
  obtain ⟨startUp, written⟩ := p.afterStage_startUp run stage
  have unfinished : p.startUp.inProgress ≠ none := by simp [progress]
  have held := sound.no_held unfinished
  unfold Part.StartSound
  rw [startUp]
  dsimp only
  rw [held]
  refine ⟨sound.1, nofun, fun cold => ?_⟩
  have kind : run.kind = .cold := by simpa [progress] using cold
  rcases written with ⟨valid, state⟩ | other | quiet
  · rw [valid, state]
    exact sound.2.2 (.inl (by simp [progress, kind]))
  · exact absurd kind other
  · exact .inr quiet

theorem Part.StartSound.completeStart (sound : p.StartSound) : p.completeStart.StartSound := by
  cases progress : p.startUp.inProgress with
  | none => simpa [Part.completeStart, progress] using sound
  | some run =>
    have valued := sound.afterStage progress .valued
    have held := valued.no_held (by simp [progress])
    rw [show p.completeStart = (p.afterStage run .valued).completion by simp [Part.completeStart, progress]]
    unfold Part.StartSound
    rw [Part.completion_startUp, held]
    exact ⟨nofun, nofun, nofun⟩

theorem Part.StartSound.afterBegin (sound : p.StartSound) (waiting : List Instr) : (p.afterBegin waiting).StartSound := by
  have drawn : (p.withFreeDraws (p.freeDraws + 1)).StartSound := sound
  unfold Part.afterBegin
  split
  · dsimp only
    split
    · unfold Part.unfinished
      split
      · next progress => exact drawn.afterStage progress _
      · exact drawn
    · exact drawn.completeStart
  · exact sound.completeStart

theorem exec_startSound {i : Instr} {s t : State} (taken : exec i s = .next t) (sound : s.toPart.StartSound) :
    t.toPart.StartSound := by
  obtain ⟨q, becomes, made⟩ := exec_fireBecomes i s
  rw [made, State.become_goesOn] at taken
  cases taken
  have begun := becomes.startSound sound
  show (q.goesOn s.toPart s.pending).StartSound
  unfold Part.goesOn
  split
  · exact begun.afterBegin _
  · exact begun

/-! ## The diagram of the fire state (Table 5-3) -/

section
variable {f g : FireSequencer} {o u : DigitalOutput} {now : Time} {minute : Minute} {cold acts : Prop}

theorem FireState.leadsTo_of_burning {a b : FireState} (before : a = .quiet ∨ a = .alert ∨ a = .preDischarge)
    (after : b = .alert ∨ b = .preDischarge ∨ b = .discharged) : b = a ∨ a.leadsTo b = true := by
  rcases before with rfl | rfl | rfl <;> rcases after with rfl | rfl | rfl <;> decide

/-- A turn follows the diagram (R66). -/
theorem FireSequencer.Turns.follows (h : f.Turns o now minute g u) : g.state = f.state ∨ f.state.leadsTo g.state = true := by
  cases h with
  | stays state => exact .inl state
  | burns before after => exact FireState.leadsTo_of_burning before after
  | holds before after => exact .inr (by rw [before, after]; rfl)
  | spends before after => exact .inr (by rw [before, after]; rfl)
  | resets before after => rcases before with before | before <;> exact .inr (by rw [before, after]; rfl)

/-- A start keeps the fire state, makes HOLD of DISCHARGED, releases in PRE_DISCHARGE, or is a cold one (R87, R88). -/
theorem FireSequencer.Starts.follows (h : f.Starts o cold acts now g u) : g.state = f.state ∨ cold ∧ g.state = .quiet
    ∨ f.state = .discharged ∧ g.state = .hold ∨ f.state = .preDischarge ∧ g.state = .discharged := by
  cases h with
  | begun => exact .inl rfl
  | ended _ state => exact .inl state
  | wiped why state => exact .inr (.inl ⟨why, state⟩)
  | retained state =>
    rcases state with same | kept
    · exact .inl same
    · cases before : f.state with
      | discharged => exact .inr (.inr (.inl ⟨rfl, by rw [kept, before]; rfl⟩))
      | _ => exact .inl (by rw [kept, before]; rfl)
  | releases before after => exact .inr (.inr (.inr ⟨before, after⟩))

/-- What leads to PRE_DISCHARGE can go on to DISCHARGED in one event. -/
theorem FireState.leadsTo_discharged {a : FireState} (leads : a.leadsTo .preDischarge = true) :
    a.leadsTo .discharged = true := by
  cases a <;> revert leads <;> decide

theorem Part.FireSteps.follows (h : p.FireSteps q) : q.fire.state = p.fire.state
    ∨ q.fire.state = .quiet ∧ p.coldStartNext ∨ p.fire.state.leadsTo q.fire.state = true
    ∨ p.fire.state.leadsTo .discharged = true ∧ q.fire.state = .hold
      ∧ p.startUp.restartDeadline ≠ none ∧ q.startUp.restartDeadline = none := by
  cases h with
  | turns _ h => exact h.turn.follows.imp_right fun leads => .inr (.inl leads)
  | @restarts r _ h pending k ended =>
    have turned := h.turn.follows
    rcases FireSequencer.Starts.follows k with same | ⟨never, _⟩ | ⟨before, after⟩ | ⟨before, after⟩
    · rw [same]
      exact turned.imp_right fun leads => .inr (.inl leads)
    · exact never.elim
    · rcases turned with still | leads
      · exact .inr (.inr (.inl (by rw [← still, before, after]; rfl)))
      · refine .inr (.inr (.inr ⟨before ▸ leads, after, ?_, ended⟩))
        rcases h.pending with deadline | still
        · exact deadline ▸ pending
        · rw [still] at leads before
          rw [before] at leads
          cases leads
    · refine .inr (.inr (.inl ?_))
      rw [after]
      rcases turned with still | leads
      · rw [← still, before]
        rfl
      · exact FireState.leadsTo_discharged (before ▸ leads)
  | starts _ why k =>
    rcases FireSequencer.Starts.follows k with same | ⟨cold, quiet⟩ | ⟨before, after⟩ | ⟨before, after⟩
    · exact .inl same
    · rcases why cold with next_ | before
      · exact .inr (.inl ⟨quiet, next_⟩)
      · exact .inl (quiet.trans before.symm)
    · exact .inr (.inr (.inl (by rw [before, after]; rfl)))
    · exact .inr (.inr (.inl (by rw [before, after]; rfl)))
  | held h => exact .inl (by rw [h.fire])

/-! ## The alarm record (R67) -/

/-- The alarm record is written at a way out of QUIET with this archive minute, cleared at a way into QUIET, and not
changed between the two. -/
structure FireSequencer.RecordKept (f : FireSequencer) (minute : Minute) (g : FireSequencer) : Prop where
  written : f.state = .quiet → g.state ≠ .quiet → ∃ x, g.alarm = some x ∧ x.minute = minute
  cleared : g.state = .quiet → g.alarm = none
  kept : f.state ≠ .quiet → g.state ≠ .quiet → g.alarm = f.alarm

/-- The record goes with the state. -/
theorem FireSequencer.RecordKept.of_same (sound : f.alarm = none ↔ f.state = .quiet)
    (state : g.state = .quiet ↔ f.state = .quiet) (alarm : g.alarm = f.alarm) : f.RecordKept minute g where
  written := fun before after => absurd (state.2 before) after
  cleared := fun quiet => alarm.trans (sound.2 (state.1 quiet))
  kept := fun _ _ => alarm

theorem FireSequencer.RecordKept.of_quiet (state : g.state = .quiet) (alarm : g.alarm = none) : f.RecordKept minute g :=
  ⟨fun _ after => absurd state after, fun _ => alarm, fun _ after => absurd state after⟩

theorem FireSequencer.Turns.recordKept (h : f.Turns o now minute g u) (sound : f.alarm = none ↔ f.state = .quiet) :
    f.RecordKept minute g := by
  cases h with
  | stays state alarm => exact .of_same sound (by rw [state]) alarm
  | burns before after written kept =>
    exact ⟨fun quiet _ => written quiet, fun quiet => by simp [quiet] at after, fun burns _ => kept burns⟩
  | holds before after kept => exact .of_same sound (by simp [before, after]) kept
  | spends before after kept => exact .of_same sound (by simp [before, after]) kept
  | resets _ after cleared => exact .of_quiet after cleared

/-- A start writes no record, and clears it where it writes QUIET (R67, R87). -/
theorem FireSequencer.Starts.record (h : f.Starts o cold acts now g u) :
    g.state = .quiet ∧ g.alarm = none ∨ (g.state = .quiet ↔ f.state = .quiet) ∧ g.alarm = f.alarm := by
  cases h with
  | begun => exact .inr ⟨.rfl, rfl⟩
  | ended _ state alarm => exact .inr ⟨by rw [state], alarm⟩
  | wiped _ state alarm => exact .inl ⟨state, alarm⟩
  | retained state alarm =>
    refine .inr ⟨?_, alarm⟩
    rcases state with same | kept
    · rw [same]
    · rw [kept]
      cases f.state <;> decide
  | releases before after alarm => exact .inr ⟨by simp [before, after], alarm⟩

theorem Part.FireSteps.recordKept (h : p.FireSteps q) (sound : p.fire.alarm = none ↔ p.fire.state = .quiet) :
    p.fire.RecordKept p.minute q.fire := by
  cases h with
  | turns _ h => exact h.turn.recordKept sound
  | @restarts r _ h _ k =>
    rcases FireSequencer.Starts.record k with ⟨quiet, none_⟩ | ⟨state, alarm⟩
    · exact .of_quiet quiet none_
    · obtain ⟨written, cleared, kept⟩ := h.turn.recordKept sound
      rw [← alarm] at written cleared kept
      exact ⟨fun before after => written before (mt state.2 after), fun quiet => cleared (state.1 quiet),
        fun before after => kept before (mt state.2 after)⟩
  | starts _ _ k =>
    rcases FireSequencer.Starts.record k with ⟨quiet, none_⟩ | ⟨state, alarm⟩
    · exact .of_quiet quiet none_
    · exact .of_same sound state alarm
  | held h => exact .of_same sound (by rw [h.fire]) (by rw [h.fire])

end

/-! ## The steps -/

theorem State.idle_startSound (s : State) (sound : s.toPart.StartSound) : s.idle.toPart.StartSound := by
  rcases s.idle_cases with ⟨_, idle⟩ | ⟨_, idle⟩ | ⟨n, idle⟩
  · rw [idle]
    exact sound.completeStart
  · rw [idle]
    exact sound
  · rw [idle]
    exact sound

/-- An idle step is a start that completes, or leaves the sequencer. -/
theorem State.idle_follows (s : State) (sound : s.toPart.StartSound) : s.idle.fire.state = s.fire.state
    ∨ s.idle.fire.state = .quiet ∧ s.toPart.coldStartNext ∨ s.fire.state.leadsTo s.idle.fire.state = true := by
  rcases s.idle_cases with ⟨starts, idle⟩ | ⟨_, idle⟩ | ⟨n, idle⟩
  · obtain ⟨run, progress⟩ := Part.starting_progress starts
    rw [idle]
    rcases FireSequencer.Starts.follows (Part.completeStart_fireStarted progress) with
      same | ⟨cold, quiet⟩ | ⟨before, after⟩ | ⟨before, after⟩
    · exact .inl same
    · rcases sound.2.2 (.inl (by simp [progress, cold])) with invalid | before
      · exact .inr (.inl ⟨quiet, .inl invalid⟩)
      · exact .inl (quiet.trans before.symm)
    · exact .inr (.inr (by rw [before, after]; rfl))
    · exact .inr (.inr (by rw [before, after]; rfl))
  · rw [idle]
    exact .inl rfl
  · rw [idle]
    exact .inl rfl

/-- Settles O23: the law of the starts by `Part.FireBecomes`, the diagram and the alarm record by `Part.FireSteps`. -/
theorem fireStatesFollowTheirDiagram : Obligations.FireStatesFollowTheirDiagram := by
  refine ⟨fun s sound t taken => ?_, fun s sound t taken => ?_, fun c s sound t taken => ?_⟩
  · unfold step at taken
    split at taken
    · cases taken
      exact s.idle_startSound sound
    · next c rest _ => exact exec_startSound (s := { s with pending := rest }) taken sound
  · unfold step at taken
    split at taken
    · cases taken
      exact (s.idle_follows sound).imp_right fun moved => moved.imp_right .inl
    · next c rest _ => exact (exec_fireSteps (s := { s with pending := rest }) taken).follows
  · obtain ⟨written, cleared, kept⟩ := (exec_fireSteps taken).recordKept sound
    exact ⟨written, cleared, kept⟩

end Sys2Proof.Machine
end

section
/-! PROOF. O21: what the ends of the countdown, the release pulse, the confirmation and the hold make of the part (R75, R77,
R79 to R81, R85). -/

namespace Sys2Proof.Machine

variable {p q r : Part}

/-! ## Entry into HOLD and SPENT (R78 to R81) -/

theorem Part.enterHold_fire (p : Part) (unconfirmed : Bool) : (p.enterHold unconfirmed).fire = { p.fire with
    state := .hold, pulseEnd := none, confirmationEnd := none, holdEnd := some (p.now + seconds p.settings.hold)
    releaseUnconfirmed := p.fire.releaseUnconfirmed || unconfirmed } :=
  (Part.changeFire_fire _ _).trans (FireSequencer.entered_sealed rfl _)

/-- OUT2 in HOLD: off, RELEASED where it is not fitted (R79, R170). -/
theorem Part.enterHold_out2 (p : Part) (unconfirmed : Bool) : (p.enterHold unconfirmed).outputs.out2
    = ⟨.drivenOff, if outputFitted p.settings 2 then .drivenOff else .released⟩ :=
  (Part.changeFire_out2 _ _).trans (p.requestOutput_self .out2 .drivenOff)

theorem Part.holdEnds_fire (p : Part) : p.holdEnds.fire = { p.fire with state := .spent, holdEnd := none } :=
  (Part.changeFire_fire _ _).trans (FireSequencer.entered_sealed rfl _)

/-! ## The commands of the four timers -/

theorem exec_countdownExpiry (s : State) :
    exec .countdownExpiry s = s.become (s.toPart.timed Part.countdownOver Part.discharge) := rfl

theorem exec_releasePulseEnd (s : State) :
    exec .releasePulseEnd s = s.become (s.toPart.timed Part.pulseDue Part.pulseEnds) := rfl

theorem exec_confirmationEnd (s : State) :
    exec .confirmationEnd s = s.become (s.toPart.timed Part.confirmationDue Part.confirmationEnds) := rfl

theorem exec_holdExpiry (s : State) : exec .holdExpiry s = s.become (s.toPart.timed Part.holdDue Part.holdEnds) := rfl

/-- A timed event that changes the fire state, at a part that is ready: the marked reply is covered (R182). -/
theorem State.ready.become_timed_covered {s : State} {due : Part → Bool} {f : Part → Part} (h : s.ready)
    (ran : due s.toPart = true) (startUp : (f s.toPart).startUp = s.startUp)
    (covers : s.bus.coversReply → (f s.toPart).bus.coversReply) :
    s.become (s.toPart.timed due f) = .next { s with toPart := f s.toPart } :=
  h.become_timed_of_shows ran startUp fun holds => (covers (.inl (holds.mono (by decide)))).showsReply

/-- Settles O21: each timer's block, where its time has come. -/
theorem releaseTimersAct : Obligations.ReleaseTimersAct := by
  refine ⟨fun s ready state zero runs => ?_, fun s ready state e pulse ran => ?_, fun s ready =>
    ⟨fun state unseen e confirmation ran => ?_, fun state e hold ran => ?_⟩⟩
  · have taken : exec .countdownExpiry s = .next { s with toPart := s.toPart.discharge } := by
      rw [exec_countdownExpiry]
      exact ready.become_timed_covered (Part.countdownOver_iff.2 ⟨state, zero, runs⟩) (by simp) Part.discharge_covers
    obtain ⟨three, four⟩ := s.toPart.discharge_signals
    exact ⟨_, taken, Part.discharge_fire, Part.discharge_out2, three, four,
      (Part.discharge_fireOnly (p := s.toPart) (by rw [state]; rfl)).state s.pending⟩
  · intro off
    have due : s.toPart.pulseDue = true := by simp [Part.pulseDue, state, pulse, expired, Part.now_eq, ran]
    refine ⟨fun unseen => ?_, fun seen => ?_⟩
    · have ends : s.toPart.pulseEnds = (s.toPart.requestOutput .out2 .drivenOff).withFire
          { s.fire with pulseEnd := none } := if_neg (by simp [unseen])
      rw [exec_releasePulseEnd, ready.become_timed_covered due (by simp) (by rw [ends]; exact fun covers => covers), ends]
      rfl
    · have ends : s.toPart.pulseEnds = s.toPart.enterHold false := if_pos seen
      have taken : exec .releasePulseEnd s = .next { s with toPart := s.toPart.enterHold false } := by
        rw [exec_releasePulseEnd, ready.become_timed_covered due (by simp)
          (by rw [ends]; exact fun covers => Part.enterHold_covers covers _), ends]
      refine ⟨_, taken, ?_, Part.enterHold_out2 _ _,
        (Part.enterHold_fireOnly (p := s.toPart) (by rw [state]; rfl) false).state s.pending⟩
      exact (s.toPart.enterHold_fire false).trans (by rw [Bool.or_false]; rfl)
  · have due : s.toPart.confirmationDue = true := by
      simp [Part.confirmationDue, state, confirmation, expired, Part.now_eq, ran]
    have ends : s.toPart.confirmationEnds = s.toPart.enterHold true := by
      rw [Part.confirmationEnds, unseen]
      rfl
    have taken : exec .confirmationEnd s = .next { s with toPart := s.toPart.enterHold true } := by
      rw [exec_confirmationEnd, ready.become_timed_covered due (by simp)
        (by rw [ends]; exact fun covers => Part.enterHold_covers covers _), ends]
    refine ⟨_, taken, ?_, (Part.enterHold_fireOnly (p := s.toPart) (by rw [state]; rfl) true).state s.pending⟩
    exact (s.toPart.enterHold_fire true).trans (by rw [Bool.or_true]; rfl)
  · have due : s.toPart.holdDue = true := by simp [Part.holdDue, state, hold, expired, Part.now_eq, ran]
    have taken : exec .holdExpiry s = .next { s with toPart := s.toPart.holdEnds } := by
      rw [exec_holdExpiry]
      exact ready.become_timed_covered due (by simp) fun covers => Part.changeFire_covers covers _
    exact ⟨_, taken, s.toPart.holdEnds_fire,
      (Part.changeFire_fireOnly (p := s.toPart) (.inl (by rw [state]; rfl))).state s.pending⟩

end Sys2Proof.Machine
end

section
/-! PROOF. O22: CANCEL_DISCHARGE and RESET_FIRE, and the frames of a change of the fire state that the hatch controller does
not act on (R66, R76, R82, R161). -/

namespace Sys2Proof.Machine

variable {p q : Part}

/-! ## Two FIRE_STATE contents in one event (R161) -/

/-- Content that takes the place of the pending content of its kind takes that of a second content at once. -/
theorem changeFirst_pending_twice (x y : Body) {k : CoalescedKind} (kind : x.coalescedKind = some k) (q : List TxFrame) :
    changeFirst (TxFrame.pendingOf k) (fun f => { f with body := y })
        (changeFirst (TxFrame.pendingOf k) (fun f => { f with body := x }) q)
      = changeFirst (TxFrame.pendingOf k) (fun f => { f with body := y }) q := by
  induction q with
  | nil => rfl
  | cons f fs ih =>
    by_cases pending : f.pendingOf k = true
    · have still : ({ f with body := x } : TxFrame).pendingOf k = true := by
        simp only [TxFrame.pendingOf, Bool.and_eq_true, beq_iff_eq] at pending ⊢
        exact ⟨pending.1, kind⟩
      simp [changeFirst, pending, still]
    · simp [changeFirst, pending, ih]

/-- In a queue with no FIRE_STATE pending, the second content takes the place of the first where that entered. -/
theorem changeFirst_insertByClass (x y : FireContent) {q : List TxFrame}
    (calm : q.any (TxFrame.pendingOf .fireState) = false) :
    changeFirst (TxFrame.pendingOf .fireState) (fun f => { f with body := .fireState y })
        (insertByClass (fireStateFrame x) q) = insertByClass (fireStateFrame y) q := by
  induction q with
  | nil => rfl
  | cons f fs ih =>
    obtain ⟨other, rest⟩ := Bool.or_eq_false_iff.1 ((List.any_cons ..).symm.trans calm)
    by_cases earlier : classCode FrameClass.fire < classCode f.cls
    · simp only [insertByClass, fireStateFrame, newFrame, earlier, if_true, changeFirst]
      rfl
    · have insert (c : FireContent) : insertByClass (fireStateFrame c) (f :: fs)
          = f :: insertByClass (fireStateFrame c) fs := if_neg earlier
      rw [insert, insert, changeFirst, if_neg (by simp [other]), ih rest]

/-- A queue that takes a FIRE_STATE content and then another stands as after the second alone. -/
theorem placeFrame_fireState_twice (x y : FireContent) (q : List TxFrame) :
    placeFrame (fireStateFrame y) (placeFrame (fireStateFrame x) q) = placeFrame (fireStateFrame y) q := by
  have inPlace (c : FireContent) {r : List TxFrame} (pending : r.any (TxFrame.pendingOf .fireState) = true) :
      placeFrame (fireStateFrame c) r
        = changeFirst (TxFrame.pendingOf .fireState) (fun f => { f with body := .fireState c }) r :=
    placeFrame_of_pending rfl pending
  have entersAt (c : FireContent) {r : List TxFrame} (calm : r.any (TxFrame.pendingOf .fireState) = false) :
      placeFrame (fireStateFrame c) r = enterQueue (fireStateFrame c) r := if_neg (by simp [calm])
  have waits (c : FireContent) (r : List TxFrame) :
      (insertByClass (fireStateFrame c) r).any (TxFrame.pendingOf .fireState) = true :=
    List.any_eq_true.2 ⟨_, (insertByClass_perm _ r).mem_iff.2 List.mem_cons_self, rfl⟩
  cases shown : q.any (TxFrame.pendingOf .fireState) with
  | true =>
    obtain ⟨f, mem, pending⟩ := List.any_eq_true.1 shown
    rw [inPlace y (List.any_eq_true.2 (placeFrame_keeps_fireState mem pending (.inr rfl))), inPlace x shown, inPlace y shown]
    exact changeFirst_pending_twice _ _ rfl q
  | false =>
    rw [entersAt x shown, entersAt y shown]
    unfold enterQueue
    by_cases room : q.length < queueCapacity
    · rw [if_pos room, if_pos room, inPlace y (waits x q)]
      exact changeFirst_insertByClass x y shown
    · simp only [if_neg room, fireStateFrame, newFrame, if_true, shown]
      by_cases routine : q.any TxFrame.pendingRoutine = true
      · have calm : (q.eraseP TxFrame.pendingRoutine).any (TxFrame.pendingOf .fireState) = false := by
          rw [List.any_eq_false] at shown ⊢
          exact fun f mem => shown f (List.mem_of_mem_eraseP mem)
        simp only [routine, if_true]
        exact (inPlace y (waits x _)).trans (changeFirst_insertByClass x y calm)
      · simp only [routine]
        exact (entersAt y shown).trans (by simp [enterQueue, room, fireStateFrame, newFrame, routine, shown])

theorem BusPort.handed_fireState_twice (b : BusPort) (x y : FireContent) :
    (b.handed (fireStateFrame x)).handed (fireStateFrame y) = b.handed (fireStateFrame y) := by
  by_cases own : b.station = none
  · simp only [BusPort.handed_of_listenOnly own]
  · rw [BusPort.handed_eq (b := b.handed _) (by simpa using own), BusPort.handed_eq own, BusPort.handed_eq own]
    exact congrArg (fun r => { b with queue := r }) (placeFrame_fireState_twice x y b.queue)

/-! ## The frames of a change (R35, R48, R66) -/

/-- An evaluation after FIRE_STATE was handed: FIRE_STATE as it then stands, and CLIMATE in the place of a pending one. -/
theorem Part.evaluate_bus_after_fireState (b : BusPort) (shown : p.bus = b.handed (fireStateFrame p.fireContent)) :
    p.evaluate.bus = b.handed (fireStateFrame p.evaluate.fireContent)
      ∨ p.evaluate.bus = (b.handed (fireStateFrame p.evaluate.fireContent)).handed
          (newFrame .routine 63#6 (.climate p.evaluate.climateContent))
        ∧ (b.handed (fireStateFrame p.evaluate.fireContent)).queue.any (TxFrame.pendingOf .climate) = true := by
  have fault : p.bus.faultShown p.climate.damperFault p.evaluate = b.handed (fireStateFrame p.evaluate.fireContent) := by
    unfold BusPort.faultShown
    split
    · next same => rw [shown, Part.fireContent_congr (p := p.evaluate) (by simp) (by simp) same]
    · rw [shown]
      exact b.handed_fireState_twice _ _
  rw [Part.evaluate_bus, BusPort.evaluated_eq, fault]
  split
  · exact .inl rfl
  · next changed => exact .inr ⟨rfl, by simpa using (not_or.1 changed).2⟩

section
variable {f : FireSequencer} (calm : p.fire.state.sealed = true ∨ f.state.sealed = false)
include calm

/-- FIRE_STATE before CLIMATE (log 10). -/
theorem Part.changeFire_bus : (p.changeFire f).bus = p.bus.handed (fireStateFrame (p.changeFire f).fireContent)
    ∨ (p.changeFire f).bus = (p.bus.handed (fireStateFrame (p.changeFire f).fireContent)).handed
        (newFrame .routine 63#6 (.climate (p.changeFire f).climateContent))
      ∧ (p.bus.handed (fireStateFrame (p.changeFire f).fireContent)).queue.any (TxFrame.pendingOf .climate) = true := by
  rw [Part.changeFire_calm calm]
  refine Part.evaluate_bus_after_fireState _ ?_
  rw [Part.handFireState_bus, Part.handFireState_fireContent]
  simp [fireStateFrame]

/-- The marked reply, with room for a reply to follow (R162, R182). -/
theorem Part.changeFire_holdsReply (h : p.bus.holdsReply 6) : (p.changeFire f).bus.holdsReply 7 := by
  have first := h.handed (by decide) (fireStateFrame (p.changeFire f).fireContent)
  rcases Part.changeFire_bus calm with bus | ⟨bus, pending⟩
  · rw [bus]
    exact first
  · rw [bus]
    exact first.handed_inPlace rfl pending

/-- The air path after a change is that of the last evaluation, which leaves it SHUT for a released peer alone (R40, R42). -/
theorem Part.changeFire_airPath (open_ : f.state.sealed = false) (peers : p.peerShut = false) :
    (p.changeFire f).climate.airPath ≠ .shut := by
  rw [Part.changeFire_calm calm, Part.evaluate_climate, Part.resolveAirPath_airPath]
  generalize made : (p.withFire (f.entered (p.inactive .in4))).requestSignals.handFireState = r
  have shut : r.shutCondition = false := by
    have state : r.fire.state = f.state := by simp [← made, FireSequencer.entered_state]
    have same : r.peerShut = p.peerShut := by simp [← made, Part.peerShut, Part.ductPeer, Part.settings_eq]
    rw [Part.shutCondition, state, open_, same, peers]
    rfl
  unfold Part.airPathChoice resolve
  rw [shut]
  cases r.hatch.purgeRequest with
  | true => simp
  | false => by_cases granted : 0 < r.computedGrant <;> cases r.settings.parkEnable <;> simp [granted]

end

/-! ## The two requests (R76, R82) -/

/-- The machine after a change of the fire state. -/
def State.changesFire (s : State) (f : FireSequencer) : State := { s with toPart := s.toPart.changeFire f }

/-- What CANCEL_DISCHARGE makes of the sequencer, but for CYLINDER_LOW (R76). -/
def FireSequencer.cancelled (f : FireSequencer) : FireSequencer :=
  { f with state := .alert, paused := false, countdown := none }

/-- What RESET_FIRE makes of the sequencer, but for CYLINDER_LOW (R82). -/
def FireSequencer.reset (f : FireSequencer) : FireSequencer :=
  { f with state := .quiet, alarm := none, releaseUnconfirmed := false }

theorem Part.inactive_eq_decide (p : Part) (i : InputId) :
    p.inactive i = decide ((p.inputs.get i).accepted = some false) := by
  unfold Part.inactive
  rw [Bool.eq_iff_iff]
  simp

/-- CYLINDER_LOW at an entry into QUIET or ALERT (R83). -/
theorem FireSequencer.entered_open {f : FireSequencer} (open_ : f.state.sealed = false) (low : Bool) :
    f.entered low = { f with cylinderLow := f.cylinderLow || low } := by
  cases low <;> simp [FireSequencer.entered, open_]

section
variable {s : State} {src : Station} {role : Role} {r : Request} {f : FireSequencer} {data : ReplyData}

/-- A request whose owner changes the fire state, short of sealing the zone, and answers DONE. -/
theorem State.request_changes (h : s.takesFrom src) (taken : r.kind.takenFrom role = true) (fits : r.fits = true)
    (range : r.offence = none) (calm : s.fire.state.sealed = true ∨ f.state.sealed = false)
    (owner : s.toPart.handToOwner (requester src r) r
      = (s.toPart.changeFire f).reply (requester src r) .done data) :
    s.request src role r
      = .next ((s.changesFire f).answered src r.kind .done data) := by
  have startUp : ((s.toPart.changeFire f).reply (requester src r) .done data).startUp = s.startUp := by simp
  have kept : ((s.toPart.changeFire f).reply (requester src r) .done data).restartReplyLeft = false :=
    h.1.restartReplyLeft_of_holdsReply startUp fun holds => by
      rw [Part.reply, Part.handFrame_bus]
      exact (Part.changeFire_holdsReply calm holds).handed (by decide) _
  rw [State.request_eq h taken fits range (owner ▸ kept) (owner ▸ startUp ▸ h.1.inProgress), owner]
  exact congrArg Host.Outcome.next (congrArg (State.mk · s.pending)
    ((s.changesFire f).answered_toPart src r.kind .done data).symm)

/-- What such a request leaves of the machine, with its frames in the order of log 10. -/
theorem State.changed_answered (calm : s.fire.state.sealed = true ∨ f.state.sealed = false) (k : RequestKind) :
    let t := (s.changesFire f).answered src k .done data
    (let first := s.bus.handed (newFrame .fire 63#6 (.fireState t.toPart.fireContent))
     t.bus = first.handed (replyFrame src k .done data)
      ∨ t.bus = (first.handed (newFrame .routine 63#6 (.climate t.toPart.climateContent))).handed
          (replyFrame src k .done data))
    ∧ t = { s with fire := t.fire, climate := t.climate, outputs := t.outputs, bus := t.bus } := by
  constructor
  · exact (Part.changeFire_bus calm).imp (congrArg (BusPort.handed · _)) fun ⟨climate, _⟩ =>
      congrArg (BusPort.handed · _) climate
  · have answered : (s.toPart.changeFire f).FireOnly
        ((s.toPart.changeFire f).withBus ((s.toPart.changeFire f).bus.handed (replyFrame src k .done data))) := rfl
    exact ((Part.changeFire_fireOnly calm).trans answered).state s.pending

end

theorem Part.loopsInAlarm_iff (p : Part) : (p.loopInAlarm .a || p.loopInAlarm .b) = true
    ↔ p.loops.a.accepted.alarm = true ∨ p.loops.b.accepted.alarm = true := by
  rw [Bool.or_eq_true]
  rfl

section
variable {s : State} {src : Station}

theorem State.cancelDischarge_changes (h : s.takesFrom src) (state : s.fire.state = .preDischarge)
    (staffed : s.occupancy = .staffed) : exec (.cancelDischarge src .console) s
      = .next ((s.changesFire s.fire.cancelled).answered src .cancelDischarge .done (.fireState .alert)) := by
  refine State.request_changes (r := .cancelDischarge) h rfl rfl rfl (.inr rfl) ?_
  exact (if_neg (not_not.2 state)).trans (if_neg (by simp [staffed]))

theorem State.resetFire_changes (h : s.takesFrom src) (state : s.fire.state.resettable = true)
    (clear : (s.toPart.loopInAlarm .a || s.toPart.loopInAlarm .b) = false) : exec (.resetFire src .console) s
      = .next ((s.changesFire s.fire.reset).answered src .resetFire .done .nothing) := by
  refine State.request_changes (r := .resetFire) h rfl rfl rfl (.inr rfl) ?_
  exact if_neg (by simpa [state] using clear)

end

theorem takenFrom_console {role : Role} (other : role ≠ .console) :
    RequestKind.cancelDischarge.takenFrom role = false ∧ RequestKind.resetFire.takenFrom role = false := by
  simp [RequestKind.takenFrom, other]

/-- Settles O22: the owner's tests in their order, and one change of the fire state with its frames where they pass. -/
theorem cancelAndResetByState : Obligations.CancelAndResetByState := by
  refine ⟨fun s src h => ?_, fun s src h => ?_⟩
  · refine ⟨fun state => ?_, fun state away => ?_, fun state staffed => ?_, fun role other => ?_⟩
    · exact State.request_answered (u := s) (r := .cancelDischarge) h rfl rfl rfl rfl rfl rfl (if_pos state)
    · exact State.request_answered (u := s) (r := .cancelDischarge) h rfl rfl rfl rfl rfl rfl
        ((if_neg (not_not.2 state)).trans (if_pos away))
    · obtain ⟨three, four⟩ := s.toPart.changeFire_signals s.fire.cancelled
      obtain ⟨frames, only⟩ := State.changed_answered (s := s) (src := src) (data := .fireState .alert)
        (f := s.fire.cancelled) (.inr rfl) .cancelDischarge
      refine ⟨_, State.cancelDischarge_changes h state staffed, ?_, three, four,
        fun peers => Part.changeFire_airPath (f := s.fire.cancelled) (.inr rfl) rfl peers, frames, only⟩
      exact (Part.changeFire_fire _ _).trans
        ((FireSequencer.entered_open rfl _).trans (by simp only [Part.inactive_eq_decide, FireSequencer.cancelled]))
    · exact State.request_badRole (r := .cancelDischarge) h (takenFrom_console other).1
  · refine ⟨fun refused => ?_, fun resets quiet => ?_, fun role other => ?_⟩
    · refine State.request_answered (u := s) (r := .resetFire) h rfl rfl rfl rfl rfl rfl (if_pos ?_)
      rw [Bool.or_assoc, Bool.or_eq_true, Part.loopsInAlarm_iff, Bool.not_eq_true', Bool.eq_false_iff, Ne,
        FireState.resettable_iff]
      exact refused
    · obtain ⟨three, four⟩ := s.toPart.changeFire_signals s.fire.reset
      obtain ⟨frames, only⟩ := State.changed_answered (s := s) (src := src) (data := .nothing)
        (f := s.fire.reset) (.inr rfl) .resetFire
      refine ⟨_, State.resetFire_changes h (FireState.resettable_iff.2 resets)
        (Bool.eq_false_iff.2 (mt (Part.loopsInAlarm_iff _).1 quiet)), ?_, frames, three, four, only⟩
      exact (Part.changeFire_fire _ _).trans
        ((FireSequencer.entered_open rfl _).trans (by simp only [Part.inactive_eq_decide, FireSequencer.reset]))
    · exact State.request_badRole (r := .resetFire) h (takenFrom_console other).2

end Sys2Proof.Machine
end

section
/-! PROOF. O16: what an accepted alarm class makes of a zone in QUIET and in ALERT (R67, R68, R70 to R72). -/

namespace Sys2Proof.Machine

variable {p q r : Part} {l : LoopId} {n : Nat} {alarm : Option AlarmRecord} {x : AlarmRecord}

/-! ## The entry into PRE_DISCHARGE (R72) -/

/-- `q` has come from `p` into PRE_DISCHARGE with this countdown and alarm record, or further into DISCHARGED where the
countdown is 0 and no abort pauses it (R72, log 14). -/
def Part.CountsOrReleases (p q : Part) (n : Nat) (alarm : Option AlarmRecord) : Prop :=
  if n = 0 ∧ p.active .in3 = false then p.ReleaseBegun q alarm
  else q.fire.state = .preDischarge ∧ q.fire.countdown = some n ∧ q.fire.paused = p.active .in3 ∧ q.fire.alarm = alarm
    ∧ q.outputs.out3.request = .pattern .preDischarge ∧ q.outputs.out4.request = .pattern .preDischarge

theorem Part.enterPreDischarge_countsOrReleases (p : Part) (n : Nat) (alarm : Option AlarmRecord) :
    p.CountsOrReleases (p.enterPreDischarge n alarm) n alarm := by
  unfold CountsOrReleases
  split
  · next zero => exact Part.enterPreDischarge_expires zero.1 zero.2
  · next ahead =>
    obtain ⟨fire, three, four⟩ := Part.enterPreDischarge_counts ahead
    rw [fire]
    exact ⟨rfl, rfl, rfl, rfl, three, four⟩

theorem Part.active_congr (inputs : q.inputs = p.inputs) (i : InputId) : q.active i = p.active i := by
  rw [Part.active_eq_decide, Part.active_eq_decide, inputs]

/-- Only IN3 and the local time of the part before are read. -/
theorem Part.CountsOrReleases.congr (h : p.CountsOrReleases q n alarm) (abort : r.active .in3 = p.active .in3)
    (clock : r.clock = p.clock) : r.CountsOrReleases q n alarm := by
  have now : r.now = p.now := congrArg (·.localTime) clock
  unfold CountsOrReleases Part.ReleaseBegun at h ⊢
  rw [abort, now]
  exact h

theorem Part.confirmFire_countsOrReleases (p : Part) :
    p.CountsOrReleases p.confirmFire (occupancyDelay p.settings p.occupancy) p.fire.alarm :=
  p.enterPreDischarge_countsOrReleases _ _

/-! ## The entry into ALERT (R68, R71) -/

theorem Part.neighbourShowsFire_congr (startUp : q.startUp = p.startUp) (peers : q.peers = p.peers)
    (clock : q.clock = p.clock) : q.neighbourShowsFire = p.neighbourShowsFire := by
  unfold Part.neighbourShowsFire Part.liveEntry
  rw [Part.settings_congr startUp, peers, show q.now = p.now from congrArg (·.localTime) clock]

/-- The sequencer at the entry into ALERT, but for CYLINDER_LOW. -/
def FireSequencer.alerted (f : FireSequencer) (x : AlarmRecord) : FireSequencer :=
  { f with state := .alert, alarm := some x }

theorem Part.enterAlert_eq (p : Part) (x : AlarmRecord) : p.enterAlert x
    = if p.neighbourShowsFire then (p.changeFire (p.fire.alerted x)).confirmFire else p.changeFire (p.fire.alerted x) := by
  rw [← Part.neighbourShowsFire_congr (q := p.changeFire (p.fire.alerted x)) (by simp) (by simp) (by simp)]
  rfl

theorem Part.enterAlert_alone (alone : p.neighbourShowsFire = false) :
    (p.enterAlert x).fire.state = .alert ∧ (p.enterAlert x).fire.alarm = some x
    ∧ (p.enterAlert x).outputs.out3.request = .pattern .alert
    ∧ (p.enterAlert x).outputs.out4.request = .pattern .alert := by
  rw [Part.enterAlert_eq, if_neg (Bool.eq_false_iff.1 alone)]
  exact ⟨Part.changeFire_state _ _, Part.changeFire_alarm _ _, Part.changeFire_signals _⟩

/-- A neighbour that shows fire confirms at the entry (R71). -/
theorem Part.enterAlert_confirms (shows_ : p.neighbourShowsFire = true) :
    p.CountsOrReleases (p.enterAlert x) (occupancyDelay p.settings p.occupancy) (some x) := by
  have confirmed := (p.changeFire (p.fire.alerted x)).confirmFire_countsOrReleases
  rw [Part.changeFire_alarm, Part.settings_congr (p := p.changeFire _) (q := p) (by simp),
    show (p.changeFire (p.fire.alerted x)).occupancy = p.occupancy by simp] at confirmed
  rw [Part.enterAlert_eq, if_pos shows_]
  exact confirmed.congr (Part.active_congr (by simp) _) (by simp)

/-! ## An accepted class change at the sequencer (R54, R68, R70) -/

section
variable {old new : LoopClass}

/-- In QUIET a loop that enters alarm alone gives ALERT. -/
theorem Part.takeLoopChange_alerts (state : p.fire.state = .quiet) (before : old.alarm = false) (alarm : new.alarm = true)
    (single : new ≠ .multi) (other : p.loopInAlarm (otherLoop l) = false) :
    p.takeLoopChange l old new = p.enterAlert (p.alarmOf l new) := by
  simp [Part.takeLoopChange, state, before, alarm, single, other]

/-- In QUIET a loop that enters alarm confirms with MULTI or the other loop. -/
theorem Part.takeLoopChange_quiet_confirms (state : p.fire.state = .quiet) (before : old.alarm = false)
    (alarm : new.alarm = true) (confirms : new = .multi ∨ p.loopInAlarm (otherLoop l) = true) :
    p.takeLoopChange l old new
      = p.enterPreDischarge (occupancyDelay p.settings p.occupancy) (some (p.alarmOf l new)) := by
  have single : old ≠ .multi := by
    rintro rfl
    cases before
  rcases confirms with multi | other
  · subst multi
    simp [Part.takeLoopChange, state, before, alarm, single]
  · simp [Part.takeLoopChange, state, before, alarm, other]

/-- In ALERT MULTI entered, or an alarm entry other than the first loop's alone, confirms. -/
theorem Part.takeLoopChange_alert_confirms (state : p.fire.state = .alert) (change : new ≠ old) (alarm : new.alarm = true)
    (confirms : new = .multi
      ∨ old.alarm = false ∧ ¬ (p.fire.alarm.bind (·.firstLoop) = some l ∧ p.loopInAlarm (otherLoop l) = false)) :
    p.takeLoopChange l old new = p.confirmFire := by
  unfold Part.takeLoopChange
  rw [state]
  by_cases multi : new = .multi
  · subst multi
    simp [Ne.symm change]
  · obtain ⟨before, another⟩ := confirms.resolve_left multi
    simp [multi, before, alarm, another]

/-- In ALERT a class that enters neither MULTI nor alarm, and the first loop's own re-entry, change nothing. -/
theorem Part.takeLoopChange_alert_stays (state : p.fire.state = .alert) (single : new ≠ .multi)
    (stays : old.alarm = true ∨ p.fire.alarm.bind (·.firstLoop) = some l ∧ p.loopInAlarm (otherLoop l) = false) :
    p.takeLoopChange l old new = p := by
  unfold Part.takeLoopChange
  rw [state]
  rcases stays with before | ⟨first, other⟩
  · simp [single, before]
  · simp [single, first, other]

end

/-! ## The conversion that accepts the class (R53, R54) -/

theorem otherLoop_ne (l : LoopId) : otherLoop l ≠ l := by cases l <;> decide

theorem Part.converted_loopInAlarm (x : LoopState) :
    (p.converted l x).loopInAlarm (otherLoop l) = (p.loops.get (otherLoop l)).accepted.alarm := by
  rw [Part.loopInAlarm, Part.converted_loops, Part.loopsConverted, PerLoop.get_set_other _ _ (otherLoop_ne l)]

theorem Part.alarmOf_eq (p : Part) (l : LoopId) (c : LoopClass) : p.alarmOf l c =
    { firstLoop := some l, minute := p.clock.minute
      firstDetector := match c with | .det k => some (.number k) | .multi => some .multi | _ => none } := by
  cases c <;> rfl

/-- Beside the loops a conversion changes the bus port alone, before the sequencer hears of it. -/
theorem Part.converted_only (x : LoopState) : (p.converted l x).fire = p.fire ∧ (p.converted l x).inputs = p.inputs
    ∧ (p.converted l x).clock = p.clock ∧ (p.converted l x).startUp = p.startUp ∧ (p.converted l x).peers = p.peers
    ∧ (p.converted l x).occupancy = p.occupancy := by
  rw [Part.converted_eq]
  exact ⟨rfl, rfl, rfl, rfl, rfl, rfl⟩

/-- Settles O16: the third equal reading hands the class change to the sequencer, in QUIET and in ALERT. -/
theorem alarmsMoveTheFireState : Obligations.AlarmsMoveTheFireState := by
  intro s l reading ready due cls old others record delay paused moved change again third alarm
  refine ⟨_, ready.exec_loopReading due, ?_⟩
  have debounced := LoopState.take_accepts change again third
  rw [(Part.takeLoopReading_eq (p := s.toPart) (n := reading.toNat) debounced).trans (if_neg (Ne.symm change))]
  dsimp only
  generalize accepted : LoopState.mk cls none 0 cls.isFault old.nextConversion = x
  obtain ⟨fire, inputs, clock, startUp, peers, occupancy⟩ := Part.converted_only (p := s.toPart) (l := l) x
  have loop : (s.toPart.converted l x).loopInAlarm (otherLoop l) = others := Part.converted_loopInAlarm x
  have neighbour := Part.neighbourShowsFire_congr startUp peers clock
  have written : (s.toPart.converted l x).alarmOf l cls = record := by
    exact (Part.alarmOf_eq _ l cls).trans
      (congrArg (fun c : ArchiveClock => { record with minute := c.minute }) clock)
  generalize s.toPart.converted l x = q at *
  have moves {t : Part} {r : Option AlarmRecord}
      (h : q.CountsOrReleases t (occupancyDelay q.settings q.occupancy) r) : moved { s with toPart := t } r := by
    have counts := h.congr (Part.active_congr inputs.symm _) clock.symm
    rw [Part.occupancyDelay_eq, startUp, occupancy] at counts
    unfold Part.CountsOrReleases at counts
    rw [Part.active_eq_decide] at counts
    exact counts
  refine ⟨fun state before => ⟨fun single other alone => ?_, fun confirms => moves ?_⟩,
    fun state => ⟨fun confirms => moves ?_, fun single stays => ?_⟩⟩
  · rw [Part.takeLoopChange_alerts (fire ▸ state) before alarm single (loop ▸ other), written]
    exact Part.enterAlert_alone (neighbour ▸ alone)
  · by_cases direct : cls = .multi ∨ others = true
    · rw [Part.takeLoopChange_quiet_confirms (fire ▸ state) before alarm (loop ▸ direct), written]
      exact q.enterPreDischarge_countsOrReleases _ _
    · obtain ⟨single, other⟩ := not_or.1 direct
      have shown := (confirms.resolve_left single).resolve_left other
      rw [Part.takeLoopChange_alerts (fire ▸ state) before alarm single (loop ▸ Bool.eq_false_iff.2 other), written]
      exact Part.enterAlert_confirms (neighbour ▸ shown)
  · rw [← fire, Part.takeLoopChange_alert_confirms (fire ▸ state) change alarm (by rw [fire, loop]; exact confirms)]
    exact q.confirmFire_countsOrReleases
  · rw [Part.takeLoopChange_alert_stays (fire ▸ state) single (by rw [fire, loop]; exact stays)]
    exact fire

end Sys2Proof.Machine
end

section
/-! PROOF. O20: manual release, abort and cylinder pressure at the sequencer, by the fire state (R69, R74, R78, R83, R84). -/

namespace Sys2Proof.Machine

variable {p q : Part} {n : Nat}

theorem Part.FireOnly.hatch_custody (h : p.FireOnly q) : q.hatch = p.hatch ∧ q.custody = p.custody := by
  have only : q = _ := h
  exact ⟨(congrArg Part.hatch only).trans rfl, (congrArg Part.custody only).trans rfl⟩

/-! ## IN2 (R69) -/

/-- The alarm record of a manual release from QUIET: no loop and no detector (R67). -/
def Part.manualAlarm (p : Part) : AlarmRecord := { firstLoop := none, firstDetector := none, minute := p.minute }

theorem Part.manualRelease_quiet (state : p.fire.state = .quiet) :
    p.manualRelease = p.enterPreDischarge p.settings.manualDelay (some p.manualAlarm) := by
  rw [Part.manualRelease, state]
  rfl

theorem Part.manualRelease_alert (state : p.fire.state = .alert) :
    p.manualRelease = p.enterPreDischarge p.settings.manualDelay p.fire.alarm := by
  rw [Part.manualRelease, state]

theorem Part.manualRelease_preDischarge (state : p.fire.state = .preDischarge) (counts : p.fire.countdown = some n) :
    p.manualRelease = if n ≤ p.settings.manualDelay then p
      else (p.updateFire { p.fire with countdown := some p.settings.manualDelay }).expireAtZero := by
  rw [Part.manualRelease, state]
  simp only [counts, Option.map_some, Option.some.injEq]
  by_cases short : n ≤ p.settings.manualDelay
  · rw [Nat.min_eq_right short, if_pos rfl, if_pos short]
  · have lowered : min p.settings.manualDelay n = p.settings.manualDelay := Nat.min_eq_left (Nat.le_of_not_le short)
    rw [lowered, if_neg short, if_neg fun same => short same.ge]

theorem Part.manualRelease_later (state : p.fire.state = .discharged ∨ p.fire.state = .hold ∨ p.fire.state = .spent) :
    p.manualRelease = p := by
  unfold Part.manualRelease
  rcases state with state | state | state <;> rw [state]

/-- A countdown lowered to 0 with no pause expires at once (R72, log 14). -/
theorem Part.lowered_expireAtZero (state : p.fire.state = .preDischarge) (m : Nat) :
    (p.updateFire { p.fire with countdown := some m }).expireAtZero
      = if m = 0 ∧ p.fire.paused = false then (p.updateFire { p.fire with countdown := some m }).discharge
        else p.updateFire { p.fire with countdown := some m } := by
  have zero : (p.updateFire { p.fire with countdown := some m }).countdownOver = true
      ↔ m = 0 ∧ p.fire.paused = false := by
    rw [Part.countdownOver_iff]
    simp [Part.updateFire, state]
  simp only [Part.expireAtZero, zero]

/-! ## IN3 (R74) -/

theorem Part.takeAbort_pauses (state : p.fire.state = .preDischarge) (going : p.fire.paused = false) :
    p.takeAbort true = p.updateFire { p.fire with paused := true } := by
  rw [Part.takeAbort, if_pos state, if_pos rfl, if_neg (by simp [going])]

/-- After a pause at least 10 s are left (R74). -/
theorem Part.takeAbort_resumes (state : p.fire.state = .preDischarge) (paused : p.fire.paused = true)
    (counts : p.fire.countdown = some n) :
    p.takeAbort false = p.updateFire { p.fire with paused := false, countdown := some (max n 10) } := by
  rw [Part.takeAbort, if_pos state, if_neg Bool.false_ne_true, if_pos paused, counts, Option.map_some,
    countdownAfterPause, Nat.max_comm]

theorem Part.takeAbort_same {active : Bool} (same : active = p.fire.paused) : p.takeAbort active = p := by
  unfold Part.takeAbort
  rw [same]
  cases p.fire.paused <;> simp

theorem Part.takeAbort_other (state : p.fire.state ≠ .preDischarge) (active : Bool) : p.takeAbort active = p :=
  if_neg state

/-! ## IN4 (R78, R83) -/

theorem Part.takePressure_normal (p : Part) : p.takePressure true = p.setCylinderLow false := if_pos rfl

theorem Part.takePressure_quiet (state : p.fire.state = .quiet ∨ p.fire.state = .alert) :
    p.takePressure false = p.setCylinderLow true := by
  unfold Part.takePressure
  rcases state with state | state <;> rw [state] <;> rfl

theorem Part.takePressure_discharged (state : p.fire.state = .discharged) : p.takePressure false
    = if p.fire.pulseEnd = none then (p.withFire { p.fire with pressureFall := true }).enterHold false
      else p.withFire { p.fire with pressureFall := true } := by
  rw [Part.takePressure, state]
  simp only [Option.isNone_iff_eq_none]
  rfl

theorem Part.takePressure_other (state : p.fire.state = .preDischarge ∨ p.fire.state = .hold ∨ p.fire.state = .spent) :
    p.takePressure false = p := by
  unfold Part.takePressure
  rcases state with state | state | state <;> rw [state] <;> rfl

/-! ## The acceptance at the machine -/

/-- The part that has taken a level of an input, as the block that reads the input finds it (R57). -/
def Part.accepted (p : Part) (i : InputId) (level : Bool) : Part := p.withInputs (p.inputsAccepted i level)

section
variable {s : State} {i : InputId} {high level : Bool} {e : Time}

/-- A changed level of a due hold: the block that reads the input hears it (R57, R58). -/
theorem State.ready.exec_inputHoldExpiry (ready : s.ready) (pending : (s.inputs.get i).pendingLevel = some high)
    (runs : (s.inputs.get i).holdExpiry = some e) (ran : e ≤ s.clock.localTime)
    (mapped : logicalLevel s.toPart.settings i high = level) (changed : (s.inputs.get i).accepted ≠ some level) :
    exec (.inputHoldExpiry i) s = .next { s with toPart := (s.toPart.accepted i level).handInput i level } := by
  subst mapped
  have due : s.toPart.inputHoldDue i = true := Part.inputHoldDue_iff.2 ⟨by simp [pending], e, runs, ran⟩
  have made := (Part.acceptInput_eq (p := s.toPart) pending).trans (if_neg changed)
  rw [Machine.exec_inputHoldExpiry, ready.become_timed_of_shows due (by simp)
    fun holds => Part.acceptInput_shows (.inl (holds.mono (by decide))) pending, made]
  rfl

/-- What such an acceptance can reach. -/
theorem State.acceptance_only (pending : (s.inputs.get i).pendingLevel = some high)
    (mapped : logicalLevel s.toPart.settings i high = level) (changed : (s.inputs.get i).accepted ≠ some level) :
    let q := (s.toPart.accepted i level).handInput i level
    ({ s with toPart := q } : State) = { s with
      inputs := q.inputs, fire := q.fire, climate := q.climate, hatch := q.hatch, custody := q.custody
      outputs := q.outputs, bus := q.bus } := by
  subst mapped
  have made := (Part.acceptInput_eq (p := s.toPart) pending).trans (if_neg changed)
  have only := s.toPart.acceptInput_only i
  rw [made] at only
  exact congrArg (fun q => ({ s with toPart := q } : State)) only

end

theorem Part.accepted_active_in3 {p : Part} {i : InputId} (other : i ≠ .in3) (level : Bool) :
    (p.accepted i level).active .in3 = p.active .in3 := by
  rw [Part.active_eq_decide, Part.active_eq_decide, Part.accepted, Part.withInputs_inputs, Part.inputsAccepted,
    PerInput.get_set_other _ _ (Ne.symm other)]

/-- The manual delay that a part takes from QUIET, ALERT or PRE_DISCHARGE, at the machine (R69, R72). -/
theorem Part.CountsOrReleases.of_accepted {s : State} {i : InputId} {level : Bool} {alarm : Option AlarmRecord}
    (h : (s.toPart.accepted i level).CountsOrReleases q n alarm) (other : i ≠ .in3) :
    if n = 0 ∧ decide ((s.inputs.get .in3).accepted = some true) = false then s.toPart.ReleaseBegun q alarm
    else q.fire.state = .preDischarge ∧ q.fire.countdown = some n
      ∧ q.fire.paused = decide ((s.inputs.get .in3).accepted = some true) ∧ q.fire.alarm = alarm := by
  have counts := h.congr (r := s.toPart) (Part.accepted_active_in3 other level).symm rfl
  rw [Part.CountsOrReleases, Part.active_eq_decide] at counts
  split
  · next zero => exact (if_pos zero).mp counts
  · next ahead =>
    obtain ⟨state, countdown, paused, alarm, _⟩ := (if_neg ahead).mp counts
    exact ⟨state, countdown, paused, alarm⟩

/-- A release that a lowered countdown begins leaves the hatch and the records. -/
theorem Part.updateFire_discharge (p : Part) (f : FireSequencer) (alarm : f.alarm = p.fire.alarm)
    (state : f.state = .preDischarge) :
    p.ReleaseBegun (p.updateFire f).discharge p.fire.alarm
    ∧ (p.updateFire f).discharge.hatch = p.hatch ∧ (p.updateFire f).discharge.custody = p.custody := by
  have only := Part.discharge_fireOnly (p := p.updateFire f) (by simp [Part.updateFire, state, FireState.sealed])
  have begun := (p.updateFire f).discharge_begins
  rw [show (p.updateFire f).fire.alarm = p.fire.alarm by simp [Part.updateFire, alarm]] at begun
  obtain ⟨hatch, custody⟩ := only.hatch_custody
  exact ⟨begun.congr (by simp) rfl rfl ⟨rfl, rfl, rfl⟩, hatch.trans (by simp), custody.trans (by simp)⟩

/-! ## What the machine shows of it (R84) -/

/-- Nothing but an input has changed from `s` to `t`. -/
def State.OnlyInputs (s t : State) : Prop := t = { s with inputs := t.inputs }

/-- Beside an input the sequencer has changed to `f`, and FIRE_STATE is handed (R84). -/
def State.HandsFire (s t : State) (f : FireSequencer) : Prop := t = { s with
  inputs := t.inputs, fire := f
  bus := s.bus.handed (newFrame .fire 63#6 (.fireState { s.toPart with fire := f }.fireContent)) }

/-- `q` is the part of `s` once one of its inputs has taken its level. -/
structure State.Hears (s : State) (q : Part) : Prop where
  fire : q.fire = s.fire
  settings : q.settings = s.startUp.settings
  clock : q.clock = s.clock
  blocks : q.hatch = s.hatch ∧ q.custody = s.custody
  still : s.OnlyInputs { s with toPart := q }
  hands (f : FireSequencer) : s.HandsFire { s with toPart := q.updateFire f } f

theorem State.hears_accepted (s : State) (i : InputId) (level : Bool) : s.Hears (s.toPart.accepted i level) where
  fire := rfl
  settings := Part.settings_eq _
  clock := rfl
  blocks := ⟨rfl, rfl⟩
  still := rfl
  hands f := by
    unfold State.HandsFire
    rw [Part.updateFire, Part.handFireState, Part.handFrame_eq]
    rfl

namespace State.Hears

variable {s : State} (h : s.Hears q)
include h

/-- Manual release lowers a countdown that stands above the manual delay (R69). -/
theorem manualRelease_lowers (state : s.fire.state = .preDischarge) (counts : s.fire.countdown = some n) :
    let manual := s.startUp.settings.manualDelay
    let t : State := { s with toPart := q.manualRelease }
    (n ≤ manual → s.OnlyInputs t)
    ∧ (manual < n → 0 < manual ∨ s.fire.paused = true → s.HandsFire t { s.fire with countdown := some manual })
    ∧ (manual < n → manual = 0 → s.fire.paused = false →
        s.toPart.ReleaseBegun t.toPart s.fire.alarm ∧ t.hatch = s.hatch ∧ t.custody = s.custody) := by
  have fire := h.fire
  rw [Part.manualRelease_preDischarge (p := q) (fire ▸ state) (fire ▸ counts), h.settings,
    Part.lowered_expireAtZero (fire ▸ state), fire]
  refine ⟨fun short => ?_, fun long kept => ?_, fun long zero going => ?_⟩
  · rw [if_pos short]
    exact h.still
  · rw [if_neg (Nat.not_le.2 long), if_neg]
    · exact h.hands _
    · rintro ⟨zero, going⟩
      rcases kept with above | paused
      · exact absurd zero (Nat.ne_of_gt above)
      · cases paused.symm.trans going
  · obtain ⟨begun, hatch, custody⟩ := q.updateFire_discharge
      { s.fire with countdown := some s.startUp.settings.manualDelay } (by rw [fire]) state
    rw [fire] at begun
    rw [if_neg (Nat.not_le.2 long), if_pos ⟨zero, going⟩]
    exact ⟨begun.congr h.clock.symm rfl rfl ⟨rfl, rfl, rfl⟩, hatch.trans h.blocks.1, custody.trans h.blocks.2⟩

/-- An abort pauses the countdown; its end leaves at least 10 s (R74). -/
theorem takeAbort_counting (state : s.fire.state = .preDischarge) (active : Bool) :
    let t : State := { s with toPart := q.takeAbort active }
    (active = true → s.fire.paused = false → s.HandsFire t { s.fire with paused := true })
    ∧ (active = true → s.fire.paused = true → s.OnlyInputs t)
    ∧ (active = false → s.fire.paused = true → ∀ n, s.fire.countdown = some n →
        s.HandsFire t { s.fire with paused := false, countdown := some (max n 10) })
    ∧ (active = false → s.fire.paused = false → s.OnlyInputs t) := by
  have fire := h.fire
  refine ⟨fun on going => ?_, fun on paused => ?_, fun off paused n counts => ?_, fun off going => ?_⟩
  · rw [on, Part.takeAbort_pauses (fire ▸ state) (fire ▸ going), fire]
    exact h.hands _
  · rw [Part.takeAbort_same (on.trans (fire ▸ paused).symm)]
    exact h.still
  · rw [off, Part.takeAbort_resumes (fire ▸ state) (fire ▸ paused) (fire ▸ counts), fire]
    exact h.hands _
  · rw [Part.takeAbort_same (off.trans (fire ▸ going).symm)]
    exact h.still

/-- CYLINDER_LOW is announced where it changes (R83, R84). -/
theorem setCylinderLow (low : Bool) :
    let t : State := { s with toPart := q.setCylinderLow low }
    (s.fire.cylinderLow = !low → s.HandsFire t { s.fire with cylinderLow := low })
    ∧ (s.fire.cylinderLow = low → s.OnlyInputs t) := by
  rw [Part.setCylinderLow, h.fire]
  refine ⟨fun changed => ?_, fun same => ?_⟩
  · rw [if_neg (by simp [changed])]
    exact h.hands _
  · rw [if_pos same]
    exact h.still

/-- Pressure that falls in DISCHARGED: seen while the pulse runs, and HOLD after it (R78). -/
theorem takePressure_falls (state : s.fire.state = .discharged) :
    let t : State := { s with toPart := q.takePressure false }
    (s.fire.pulseEnd ≠ none → t = { s with inputs := t.inputs, fire := { s.fire with pressureFall := true } })
    ∧ (s.fire.pulseEnd = none →
        t.fire = { s.fire with
          state := .hold, pressureFall := true, pulseEnd := none, confirmationEnd := none
          holdEnd := some (s.clock.localTime + s.startUp.settings.hold * 1000) }
        ∧ t.hatch = s.hatch ∧ t.custody = s.custody) := by
  rw [Part.takePressure_discharged (h.fire ▸ state), h.fire]
  refine ⟨fun pulse => ?_, fun pulse => ?_⟩
  · rw [if_neg pulse]
    exact congrArg (fun t : State => { t with fire := { s.fire with pressureFall := true } }) h.still
  · rw [if_pos pulse]
    have only := Part.enterHold_fireOnly (p := q.withFire { s.fire with pressureFall := true })
      (by rw [Part.withFire_fire, state]; rfl) false
    have hold := (q.withFire { s.fire with pressureFall := true }).enterHold_fire false
    have now (g : FireSequencer) : (q.withFire g).now = s.clock.localTime := congrArg (·.localTime) h.clock
    have config (g : FireSequencer) : (q.withFire g).settings = s.startUp.settings := h.settings
    obtain ⟨hatch, custody⟩ := only.hatch_custody
    refine ⟨hold.trans ?_, hatch.trans h.blocks.1, custody.trans h.blocks.2⟩
    rw [Bool.or_false, Part.withFire_fire, now, config]
    rfl

end State.Hears

/-- Settles O20: the rules of the sequencer for the three inputs, in each fire state. -/
theorem fireInputsAct : Obligations.FireInputsAct := by
  intro s i ready high pending e runs ran active manual abort entered changed which
  have taken := ready.exec_inputHoldExpiry pending runs ran (level := active) rfl changed
  have only := State.acceptance_only pending (level := active) rfl changed
  have released {t : Part} {n : Nat} {r : Option AlarmRecord}
      (begun : (s.toPart.accepted i active).CountsOrReleases t n r) (other : i ≠ .in3) := begun.of_accepted other
  have h := s.hears_accepted i active
  refine ⟨_, taken, ?_, only⟩
  clear only taken
  generalize s.toPart.accepted i active = q at *
  have fire := h.fire
  refine ⟨fun in2 off => ?_, fun in2 on => ?_, fun in3 state => ?_, fun in3 state => ?_, fun in4 on => ?_,
    fun in4 off => ?_⟩
  · subst in2
    rw [off]
    exact h.still
  · subst in2
    rw [on, show q.handInput .in2 true = q.manualRelease from rfl]
    refine ⟨fun state => ?_, fun state => ?_, fun state n counts => h.manualRelease_lowers state counts, fun state => ?_⟩
    · rw [Part.manualRelease_quiet (fire ▸ state), h.settings, Part.manualAlarm, Part.minute, h.clock]
      exact released (q.enterPreDischarge_countsOrReleases _ _) (by decide)
    · rw [Part.manualRelease_alert (fire ▸ state), h.settings, fire]
      exact released (q.enterPreDischarge_countsOrReleases _ _) (by decide)
    · rw [Part.manualRelease_later (fire ▸ state)]
      exact h.still
  · subst in3
    exact h.takeAbort_counting state active
  · subst in3
    rw [show q.handInput .in3 active = q.takeAbort active from rfl, Part.takeAbort_other (fire ▸ state)]
    exact h.still
  · subst in4
    rw [on, show q.handInput .in4 true = q.takePressure true from rfl, Part.takePressure_normal]
    exact h.setCylinderLow false
  · subst in4
    rw [off, show q.handInput .in4 false = q.takePressure false from rfl]
    refine ⟨fun state => ?_, fun state => (h.takePressure_falls state).1, fun state => (h.takePressure_falls state).2,
      fun state => ?_⟩
    · rw [Part.takePressure_quiet (fire ▸ state)]
      exact h.setCylinderLow true
    · rw [Part.takePressure_other (fire ▸ state)]
      exact h.still

end Sys2Proof.Machine
end

section
/-! PROOF. O26: a second of local time at the clock, at the countdown and at a served purge (R73, R134, R135, R168). -/

namespace Sys2Proof.Machine

variable {p q : Part} {n : Nat}

/-! ## The clock (R168) -/

/-- The part whose clock has another second count and whose free values have been drawn so far, a second later. -/
def Part.atSecond (p : Part) (second draws : Nat) : Part :=
  { p with
    clock := { p.clock with
      second := second
      secondOfMinute := if p.clock.secondOfMinute < 59 then p.clock.secondOfMinute + 1 else 0
      minuteRiseDue := p.clock.minuteRiseDue || decide (59 ≤ p.clock.secondOfMinute)
      nextSecond := p.clock.nextSecond + 1000 }
    freeDraws := draws }

theorem Part.atSecond_eq (second draws : Nat) : p.atSecond second draws
    = (p.withFreeDraws draws).withClock ({ p.clock with second := second }.countSecondOfMinute) := by
  unfold Part.atSecond ArchiveClock.countSecondOfMinute
  by_cases full : p.clock.secondOfMinute < 59
  · have short : ¬ 60 ≤ p.clock.secondOfMinute + 1 := by omega
    have under : ¬ 59 ≤ p.clock.secondOfMinute := by omega
    simp only [full, short, under, if_true, if_false]
    rfl
  · have long : 60 ≤ p.clock.secondOfMinute + 1 := by omega
    have top : 59 ≤ p.clock.secondOfMinute := by omega
    simp only [full, long, top, if_true, if_false]
    rfl

/-- The second count rises by one; past its top its value is free (log 16). -/
theorem Part.advanceSecond_eq (p : Part) : ∃ second draws,
    p.advanceSecond = (p.atSecond second draws).countdownSecond.purgeSecond
    ∧ (p.clock.second < 4294967295 → second = p.clock.second + 1 ∧ draws = p.freeDraws) := by
  unfold Part.advanceSecond Part.countSecond
  by_cases short : p.clock.second < maxMinute
  · refine ⟨p.clock.second + 1, p.freeDraws, ?_, fun _ => ⟨rfl, rfl⟩⟩
    rw [if_pos short, Part.atSecond_eq]
    rfl
  · refine ⟨(Config.secondCountPastTop p.freeDraws).toNat, p.freeDraws + 1, ?_, fun top => absurd top short⟩
    rw [if_neg short, Part.atSecond_eq]
    rfl

/-! ## The countdown (R73) -/

/-- The sequencer a second later, before a countdown that has reached 0 expires. -/
def Part.counted (p : Part) : FireSequencer :=
  if p.fire.state = .preDischarge ∧ p.fire.paused = false then
    { p.fire with countdown := p.fire.countdown.map (· - 1) }
  else p.fire

theorem Part.counted_over_iff : (p.withFire p.counted).countdownOver = true
    ↔ (p.fire.state = .preDischarge ∧ p.fire.paused = false)
      ∧ (p.fire.countdown = some 0 ∨ p.fire.countdown = some 1) := by
  rw [Part.countdownOver_iff, Part.withFire_fire, Part.counted]
  split
  · next counting =>
    obtain ⟨state, going⟩ := counting
    cases p.fire.countdown with
    | none => simp
    | some n =>
      have last : n - 1 = 0 ↔ n = 0 ∨ n = 1 := by omega
      simp [state, going, last]
  · next idle =>
    refine ⟨fun ⟨state, _, going⟩ => absurd ⟨state, going⟩ idle, fun ⟨counting, _⟩ => absurd counting idle⟩

theorem Part.countdownSecond_eq (p : Part) : p.countdownSecond
    = if (p.withFire p.counted).countdownOver then (p.withFire p.counted).discharge else p.withFire p.counted := by
  by_cases counting : p.fire.state = .preDischarge ∧ p.fire.paused = false
  · rw [Part.countdownSecond, if_pos counting, Part.counted, if_pos counting]
    rfl
  · have still : p.counted = p.fire := if_neg counting
    rw [Part.countdownSecond, if_neg counting, still, if_neg]
    · rfl
    · rintro ends
      obtain ⟨state, _, going⟩ := Part.countdownOver_iff.1 ends
      exact counting ⟨state, going⟩

/-! ## The purge (R134) -/

theorem Part.purgeSecond_idle (idle : ¬ (p.hatch.state = .purging ∧ p.climate.airPath = .purge)) : p.purgeSecond = p :=
  if_neg idle

theorem Part.purgeSecond_counts (served : p.hatch.state = .purging ∧ p.climate.airPath = .purge)
    (short : ¬ p.settings.purgeMax ≤ p.hatch.purgeTime + 1) :
    p.purgeSecond = p.withHatch { p.hatch with purgeTime := p.hatch.purgeTime + 1 } := by
  have time : min p.settings.purgeMax (p.hatch.purgeTime + 1) = p.hatch.purgeTime + 1 := by omega
  simp only [Part.purgeSecond, if_pos served, time, if_neg short]

theorem Part.purgeSecond_ends (served : p.hatch.state = .purging ∧ p.climate.airPath = .purge)
    (full : p.settings.purgeMax ≤ p.hatch.purgeTime + 1) :
    p.purgeSecond = (p.withHatch { p.hatch with purgeTime := p.settings.purgeMax }).completePurge true := by
  have time : min p.settings.purgeMax (p.hatch.purgeTime + 1) = p.settings.purgeMax := Nat.min_eq_left full
  simp only [Part.purgeSecond, if_pos served, time, le_refl, if_true]

/-! ## Evaluations do not read the second count or the outputs of the fire sequencer -/

theorem Part.resolveAirPath_atSecond (p : Part) (second draws : Nat) :
    (p.atSecond second draws).resolveAirPath.climate = p.resolveAirPath.climate
    ∧ (p.atSecond second draws).resolveAirPath.outputs = p.resolveAirPath.outputs := by
  constructor
  · rw [Part.resolveAirPath, Part.resolveAirPath, Part.takeChoice_eq, Part.takeChoice_eq,
      Part.superviseCommand_climate, Part.superviseCommand_climate]
    rfl
  · rw [Part.resolveAirPath, Part.resolveAirPath, Part.takeChoice_outputs, Part.takeChoice_outputs]
    rfl

theorem Part.resolveAirPath_withOutputs (p : Part) (x : OutputDriver) :
    (p.withOutputs x).resolveAirPath.climate = p.resolveAirPath.climate := by
  rw [Part.resolveAirPath, Part.resolveAirPath, Part.takeChoice_eq, Part.takeChoice_eq,
    Part.superviseCommand_climate, Part.superviseCommand_climate]
  rfl

/-! ## The release in a second (R42, R75) -/

/-- A release from PRE_DISCHARGE brings the evaluation of the sequencer as it then stands. -/
theorem Part.discharge_climate (sealed : p.fire.state.sealed = true) :
    p.discharge.climate = (p.withFire p.discharge.fire).resolveAirPath.climate := by
  have fire := p.discharge_fire
  generalize p.discharge.fire = f at fire ⊢
  rw [Part.discharge, (Part.requestOutput_frame _ _ _).2.2.1, Part.changeFire_calm (.inl sealed), Part.evaluate_climate,
    FireSequencer.entered_sealed rfl, ← fire]
  have handed : (p.withFire f).requestSignals.handFireState.SameForAirPath (p.withFire f).requestSignals :=
    ⟨by simp, by simp, by simp, by simp, by simp, by simp, by simp, by simp⟩
  exact handed.resolve_climate.trans (((p.withFire f).requestOutput .out3 _).resolveAirPath_withOutputs _
    |>.trans ((p.withFire f).resolveAirPath_withOutputs _))

theorem Part.discharge_airPath (sealed : p.fire.state.sealed = true) : p.discharge.climate.airPath = .shut := by
  have shut : (p.withFire p.discharge.fire).shutCondition = true := by
    rw [Part.shutCondition, Part.withFire_fire, Part.discharge_fire]
    rfl
  rw [Part.discharge_climate sealed, Part.resolveAirPath_airPath, Part.airPathChoice, resolve_shut shut]

/-! ## The purge that completes (R134, R135) -/

theorem ExceptionStore.raise_purgeTimeout (x : ExceptionStore) (capture : Bool) (minute : Minute)
    (subject : ExceptionSubject) : (x.raise capture ⟨.purgeTimeout, minute, subject⟩).flags.purgeTimeout = true := by
  unfold ExceptionStore.raise
  dsimp only
  split
  · split <;> rfl
  · rfl

/-- The governor and the outputs at the end of the request, with the evaluation it brings where it stood (R135). -/
def Part.purgeEvaluated (p : Part) : Part :=
  if p.hatch.purgeRequest then (p.withHatch { p.hatch with purgeRequest := false }).resolveAirPath
  else p.withHatch { p.hatch with purgeRequest := false }

theorem Part.purgeEnded_evaluated (p : Part) (x : ExceptionStore) :
    (p.purgeEnded x).climate = p.purgeEvaluated.climate ∧ (p.purgeEnded x).outputs = p.purgeEvaluated.outputs := by
  unfold Part.purgeEvaluated
  by_cases request : p.hatch.purgeRequest = true
  · have same : ((p.withExceptions x).withHatch { p.hatch with purgeRequest := false }).SameForAirPath
        (p.withHatch { p.hatch with purgeRequest := false }) := ⟨rfl, rfl, rfl, rfl, rfl, rfl, rfl, rfl⟩
    rw [if_pos request, p.purgeEnded_requested x request, Part.purgeReleased_climate, Part.purgeReleased_outputs]
    exact ⟨same.resolve_climate, same.resolve_outputs⟩
  · obtain ⟨climate, outputs, _⟩ := p.purgeEnded_idle x (Bool.eq_false_iff.2 request)
    rw [if_neg request]
    exact ⟨climate, outputs⟩

theorem Part.purgeEnded_canUnlock (x : ExceptionStore) : (p.purgeEnded x).canUnlock .inner = true
    ↔ p.hatch.locks.outer = false ∧ p.fire.state.sealed = false ∧ p.hatch.startTally = .no := by
  simp [Part.canUnlock, Part.purgeEnded_hatch, otherLeaf, PerLeaf.get, and_assoc]

/-- The part after a purge that completes and leaves the inner leaf locked (R114, R141). -/
theorem Part.completePurge_withheld {timedOut : Bool}
    (held : ¬ (p.hatch.locks.outer = false ∧ p.fire.state.sealed = false ∧ p.hatch.startTally = .no)) :
    p.completePurge timedOut = p.purgeEnded (p.purgeExceptions timedOut) := by
  rw [Part.completePurge_eq, Part.unlockWithNotice_withheld]
  exact Bool.eq_false_iff.2 (mt (Part.purgeEnded_canUnlock _).1 held)

/-- The hatch, the outputs and the bus port after a purge that completes and unlocks the inner leaf (R114, R122). -/
theorem Part.completePurge_unlocks {timedOut : Bool}
    (free : p.hatch.locks.outer = false ∧ p.fire.state.sealed = false ∧ p.hatch.startTally = .no) :
    (p.completePurge timedOut).hatch = { p.hatch with
      purgeRequest := false, state := .innerRelease, backupState := .innerRelease, locks := ⟨true, false⟩
      windows := { p.hatch.windows with inner := some (p.now + 30000) } }
    ∧ (p.completePurge timedOut).outputs = { p.purgeEvaluated.outputs with
        out0 := ⟨.drivenOn, if p.settings.fitted.getLsbD 0 then .drivenOn else .released⟩ }
    ∧ (p.completePurge timedOut).bus = (p.bus.evaluated p (p.completePurge timedOut)).notified
        (p.hatch.courierPost.toList ++ p.hatch.console.toList) .innerUnlocked (p.hatch.direction.getD .out)
        (p.hatch.batch.getD 0) .innerRelease none := by
  have unlocks := (Part.purgeEnded_canUnlock (p.purgeExceptions timedOut)).2 free
  obtain ⟨outer, unsealed, start⟩ := free
  obtain ⟨_, outputs⟩ := p.purgeEnded_evaluated (p.purgeExceptions timedOut)
  obtain ⟨_, _, _, bus⟩ := Part.purgeEnded_unlocks _ unsealed outer start p.hatch.participants (p.completePurge_eq timedOut)
  refine ⟨?_, ?_, bus⟩
  · have now : (p.purgeEnded (p.purgeExceptions timedOut)).now = p.now := by simp [Part.now_eq]
    rw [Part.completePurge_eq, Part.unlockWithNotice_hatch _ _ unlocks, Part.purgeEnded_hatch, now]
    simp only [PerLeaf.set, outer]
    rfl
  · have settings : (p.purgeEnded (p.purgeExceptions timedOut)).settings = p.settings := by simp [Part.settings_eq]
    rw [Part.completePurge_eq, Part.unlockWithNotice_outputs _ _ unlocks, settings, outputs]
    rfl

/-- A purge that completes reaches five blocks. -/
theorem Part.completePurge_only (p : Part) (timedOut : Bool) : p.completePurge timedOut = { p with
    hatch := (p.completePurge timedOut).hatch, climate := p.purgeEvaluated.climate
    exceptions := p.purgeExceptions timedOut, outputs := (p.completePurge timedOut).outputs
    bus := (p.completePurge timedOut).bus } := by
  have frame := p.completePurge_frame timedOut
  obtain ⟨climate, _⟩ := p.purgeEnded_evaluated (p.purgeExceptions timedOut)
  have evaluated : (p.completePurge timedOut).climate = p.purgeEvaluated.climate := by
    simpa [Part.completePurge_eq] using climate
  have raised : (p.completePurge timedOut).exceptions = p.purgeExceptions timedOut := by simp [Part.completePurge_eq]
  generalize p.completePurge timedOut = q at frame evaluated raised
  cases q
  simp_all

/-! ## A second at the machine -/

theorem exec_localSecondAdvance (s : State) :
    exec .localSecondAdvance s = s.become (s.toPart.timed Part.secondDue Part.advanceSecond) := rfl

theorem State.ready.exec_second {s : State} {q : Part} (ready : s.ready) (due : s.clock.nextSecond ≤ s.clock.localTime)
    (made : s.toPart.advanceSecond = q) (shows_ : s.bus.holdsReply 6 → q.bus.showsReply) :
    exec .localSecondAdvance s = .next { s with toPart := q } := by
  subst made
  rw [exec_localSecondAdvance]
  exact ready.become_timed_of_shows (decide_eq_true due) (by simp) shows_

/-- A second in which the countdown reaches 0: the purge has lost its air path (R42, R75, log 14). -/
theorem Part.second_releases (zero : (p.withFire p.counted).countdownOver = true) :
    p.countdownSecond.purgeSecond = (p.withFire p.counted).discharge := by
  have sealed : (p.withFire p.counted).fire.state.sealed = true := by
    rw [(Part.countdownOver_iff.1 zero).1]
    rfl
  rw [Part.countdownSecond_eq, if_pos zero]
  refine Part.purgeSecond_idle fun served => ?_
  have shut := Part.discharge_airPath sealed
  rw [served.2] at shut
  cases shut

theorem Part.second_counts (ahead : ¬ (p.withFire p.counted).countdownOver = true) :
    p.countdownSecond.purgeSecond = (p.withFire p.counted).purgeSecond := by
  rw [Part.countdownSecond_eq, if_neg ahead]

section
variable {s : State} {second draws : Nat} {f : FireSequencer}

/-- The counts of a second, through what follows at the countdown and at the purge. -/
theorem Part.atSecond_counts {t : Part} (clock : t.clock = ((s.toPart.atSecond second draws).withFire f).clock)
    (free : t.freeDraws = ((s.toPart.atSecond second draws).withFire f).freeDraws)
    (below : s.clock.second < 4294967295 → second = s.clock.second + 1 ∧ draws = s.freeDraws) :
    t.clock = { s.clock with
      second := t.clock.second
      secondOfMinute := if s.clock.secondOfMinute < 59 then s.clock.secondOfMinute + 1 else 0
      minuteRiseDue := s.clock.minuteRiseDue || decide (59 ≤ s.clock.secondOfMinute)
      nextSecond := s.clock.nextSecond + 1000 }
    ∧ (s.clock.second < 4294967295 → t.clock.second = s.clock.second + 1 ∧ t.freeDraws = s.freeDraws) := by
  rw [clock, free]
  exact ⟨rfl, below⟩

/-- A release from the sequencer `f` in a second, with its evaluation (R42, R75, R77). -/
theorem Part.atSecond_discharge (sealed : f.state.sealed = true) :
    let q := ((s.toPart.atSecond second draws).withFire f).discharge
    q.climate = ({ s.toPart with fire := q.fire } : Part).resolveAirPath.climate
    ∧ ({ s with toPart := q } : State) = { s with
        clock := q.clock, freeDraws := q.freeDraws, fire := q.fire, climate := q.climate, outputs := q.outputs
        bus := q.bus } := by
  have released : ((s.toPart.atSecond second draws).withFire f).fire.state.sealed = true := sealed
  have only := Part.discharge_fireOnly released
  have climate := Part.discharge_climate released
  generalize ((s.toPart.atSecond second draws).withFire f).discharge = q at *
  have evaluated := (Part.resolveAirPath_atSecond { s.toPart with fire := q.fire } second draws).1
  refine ⟨climate.trans evaluated, (only.state s.pending).trans ?_⟩
  have clock : q.clock = (s.toPart.atSecond second draws).clock := (congrArg Part.clock only).trans rfl
  have free : q.freeDraws = draws := (congrArg Part.freeDraws only).trans rfl
  dsimp only
  rw [clock, free]
  rfl

/-- The part a second later with its sequencer `f`, its purge time at purge max (R134). -/
def Part.purgeSpent (p : Part) (second draws : Nat) (f : FireSequencer) : Part :=
  ((p.atSecond second draws).withFire f).withHatch { p.hatch with purgeTime := p.settings.purgeMax }

/-- The evaluation at the end of a purge does not read the counts of the second that ends it. -/
theorem Part.purgeSpent_evaluated (p : Part) (second draws : Nat) (f : FireSequencer) :
    let r := p.purgeSpent second draws f
    let request : Part := { p with fire := f, hatch := { p.hatch with purgeRequest := false } }
    let evaluated := if p.hatch.purgeRequest then request.resolveAirPath else request
    r.purgeEvaluated.climate = evaluated.climate ∧ r.purgeEvaluated.outputs = evaluated.outputs := by
  intro r request evaluated
  have same : (r.withHatch { r.hatch with purgeRequest := false }).SameForAirPath (request.atSecond second draws) :=
    ⟨rfl, rfl, rfl, rfl, rfl, rfl, rfl, rfl⟩
  obtain ⟨climate, outputs⟩ := request.resolveAirPath_atSecond second draws
  by_cases asked : p.hatch.purgeRequest = true
  · have here : r.purgeEvaluated = (r.withHatch { r.hatch with purgeRequest := false }).resolveAirPath := if_pos asked
    have there : evaluated = request.resolveAirPath := if_pos asked
    rw [here, there]
    exact ⟨same.resolve_climate.trans climate, same.resolve_outputs.trans outputs⟩
  · have here : r.purgeEvaluated = r.withHatch { r.hatch with purgeRequest := false } := if_neg asked
    have there : evaluated = request := if_neg asked
    rw [here, there]
    exact ⟨rfl, rfl⟩

/-- A second that ends a purge on purge max (R134, R135). -/
theorem State.second_endsPurge (s : State) (second draws : Nat) (f : FireSequencer) (sealed : f.state = s.fire.state) :
    let cfg := s.startUp.settings
    let h := s.hatch
    let q := (s.toPart.purgeSpent second draws f).completePurge true
    let request : Part := { s.toPart with fire := f, hatch := { h with purgeRequest := false } }
    let evaluated := if h.purgeRequest then request.resolveAirPath else request
    let done := { h with
      purgeTime := cfg.purgeMax, purgeRequest := false, state := .innerRelease, backupState := .innerRelease }
    let unlocks := h.locks.outer = false ∧ s.fire.state.sealed = false ∧ h.startTally = .no
    ({ s with toPart := q } : State) = { s with
      clock := q.clock, freeDraws := q.freeDraws, fire := f, hatch := q.hatch, climate := evaluated.climate
      outputs := q.outputs, bus := q.bus, exceptions := q.exceptions }
    ∧ q.exceptions.flags.purgeTimeout = true
    ∧ (∀ b, h.batch = some b →
        q.exceptions = s.exceptions.raise cfg.capture ⟨.purgeTimeout, s.clock.minute, .batch b⟩)
    ∧ (¬ unlocks → q.hatch = done ∧ q.outputs = evaluated.outputs ∧ q.bus = s.bus.evaluated s.toPart q)
    ∧ (unlocks →
        q.hatch = { done with
          locks := ⟨true, false⟩, windows := { h.windows with inner := some (s.clock.localTime + 30000) } }
        ∧ q.outputs = { evaluated.outputs with
            out0 := ⟨.drivenOn, if cfg.fitted.getLsbD 0 then .drivenOn else .released⟩ }
        ∧ ∀ b, h.batch = some b → ∀ d, h.direction = some d →
          q.bus = (s.bus.evaluated s.toPart q).notified (h.courierPost.toList ++ h.console.toList) .innerUnlocked d b
            .innerRelease none) := by
  intro cfg h q request evaluated done unlocks
  obtain ⟨climate, outputs⟩ := s.toPart.purgeSpent_evaluated second draws f
  have only := (s.toPart.purgeSpent second draws f).completePurge_only true
  have same : (s.toPart.purgeSpent second draws f).fire.state.sealed = s.fire.state.sealed := congrArg _ sealed
  have raised : q.exceptions
      = s.exceptions.raise cfg.capture ⟨.purgeTimeout, s.clock.minute, .batch (h.batch.getD 0)⟩ :=
    (congrArg Part.exceptions only).trans rfl
  have clock : q.clock = (s.toPart.atSecond second draws).clock := (congrArg Part.clock only).trans rfl
  have free : q.freeDraws = draws := (congrArg Part.freeDraws only).trans rfl
  refine ⟨?_, ?_, fun b batch => ?_, fun held => ?_, fun unlock => ?_⟩
  · rw [clock, free, ← climate, raised]
    exact congrArg (fun x => ({ s with toPart := x } : State)) only
  · rw [raised]
    exact ExceptionStore.raise_purgeTimeout _ _ _ _
  · rw [raised, batch]
    rfl
  · have left : q = _ := Part.completePurge_withheld (p := s.toPart.purgeSpent second draws f) (timedOut := true)
      fun ⟨outer, unsealed, start⟩ => held ⟨outer, same ▸ unsealed, start⟩
    rw [left]
    refine ⟨Part.purgeEnded_hatch _ _, ((Part.purgeEnded_evaluated _ _).2).trans outputs, ?_⟩
    rw [Part.purgeEnded_bus]
    exact BusPort.evaluated_congr _ rfl rfl rfl rfl rfl
  · obtain ⟨outer, unsealed, start⟩ := unlock
    obtain ⟨hatch, opened, bus⟩ := Part.completePurge_unlocks (p := s.toPart.purgeSpent second draws f)
      (timedOut := true) ⟨outer, same ▸ unsealed, start⟩
    refine ⟨hatch, opened.trans ?_, fun b batch d direction => bus.trans ?_⟩
    · rw [outputs]
      rfl
    · have shown : (s.toPart.purgeSpent second draws f).bus.evaluated (s.toPart.purgeSpent second draws f) q
          = s.bus.evaluated s.toPart q := BusPort.evaluated_congr _ rfl rfl rfl rfl rfl
      rw [show (s.toPart.purgeSpent second draws f).hatch.batch = some b from batch,
        show (s.toPart.purgeSpent second draws f).hatch.direction = some d from direction, shown]
      rfl

end

/-- Settles O26: the counts, then the countdown, then the purge, which a release in the same second has SHUT off. -/
theorem secondsAdvance : Obligations.SecondsAdvance := by
  intro s ready due counting purging cfg h expires ends counted
  obtain ⟨second, draws, advanced, below⟩ := s.toPart.advanceSecond_eq
  have zero : ((s.toPart.atSecond second draws).withFire counted).countdownOver = true ↔ expires :=
    Part.counted_over_iff (p := s.toPart.atSecond second draws)
  by_cases released : expires
  · have made := advanced.trans (Part.second_releases (zero.2 released))
    have fire := ((s.toPart.atSecond second draws).withFire counted).discharge_fire
    have begun : ((s.toPart.atSecond second draws).withFire counted).fire
      = { s.fire with countdown := s.fire.countdown.map (· - 1) } := if_pos released.1
    have sealed : counted.state.sealed = true := by
      rw [show counted.state = _ from congrArg FireSequencer.state begun, released.1.1]
      rfl
    obtain ⟨three, four⟩ := ((s.toPart.atSecond second draws).withFire counted).discharge_signals
    obtain ⟨climate, only⟩ := Part.atSecond_discharge (s := s) (second := second) (draws := draws) sealed
    obtain ⟨clock, draw⟩ := Part.atSecond_counts (s := s) (f := counted)
      (t := ((s.toPart.atSecond second draws).withFire counted).discharge) (by simp) (by simp) below
    rw [begun] at fire
    have shows_ (holds : s.bus.holdsReply 6) :
        (((s.toPart.atSecond second draws).withFire counted).discharge).bus.showsReply :=
      (Part.discharge_covers (p := (s.toPart.atSecond second draws).withFire counted)
        (.inl (holds.mono (by decide)))).showsReply
    refine ⟨_, ready.exec_second due made shows_, clock, draw, fun no => absurd released no,
      fun _ => ⟨fire, Part.discharge_out2, three, four, climate, Part.discharge_airPath sealed, only⟩,
      fun no => absurd released no⟩
  · have made := advanced.trans (Part.second_counts (mt zero.1 released))
    by_cases served : purging
    · by_cases full : cfg.purgeMax ≤ h.purgeTime + 1
      · have made := made.trans (Part.purgeSecond_ends served full)
        have state : counted.state = s.fire.state := by
          unfold counted
          split <;> rfl
        obtain ⟨only, raised, entry, held, unlocks⟩ := s.second_endsPurge second draws counted state
        obtain ⟨clock, draw⟩ := Part.atSecond_counts (s := s) (f := counted)
          (t := (s.toPart.purgeSpent second draws counted).completePurge true) (by simp [Part.purgeSpent])
          (by simp [Part.purgeSpent]) below
        have shows_ (holds : s.bus.holdsReply 6) :
            ((s.toPart.purgeSpent second draws counted).completePurge true).bus.showsReply :=
          (Part.completePurge_holdsReply (p := s.toPart.purgeSpent second draws counted) true holds).showsReply
        exact ⟨_, ready.exec_second due made shows_, clock, draw, fun _ no => absurd ⟨served, full⟩ no,
          fun yes => absurd yes released, fun _ _ => ⟨only, raised, entry, held, unlocks⟩⟩
      · have made := made.trans (Part.purgeSecond_counts served full)
        obtain ⟨clock, draw⟩ := Part.atSecond_counts (s := s) (f := counted)
          (t := ((s.toPart.atSecond second draws).withFire counted).withHatch
            { h with purgeTime := h.purgeTime + 1 }) rfl rfl below
        refine ⟨_, ready.exec_second due made BusPort.holdsReply.showsReply, clock, draw, fun _ _ => ?_,
          fun yes => absurd yes released, fun _ done => absurd done.2 full⟩
        rw [if_pos served]
        rfl
    · have made := made.trans (Part.purgeSecond_idle served)
      obtain ⟨clock, draw⟩ := Part.atSecond_counts (s := s) (f := counted)
        (t := ((s.toPart.atSecond second draws).withFire counted)) rfl rfl below
      refine ⟨_, ready.exec_second due made BusPort.holdsReply.showsReply, clock, draw, fun _ _ => ?_,
        fun yes => absurd yes released, fun _ done => absurd done.1 served⟩
      rw [if_neg served]
      rfl

end Sys2Proof.Machine
end

section
/-! PROOF. O25: whatever command changes the fire state, FIRE_STATE as it then stands waits in the queue (R66, R84, R89,
R161). -/

namespace Sys2Proof.Machine

variable {p q : Part} {s t : State}

/-- A sound queue with room for two frames has a place for FIRE_STATE content and a reply after it (R161). -/
theorem Part.QueueSound.opens (sound : p.QueueSound) (broadcasts : p.BroadcastsSound) (room : p.bus.queue.length ≤ 6) :
    p.bus.Opens 7 := by
  obtain ⟨_, _, _, _, fits, _⟩ := sound
  refine ⟨fun f mem pending => ?_, .inr ⟨by omega, .inl (by omega)⟩⟩
  have kind := (TxFrame.pendingOf_iff.1 pending).2
  exact ⟨(fits f mem).1 kind, broadcasts f mem (by simp [kind])⟩

/-- A start that has gone on, if it has completed (R186). -/
theorem Part.afterBegin_shown (begun : p.startUp.inProgress ≠ none) (waiting : List Instr)
    (done : (p.afterBegin waiting).startUp.inProgress = none) : (p.afterBegin waiting).Shown 8 := by
  obtain ⟨run, progress⟩ := Option.ne_none_iff_exists'.1 begun
  revert done
  unfold Part.afterBegin
  split
  · dsimp only
    split
    · next stage _ =>
      intro done
      simp [Part.unfinished, progress] at done
    · exact fun _ => Part.completeStart_shown begun
  · exact fun _ => Part.completeStart_shown begun

theorem Part.beginStart_goesOn_shown (p before : Part) (run : StartInProgress) (waiting : List Instr)
    (done : ((p.beginStart run).goesOn before waiting).startUp.inProgress = none) :
    ((p.beginStart run).goesOn before waiting).Shown 8 := by
  have begun : (p.beginStart run).startUp.inProgress ≠ none := by simp
  revert done
  unfold Part.goesOn
  split
  · exact Part.afterBegin_shown begun waiting
  · exact fun done => absurd done begun

theorem Part.FireBecomes.shown (h : p.FireBecomes q) (opens : p.bus.Opens 7) (waiting : List Instr)
    (done : (q.goesOn p waiting).startUp.inProgress = none) (moved : (q.goesOn p waiting).fire.state ≠ p.fire.state) :
    (q.goesOn p waiting).Shown 8 := by
  cases h with
  | turns acts h speaks =>
    rw [h.goesOn acts waiting] at moved ⊢
    exact (speaks opens).resolve_left moved
  | restarts _ _ _ => exact Part.beginStart_goesOn_shown _ _ _ _ done
  | starts run _ => exact Part.beginStart_goesOn_shown _ _ _ _ done
  | held h =>
    rw [h.goesOn waiting, h.fire] at moved
    exact absurd rfl moved

/-- Settles O25: the events of the sequencer announce its changes (`Part.Speaks`), and every start that completes does. -/
theorem fireChangesAreAnnounced : Obligations.FireChangesAreAnnounced := by
  intro c s sound broadcasts room t taken moved own done
  obtain ⟨q, becomes, made⟩ := exec_fireBecomes c s
  rw [made, State.become_goesOn] at taken
  cases taken
  obtain ⟨_, waits⟩ := becomes.shown (sound.opens broadcasts room) s.pending done moved
  exact (waits.resolve_left own).2

end Sys2Proof.Machine
end

section
/-! PROOF. What one event may make of the records of the custody table (R91, R92): records that stay, in their order, each
as it is or revised once, and new ones behind them. -/

namespace Sys2Proof.Machine

/-! ## One change of a record (R92) -/

/-- The record `r` after one change at most: as it is, or with its revision raised by one, and the same label, foreign mark
and reserve minute (R92). -/
def CustodyRecord.RevisedOnce (r r' : CustodyRecord) : Prop :=
  r' = r ∨ r'.revision = r.revision + 1 ∧ r'.label = r.label ∧ r'.foreign = r.foreign ∧ r'.reserveMinute = r.reserveMinute

namespace CustodyRecord.RevisedOnce

variable {r r' x : CustodyRecord}

theorem refl (r : CustodyRecord) : r.RevisedOnce r := .inl rfl

theorem label (h : r.RevisedOnce r') : r'.label = r.label := by
  rcases h with rfl | ⟨_, label, _⟩
  · rfl
  · exact label

theorem ite {c : Prop} [Decidable c] (yes : r.RevisedOnce r') (no : r.RevisedOnce x) :
    r.RevisedOnce (if c then r' else x) := by
  split
  · exact yes
  · exact no

theorem unstaged (r : CustodyRecord) : r.RevisedOnce r.unstaged := .inr ⟨rfl, rfl, rfl, rfl⟩

theorem staged (r : CustodyRecord) (batch : Nat) : r.RevisedOnce (r.staged batch) := .inr ⟨rfl, rfl, rfl, rfl⟩

theorem departed (r : CustodyRecord) (courier : Nat) (now : Minute) : r.RevisedOnce (r.departed courier now) :=
  .inr ⟨rfl, rfl, rfl, rfl⟩

theorem returned (r : CustodyRecord) (batch courier : Option Nat) (now : Minute) :
    r.RevisedOnce (r.returned batch courier now) := .inr ⟨rfl, rfl, rfl, rfl⟩

theorem released (r : CustodyRecord) (dwellEnd : Minute) : r.RevisedOnce (r.released dwellEnd) :=
  .inr ⟨rfl, rfl, rfl, rfl⟩

theorem extended (r : CustodyRecord) (added : Nat) (now : Minute) : r.RevisedOnce (r.extended added now) :=
  .inr ⟨rfl, rfl, rfl, rfl⟩

theorem checked (r : CustodyRecord) (now : Minute) : r.RevisedOnce (r.checked now) := by
  unfold CustodyRecord.checked
  split
  · exact .ite (.inr ⟨rfl, rfl, rfl, rfl⟩) (.refl r)
  · exact .ite (.inr ⟨rfl, rfl, rfl, rfl⟩) (.refl r)
  all_goals exact .refl r

end CustodyRecord.RevisedOnce

/-! ## The records after an event (R91) -/

/-- The labels of records, in their order. -/
def recordLabels (rs : List CustodyRecord) : List Label := rs.map (·.label)

theorem mem_recordLabels {l : Label} {rs : List CustodyRecord} : l ∈ recordLabels rs ↔ ∃ r ∈ rs, r.label = l :=
  List.mem_map

theorem recordLabels_append (rs xs : List CustodyRecord) :
    recordLabels (rs ++ xs) = recordLabels rs ++ recordLabels xs := List.map_append

/-- A rule that keeps the label of every record keeps the labels. -/
theorem recordLabels_map {f : CustodyRecord → CustodyRecord} {rs : List CustodyRecord}
    (same : ∀ r ∈ rs, (f r).label = r.label) : recordLabels (rs.map f) = recordLabels rs := by
  simpa [recordLabels] using same

/-- The records that an event may leave of `rs`: some that stay, in their order, each changed once at most, and behind them
new ones of distinct labels, none of which `rs` has (R91, R92). -/
inductive RecordsFollow (rs : List CustodyRecord) : List CustodyRecord → Prop where
  | intro {kept new : List CustodyRecord} {f : CustodyRecord → CustodyRecord} (stay : kept.Sublist rs)
      (each : ∀ r ∈ kept, r.RevisedOnce (f r)) (zero : ∀ r ∈ new, r.revision = 0)
      (fresh : ∀ r ∈ new, r.label ∉ recordLabels rs) (distinct : (recordLabels new).Nodup) :
      RecordsFollow rs (kept.map f ++ new)

namespace RecordsFollow

variable {rs rs' : List CustodyRecord}

/-- Every record changed by a rule. -/
theorem map {f : CustodyRecord → CustodyRecord} (each : ∀ r ∈ rs, r.RevisedOnce (f r)) : RecordsFollow rs (rs.map f) :=
  List.append_nil (rs.map f) ▸ intro (List.Sublist.refl rs) each (List.forall_mem_nil _) (List.forall_mem_nil _) List.nodup_nil

/-- Records removed, and no other changed. -/
theorem sublist (stay : rs'.Sublist rs) : RecordsFollow rs rs' := by
  rw [← List.append_nil rs', ← List.map_id rs']
  exact intro stay (fun r _ => .refl r) (List.forall_mem_nil _) (List.forall_mem_nil _) List.nodup_nil

theorem refl (rs : List CustodyRecord) : RecordsFollow rs rs := sublist (List.Sublist.refl rs)

/-- Records created, and none changed. -/
theorem append {new : List CustodyRecord} (zero : ∀ r ∈ new, r.revision = 0)
    (fresh : ∀ r ∈ new, r.label ∉ recordLabels rs) (distinct : (recordLabels new).Nodup) :
    RecordsFollow rs (rs ++ new) := by
  have follow := intro (f := id) (List.Sublist.refl rs) (fun r _ => .refl r) zero fresh distinct
  rwa [List.map_id] at follow

/-- The table still holds one record of a label (R91). -/
theorem nodup (h : RecordsFollow rs rs') (single : (recordLabels rs).Nodup) : (recordLabels rs').Nodup := by
  obtain ⟨stay, each, _, fresh, distinct⟩ := h
  have labels := recordLabels_map fun r mem => (each r mem).label
  rw [recordLabels_append, labels]
  refine List.Nodup.append ((stay.map _).nodup single) distinct fun l old new => ?_
  obtain ⟨r, mem, rfl⟩ := mem_recordLabels.1 new
  exact fresh r mem ((stay.map _).subset old)

/-- A record whose label the table had before stays as it was, or is revised once. -/
theorem revisedOnce (h : RecordsFollow rs rs') (single : (recordLabels rs).Nodup) {r r' : CustodyRecord} (before : r ∈ rs)
    (after : r' ∈ rs') (same : r.label = r'.label) : r.RevisedOnce r' := by
  obtain ⟨stay, each, _, fresh, _⟩ := h
  rcases List.mem_append.1 after with old | new
  · obtain ⟨x, mem, rfl⟩ := List.mem_map.1 old
    have here : x = r :=
      List.inj_on_of_nodup_map single (stay.subset mem) before ((each x mem).label.symm.trans same.symm)
    exact here ▸ each x mem
  · exact absurd (mem_recordLabels.2 ⟨r, before, same⟩) (fresh r' new)

/-- A record of a label new to the table starts at revision 0. -/
theorem revision_zero (h : RecordsFollow rs rs') {r' : CustodyRecord} (after : r' ∈ rs')
    (new : r'.label ∉ recordLabels rs) : r'.revision = 0 := by
  obtain ⟨stay, each, zero, _, _⟩ := h
  rcases List.mem_append.1 after with old | new'
  · obtain ⟨x, mem, rfl⟩ := List.mem_map.1 old
    exact absurd (mem_recordLabels.2 ⟨x, stay.subset mem, (each x mem).label.symm⟩) new
  · exact zero r' new'

end RecordsFollow

/-- Of labels that stand once, those that a part of them in order holds are that part. -/
theorem filter_mem_of_sublist {ls kept : List Label} (stay : kept.Sublist ls) (single : ls.Nodup) :
    ls.filter (fun l => decide (l ∈ kept)) = kept := by
  induction stay with
  | slnil => rfl
  | @cons xs ys y stay ih =>
    obtain ⟨out, rest⟩ := List.nodup_cons.1 single
    rw [List.filter_cons_of_neg (by simpa using fun mem => out (stay.subset mem)), ih rest]
  | @cons_cons xs ys y stay ih =>
    obtain ⟨out, rest⟩ := List.nodup_cons.1 single
    rw [List.filter_cons_of_pos (by simp)]
    refine congrArg (y :: ·) ((List.filter_congr fun l mem => ?_).trans (ih rest))
    have other : l ≠ y := fun same => out (same ▸ mem)
    simp [other]

/-- Records that stay keep their order and come before the new ones (R91). -/
theorem RecordsFollow.labelsInOrder {rs rs' : List CustodyRecord} (h : RecordsFollow rs rs') (single : (recordLabels rs).Nodup) :
    (recordLabels rs).filter (fun l => decide (l ∈ recordLabels rs')) <+: recordLabels rs' := by
  cases h with | @intro kept new f stay each zero fresh distinct
  have labels : recordLabels (kept.map f) = recordLabels kept := recordLabels_map fun r mem => (each r mem).label
  have old : ∀ l ∈ recordLabels rs, l ∉ recordLabels new := fun l mem here => by
    obtain ⟨r, there, rfl⟩ := mem_recordLabels.1 here
    exact fresh r there mem
  rw [recordLabels_append, labels]
  have left : (recordLabels rs).filter (fun l => decide (l ∈ recordLabels kept ++ recordLabels new)) = recordLabels kept := by
    have inOrder : (recordLabels kept).Sublist (recordLabels rs) := stay.map _
    refine (List.filter_congr fun l mem => ?_).trans (filter_mem_of_sublist inOrder single)
    simp [old l mem]
  rw [left]
  exact List.prefix_append _ _

end Sys2Proof.Machine
end

section
/-! PROOF. What the rules of the custody table make of its records (R96 to R99, R102, R103, R105 to R108): each, `RecordsFollow`. -/

namespace Sys2Proof.Machine

/-! ## Labels in the table -/

theorem CustodyTable.find_eq_none {t : CustodyTable} {l : Label} : t.find l = none ↔ l ∉ recordLabels t.records := by
  simp [CustodyTable.find, recordLabels]

theorem CustodyTable.find_eq_some {t : CustodyTable} {l : Label} {r : CustodyRecord} (found : t.find l = some r) :
    r ∈ t.records ∧ r.label = l := by
  exact ⟨List.mem_of_find?_eq_some found, by simpa using List.find?_some found⟩

/-! ## Console requests (R96 to R99) -/

/-- The records that CHECKOUT creates (R96). -/
theorem checkoutLabels_records (loan : Nat) (now : Minute) (t : CustodyTable) (ls : List Label) :
    ∃ new, (checkoutLabels loan now t ls).1 = { t with records := t.records ++ new }
      ∧ (∀ r ∈ new, r.revision = 0) ∧ (∀ r ∈ new, r.label ∉ recordLabels t.records) ∧ (recordLabels new).Nodup
      ∧ (t.records.length + t.held ≤ custodyCapacity → (t.records ++ new).length + t.held ≤ custodyCapacity) := by
  induction ls generalizing t with
  | nil =>
    exact ⟨[], by simp [checkoutLabels], List.forall_mem_nil _, List.forall_mem_nil _, List.nodup_nil, by simp⟩
  | cons l ls ih =>
    simp only [checkoutLabels]
    split
    · exact ih t
    · next unknown =>
      split
      · next room =>
        obtain ⟨new, made, zero, fresh, distinct, room'⟩ := ih (t.append (reservedRecord l loan now))
        refine ⟨reservedRecord l loan now :: new, ?_, ?_, ?_, ?_, fun _ => ?_⟩
        · rw [made]
          simp [CustodyTable.append]
        · exact List.forall_mem_cons.2 ⟨rfl, zero⟩
        · refine List.forall_mem_cons.2 ⟨CustodyTable.find_eq_none.1 unknown, fun r mem old => fresh r mem ?_⟩
          exact recordLabels_append _ _ ▸ List.mem_append_left _ old
        · refine List.nodup_cons.2 ⟨fun again => ?_, distinct⟩
          obtain ⟨r, mem, same⟩ := mem_recordLabels.1 again
          refine fresh r mem ?_
          rw [same]
          simp [CustodyTable.append, recordLabels, reservedRecord]
        · have short : t.records.length + t.held < custodyCapacity := by simpa [CustodyTable.hasRoom] using room
          have full := room' (by simp [CustodyTable.append]; omega)
          simpa [CustodyTable.append] using full
      · exact ih t

/-- Every record changed by a rule that changes each once at most. -/
theorem CustodyTable.mapRecords_follow (t : CustodyTable) {f : CustodyRecord → CustodyRecord}
    (each : ∀ r : CustodyRecord, r.RevisedOnce (f r)) : RecordsFollow t.records (t.mapRecords f).records :=
  .map fun r _ => each r

theorem CustodyTable.change_follow (t : CustodyTable) (l : Label) {f : CustodyRecord → CustodyRecord}
    (each : ∀ r : CustodyRecord, r.RevisedOnce (f r)) : RecordsFollow t.records (t.change l f).records :=
  t.mapRecords_follow fun r => .ite (each r) (.refl r)

theorem CustodyTable.remove_follow (t : CustodyTable) (l : Label) : RecordsFollow t.records (t.remove l).records :=
  .sublist (List.eraseP_sublist ..)

/-! ## Changes made by the hatch (R105 to R108) -/

/-- What a staging tally may make of a record: one change, of a record that is RESERVED or STAGED_OUT (R105). -/
def CustodyRecord.RestagedTo (r r' : CustodyRecord) : Prop :=
  r.RevisedOnce r' ∧ (r.state ≠ .reserved → r.state ≠ .stagedOut → r' = r)

theorem CustodyRecord.inBatch_iff {r : CustodyRecord} {st : RecordState} {batch : Option Nat} :
    r.inBatch st batch = true ↔ r.state = st ∧ batch ≠ none ∧ r.batch = batch := by
  simp [CustodyRecord.inBatch, Option.isSome_iff_ne_none, and_assoc]

/-- The record after `CustodyTable.unstageGone`. -/
def CustodyRecord.unstagedAt (t : TagReport) (batch : Option Nat) (r : CustodyRecord) : CustodyRecord :=
  if r.inBatch .stagedOut batch && tallyFindsGone t r.label then r.unstaged else r

/-- The record after `CustodyTable.stagePresent`. -/
def CustodyRecord.stagedAt (t : TagReport) (batch : Nat) (r : CustodyRecord) : CustodyRecord :=
  if r.state == .reserved && tallyLists t r.label then r.staged batch else r

theorem CustodyTable.unstageGone_eq (c : CustodyTable) (t : TagReport) (batch : Option Nat) :
    c.unstageGone t batch = { c with records := c.records.map (CustodyRecord.unstagedAt t batch) } := rfl

theorem CustodyTable.stagePresent_eq (c : CustodyTable) (t : TagReport) (batch : Nat) :
    c.stagePresent t batch = { c with records := c.records.map (CustodyRecord.stagedAt t batch) } := rfl

/-- No report both lists a label and finds it gone. -/
theorem tallyLists_of_gone {t : TagReport} {l : Label} (gone : tallyFindsGone t l = true) : tallyLists t l = false := by
  cases t with
  | labels ls => simpa [tallyFindsGone, tallyLists] using gone
  | overfull => rfl

theorem CustodyRecord.unstagedAt_restaged (t : TagReport) (batch : Option Nat) (r : CustodyRecord) :
    r.RestagedTo (r.unstagedAt t batch) := by
  unfold CustodyRecord.unstagedAt
  refine ⟨.ite (.unstaged r) (.refl r), fun _ stays => if_neg ?_⟩
  simp [CustodyRecord.inBatch, stays]

/-- A record that the tally finds gone is not staged again by it. -/
theorem CustodyRecord.stagedAt_unstagedAt_restaged (t : TagReport) (batch : Option Nat) (number : Nat) (r : CustodyRecord) :
    r.RestagedTo ((r.unstagedAt t batch).stagedAt t number) := by
  by_cases goes : (r.inBatch .stagedOut batch && tallyFindsGone t r.label) = true
  · have gone : tallyFindsGone t r.label = true := (Bool.and_eq_true _ _ ▸ goes).2
    have left : r.unstagedAt t batch = r.unstaged := if_pos goes
    have stays : (r.unstagedAt t batch).stagedAt t number = r.unstagedAt t batch := by
      rw [left]
      exact if_neg (by simp [CustodyRecord.unstaged, tallyLists_of_gone gone, CustodyRecord.revised])
    rw [stays]
    exact r.unstagedAt_restaged t batch
  · rw [show r.unstagedAt t batch = r from if_neg goes]
    unfold CustodyRecord.stagedAt
    refine ⟨.ite (.staged r number) (.refl r), fun stays _ => if_neg ?_⟩
    simp [stays]

theorem CustodyTable.departGone_follow (c : CustodyTable) (t : TagReport) (batch : Option Nat) (courier : Nat) (now : Minute) :
    RecordsFollow c.records (c.departGone t batch courier now).records :=
  c.mapRecords_follow fun r => .ite (.departed r courier now) (.refl r)

/-- A record after a release tally (R108). -/
def CustodyRecord.releasedAt (t : TagReport) (batch : Option Nat) (dwell : CustodyRecord → Nat) (now : Minute)
    (r : CustodyRecord) : CustodyRecord :=
  if r.leaves t batch then r.released (minuteAfter now (dwell r)) else r

theorem CustodyTable.releaseGone_eq (c : CustodyTable) (t : TagReport) (batch : Option Nat) (dwell : CustodyRecord → Nat)
    (now : Minute) :
    c.releaseGone t batch dwell now = { c with records := c.records.map (CustodyRecord.releasedAt t batch dwell now) } := rfl

theorem CustodyRecord.releasedAt_revisedOnce (t : TagReport) (batch : Option Nat) (dwell : CustodyRecord → Nat) (now : Minute)
    (r : CustodyRecord) : r.RevisedOnce (r.releasedAt t batch dwell now) := .ite (.released r _) (.refl r)

/-- A staging tally after the release tally changes no record that has left: it is ACCLIMATISING then (R108, R136). -/
theorem CustodyRecord.releasedAt_restaged {t : TagReport} {batch : Option Nat} {dwell : CustodyRecord → Nat} {now : Minute}
    {r r' : CustodyRecord} (restaged : (r.releasedAt t batch dwell now).RestagedTo r') : r.RevisedOnce r' := by
  by_cases goes : r.leaves t batch = true
  · have left : r.releasedAt t batch dwell now = r.released (minuteAfter now (dwell r)) := if_pos goes
    have stays : r' = r.releasedAt t batch dwell now := restaged.2 (by simp [left, CustodyRecord.released])
      (by simp [left, CustodyRecord.released])
    exact stays ▸ r.releasedAt_revisedOnce t batch dwell now
  · rw [show r.releasedAt t batch dwell now = r from if_neg goes] at restaged
    exact restaged.1

theorem CustodyTable.receive_follow (c : CustodyTable) {ls : List Label} (once : ls.Nodup) (batch courier : Option Nat)
    (now : Minute) : RecordsFollow c.records (c.receive ls batch courier now).records := by
  unfold CustodyTable.receive
  have labels : recordLabels ((ls.filter fun l => (c.find l).isNone).map fun l => foreignRecord l batch courier now)
      = ls.filter fun l => (c.find l).isNone := by
    simp [recordLabels, foreignRecord, Function.comp_def]
  refine .intro (List.Sublist.refl _) (fun r _ => .ite (.returned r _ _ _) (.refl r)) ?_ ?_ ?_
  · rintro r mem
    obtain ⟨l, _, rfl⟩ := List.mem_map.1 mem
    rfl
  · rintro r mem
    obtain ⟨l, unknown, rfl⟩ := List.mem_map.1 mem
    exact CustodyTable.find_eq_none.1 (Option.isNone_iff_eq_none.1 (List.mem_filter.1 unknown).2)
  · rw [labels]
    exact once.filter _

/-- A matching tally creates at most as many records as were declared (R93, R107). -/
theorem CustodyTable.receive_length (c : CustodyTable) (ls : List Label) (batch courier : Option Nat) (now : Minute) :
    (c.receive ls batch courier now).records.length ≤ c.records.length + ls.length := by
  simpa [CustodyTable.receive] using List.length_filter_le _ ls

end Sys2Proof.Machine
end

section
/-! PROOF. What an event may make of the custody table and its hold (`Part.CustodyTurns`): the custody law is kept, the records
follow (`RecordsFollow`), and the archive minute does not fall (R91 to R93, R168). Here the relation and the handovers. -/

namespace Sys2Proof.Machine

variable {p q r : Part}

/-! ## The relations -/

/-- `q` is what a block may make of `p` in an event, as the custody table shows it. -/
structure Part.CustodyTurns (p q : Part) : Prop where
  sound : p.CustodySound → q.CustodySound
  follow : p.CustodySound → RecordsFollow p.custody.records q.custody.records
  minute : p.minute ≤ q.minute

/-- `q` is made of `p` without a change of a record. -/
structure Part.RecordsStand (p q : Part) : Prop where
  sound : p.CustodySound → q.CustodySound
  records : q.custody.records = p.custody.records
  minute : p.minute ≤ q.minute

/-- `q` differs from `p` in nothing that the custody law speaks of, but that no start tally may be awaited any more. -/
structure Part.SameCustody (p q : Part) : Prop where
  custody : q.custody = p.custody
  direction : q.hatch.direction = p.hatch.direction
  stage : q.hatch.stage = p.hatch.stage
  handoverOpen : q.hatch.handoverOpen = p.hatch.handoverOpen
  declared : q.hatch.declared = p.hatch.declared
  startTally : q.hatch.startTally ≠ .no → p.hatch.startTally ≠ .no
  minute : q.minute = p.minute

/-- No slot is held any more, and no inbound handover waits in stage PRESENTED (R93). -/
structure Part.HoldEnds (p q : Part) : Prop where
  held : q.custody.held = 0 ∨ q.custody.held = p.custody.held ∧ ¬ p.hatch.inboundPresented
  away : ¬ q.hatch.inboundPresented
  start : (p.hatch.startTally ≠ .no → p.hatch.stage ≠ .presented) → q.hatch.startTally ≠ .no → q.hatch.stage ≠ .presented

namespace Part.SameCustody

theorem refl (p : Part) : p.SameCustody p := ⟨rfl, rfl, rfl, rfl, rfl, id, rfl⟩

theorem trans (h : p.SameCustody q) (k : q.SameCustody r) : p.SameCustody r :=
  ⟨k.custody.trans h.custody, k.direction.trans h.direction, k.stage.trans h.stage, k.handoverOpen.trans h.handoverOpen,
    k.declared.trans h.declared, h.startTally ∘ k.startTally, k.minute.trans h.minute⟩

theorem ite {c : Prop} [Decidable c] (yes : p.SameCustody q) (no : p.SameCustody r) :
    p.SameCustody (if c then q else r) := by
  split
  · exact yes
  · exact no

/-- A change of blocks other than custody and hatch. -/
theorem others (frame : q.custody = p.custody ∧ q.hatch = p.hatch ∧ q.minute = p.minute) : p.SameCustody q := by
  obtain ⟨custody, hatch, minute⟩ := frame
  exact ⟨custody, by rw [hatch], by rw [hatch], by rw [hatch], by rw [hatch], by rw [hatch]; exact id, minute⟩

theorem inboundPresented (h : p.SameCustody q) : q.hatch.inboundPresented ↔ p.hatch.inboundPresented := by
  unfold HatchContext.inboundPresented
  rw [h.direction, h.stage]

theorem sound (h : p.SameCustody q) (before : p.CustodySound) : q.CustodySound := by
  obtain ⟨single, room, few, waits, opened, start⟩ := before
  unfold Part.CustodySound
  rw [h.inboundPresented, h.custody, h.handoverOpen, h.declared, h.stage]
  exact ⟨single, room, few, waits, opened, start ∘ h.startTally⟩

theorem stand (h : p.SameCustody q) : p.RecordsStand q := ⟨h.sound, by rw [h.custody], h.minute.ge⟩

end Part.SameCustody

/-- The table keeps its law where its labels stand once and its records have room, when its hold has ended. -/
theorem Part.HoldEnds.sound (h : p.HoldEnds q) (before : p.CustodySound) (single : (recordLabels q.custody.records).Nodup)
    (room : q.custody.records.length ≤ 96) : q.CustodySound := by
  have none : q.custody.held = 0 := by
    rcases h.held with none | ⟨same, away⟩
    · exact none
    · exact same.trans (not_not.1 fun some_ => away (before.2.2.2.1 some_))
  exact ⟨single, by omega, by omega, fun some_ => absurd none some_, fun waits => absurd waits h.away, h.start before.2.2.2.2.2⟩

theorem Part.HoldEnds.stand (h : p.HoldEnds q) (records : q.custody.records = p.custody.records)
    (minute : p.minute ≤ q.minute) : p.RecordsStand q where
  sound := fun before => by
    obtain ⟨single, room, _⟩ := id before
    refine h.sound before ?_ ?_
    · rw [records]; exact single
    · rw [records]; omega
  records := records
  minute := minute

/-- Records that follow, no more than there is room for, when the hold has ended. -/
theorem Part.HoldEnds.turns (h : p.HoldEnds q) (follow : RecordsFollow p.custody.records q.custody.records)
    (length : p.CustodySound → q.custody.records.length ≤ 96) (minute : p.minute ≤ q.minute) : p.CustodyTurns q where
  sound := fun before => h.sound before (follow.nodup before.1) (length before)
  follow := fun _ => follow
  minute := minute

namespace Part.RecordsStand

theorem refl (p : Part) : p.RecordsStand p := (SameCustody.refl p).stand

/-- A change of blocks other than custody and hatch. -/
theorem others (frame : q.custody = p.custody ∧ q.hatch = p.hatch ∧ q.minute = p.minute) : p.RecordsStand q :=
  (SameCustody.others frame).stand

theorem trans (h : p.RecordsStand q) (k : q.RecordsStand r) : p.RecordsStand r :=
  ⟨k.sound ∘ h.sound, k.records.trans h.records, h.minute.trans k.minute⟩

theorem ite {c : Prop} [Decidable c] (yes : p.RecordsStand q) (no : p.RecordsStand r) :
    p.RecordsStand (if c then q else r) := by
  split
  · exact yes
  · exact no

theorem same (h : p.RecordsStand q) (k : q.SameCustody r) : p.RecordsStand r := h.trans k.stand

theorem turns (h : p.RecordsStand q) : p.CustodyTurns q := ⟨h.sound, fun _ => h.records ▸ .refl _, h.minute⟩

end Part.RecordsStand

namespace Part.CustodyTurns

theorem refl (p : Part) : p.CustodyTurns p := (RecordsStand.refl p).turns

theorem ite {c : Prop} [Decidable c] (yes : p.CustodyTurns q) (no : p.CustodyTurns r) :
    p.CustodyTurns (if c then q else r) := by
  split
  · exact yes
  · exact no

/-- A change of blocks other than custody and hatch. -/
theorem others (frame : q.custody = p.custody ∧ q.hatch = p.hatch ∧ q.minute = p.minute) : p.CustodyTurns q :=
  (RecordsStand.others frame).turns

/-- Records that follow and have room, under the same hold. -/
theorem ofTable (hatch : q.hatch = p.hatch) (held : q.custody.held = p.custody.held)
    (follow : p.CustodySound → RecordsFollow p.custody.records q.custody.records)
    (room : p.CustodySound → q.custody.records.length + p.custody.held ≤ 96) (minute : p.minute ≤ q.minute) :
    p.CustodyTurns q where
  sound := fun law => by
    obtain ⟨single, _, hold⟩ := id law
    have single' := (follow law).nodup single
    have room' := room law
    unfold Part.CustodySound
    rw [hatch, held]
    exact ⟨single', room', hold⟩
  follow := follow
  minute := minute

/-- What comes before and changes no record. -/
theorem before (h : p.RecordsStand q) (k : q.CustodyTurns r) : p.CustodyTurns r :=
  ⟨k.sound ∘ h.sound, fun law => h.records ▸ k.follow (h.sound law), h.minute.trans k.minute⟩

/-- What comes after and changes no record. -/
theorem after (h : p.CustodyTurns q) (k : q.RecordsStand r) : p.CustodyTurns r :=
  ⟨k.sound ∘ h.sound, fun law => k.records ▸ h.follow law, h.minute.trans k.minute⟩

end Part.CustodyTurns

/-! ## Locks, leaves, notices, purge (R114 to R117, R122, R134, R135) -/

namespace Part.SameCustody

section
variable (h : p.SameCustody q)
include h

theorem withHatch (x : HatchContext) (direction : x.direction = q.hatch.direction := by rfl)
    (stage : x.stage = q.hatch.stage := by rfl) (handoverOpen : x.handoverOpen = q.hatch.handoverOpen := by rfl)
    (declared : x.declared = q.hatch.declared := by rfl)
    (startTally : x.startTally ≠ .no → q.hatch.startTally ≠ .no := by exact id) : p.SameCustody (q.withHatch x) :=
  h.trans ⟨rfl, direction, stage, handoverOpen, declared, startTally, rfl⟩

theorem setHatchState (st : HatchState) : p.SameCustody (q.setHatchState st) := h.withHatch _

theorem requestOutput (o : OutputId) (x : OutputRequest) : p.SameCustody (q.requestOutput o x) :=
  h.trans ⟨rfl, rfl, rfl, rfl, rfl, id, rfl⟩

theorem setLock (l : Leaf) (on : Bool) : p.SameCustody (q.setLock l on) := (h.withHatch _).requestOutput _ _

theorem clearWindow (l : Leaf) : p.SameCustody (q.clearWindow l) := h.withHatch _

theorem lockBoth : p.SameCustody q.lockBoth := (((h.setLock _ _).setLock _ _).clearWindow _).clearWindow _

theorem unlock (l : Leaf) : p.SameCustody (q.unlock l) := .ite ((h.setLock l true).withHatch _) h

theorem handFrame (f : TxFrame) : p.SameCustody (q.handFrame f) := by
  rw [Part.handFrame_eq]
  exact h.trans ⟨rfl, rfl, rfl, rfl, rfl, id, rfl⟩

theorem reply (a : Asker) (st : Status) (d : ReplyData) : p.SameCustody (q.reply a st d) := h.handFrame _

theorem refuseSequence (a : Asker) (x : HatchContext) : p.SameCustody (q.refuseSequence a x) := h.reply _ _ _

theorem handNotices (xs : List Station) (t : NoticeType) (d : Option Direction) (b : Option Nat) (c : Option Cause) :
    p.SameCustody (q.handNotices xs t d b c) := by
  rw [Part.handNotices_eq]
  exact h.trans ⟨rfl, rfl, rfl, rfl, rfl, id, rfl⟩

theorem unlockWithNotice (l : Leaf) (t : NoticeType) (xs : List Station) : p.SameCustody (q.unlockWithNotice l t xs) :=
  .ite ((h.unlock l).handNotices _ _ _ _ _) h

theorem evaluate : p.SameCustody q.evaluate := h.trans (others (by simp [Part.minute_eq]))

theorem endPurge : p.SameCustody q.endPurge := .ite (h.withHatch _).evaluate h

theorem raise (k : ExceptionKind) (x : ExceptionSubject) : p.SameCustody (q.raise k x) :=
  h.trans ⟨rfl, rfl, rfl, rfl, rfl, id, rfl⟩

theorem completePurge (timedOut : Bool) : p.SameCustody (q.completePurge timedOut) :=
  ((SameCustody.ite (h.raise _ _) h).endPurge.setHatchState _).unlockWithNotice _ _ _

theorem purgeSecond : p.SameCustody q.purgeSecond := .ite (.ite ((h.withHatch _).completePurge _) (h.withHatch _)) h

theorem accumulateDose (store chamber : Option Nat) : p.SameCustody (q.accumulateDose store chamber) := by
  refine .ite ?_ h
  split
  · exact .ite ((h.withHatch _).raise _ _) (h.withHatch _)
  · exact h

theorem toleranceHandOff (store chamber : Option Nat) : p.SameCustody (q.toleranceHandOff store chamber) :=
  .ite (.ite (.ite ((h.withHatch _).completePurge _) (h.withHatch _)) (h.withHatch _)) h

theorem hatchHandOff (store chamber : Option Nat) : p.SameCustody (q.hatchHandOff store chamber) :=
  ((h.withHatch _).accumulateDose _ _).toleranceHandOff _ _

theorem returnAccess (abandoned : Bool) : p.SameCustody (q.returnAccess abandoned) := by
  unfold Part.returnAccess
  split
  · exact (h.withHatch _).setHatchState _
  · exact h

/-- A forcing leaves a start tally awaited where one was (R116, R141). -/
theorem forceLeaf (l : Leaf) : p.SameCustody (q.forceLeaf l) := by
  refine ((h.withHatch _ (startTally := fun awaited => ?_)).setLock _ _).setHatchState _
  by_contra no
  exact awaited (if_pos no)

theorem discardTally (l : Leaf) : p.SameCustody (q.discardTally l) := .ite ((h.withHatch _).setHatchState _) h

theorem leafCloses (l : Leaf) : p.SameCustody (q.leafCloses l) := by
  have locked := (h.clearWindow l).setLock l false
  exact .ite ((locked.withHatch _).setHatchState _) locked

end

end Part.SameCustody

/-! ## Abandonment (R125) -/

namespace Part.HoldEnds

/-- What comes before and leaves custody, direction and stage. -/
theorem before (custody : q.custody = p.custody) (direction : q.hatch.direction = p.hatch.direction)
    (stage : q.hatch.stage = p.hatch.stage) (startTally : q.hatch.startTally ≠ .no → p.hatch.startTally ≠ .no)
    (k : q.HoldEnds r) : p.HoldEnds r where
  held := by
    have held := k.held
    unfold HatchContext.inboundPresented at held
    rwa [custody, direction, stage] at held
  away := k.away
  start := fun law => k.start fun awaited => by
    rw [stage]
    exact law (startTally awaited)

theorem after (h : p.HoldEnds q) (k : q.SameCustody r) : p.HoldEnds r where
  held := by rw [k.custody]; exact h.held
  away := k.inboundPresented.not.2 h.away
  start := fun law awaited => by rw [k.stage]; exact h.start law (k.startTally awaited)

/-- The stage moves on from PRESENTED, or the table gives up its hold. -/
theorem ofStage (held : q.custody.held = 0 ∨ q.custody.held = p.custody.held ∧ ¬ p.hatch.inboundPresented)
    (stage : q.hatch.stage ≠ .presented) : p.HoldEnds q :=
  ⟨held, fun waits => stage waits.2, fun _ _ => stage⟩

/-- The hold has ended before, and what the hatch makes of direction, stage and start tally begins no other. -/
theorem ofAway (away : ¬ p.hatch.inboundPresented) (held : q.custody.held = p.custody.held)
    (away' : ¬ q.hatch.inboundPresented)
    (start : q.hatch.startTally ≠ .no → p.hatch.startTally ≠ .no ∧ (q.hatch.stage = p.hatch.stage ∨ q.hatch.stage = .none)) :
    p.HoldEnds q where
  held := .inr ⟨held, away⟩
  away := away'
  start := fun law awaited => by
    obtain ⟨waited, same | none⟩ := start awaited
    · rw [same]; exact law waited
    · rw [none]; nofun

end Part.HoldEnds

/-- The hold ends without a change of a record. -/
structure Part.HoldGoes (p q : Part) : Prop extends p.HoldEnds q where
  records : q.custody.records = p.custody.records
  minute : q.minute = p.minute

namespace Part.HoldGoes

theorem stands (h : p.HoldGoes q) : p.RecordsStand q := h.toHoldEnds.stand h.records h.minute.ge

theorem before (custody : q.custody = p.custody) (direction : q.hatch.direction = p.hatch.direction)
    (stage : q.hatch.stage = p.hatch.stage) (startTally : q.hatch.startTally ≠ .no → p.hatch.startTally ≠ .no)
    (minute : q.minute = p.minute) (k : q.HoldGoes r) : p.HoldGoes r :=
  ⟨.before custody direction stage startTally k.toHoldEnds, k.records.trans (congrArg _ custody), k.minute.trans minute⟩

theorem after (h : p.HoldGoes q) (k : q.SameCustody r) : p.HoldGoes r :=
  ⟨h.toHoldEnds.after k, (congrArg _ k.custody).trans h.records, k.minute.trans h.minute⟩

/-- The stage of an abandoned handover (R125 step 4). -/
theorem abandonStage (p : Part) : p.HoldGoes p.abandonStage := by
  have moved (st : Stage) (on : st ≠ .presented) (away : ¬ p.hatch.inboundPresented) :
      p.HoldGoes (p.withHatch { p.hatch with stage := st }) := ⟨.ofStage (.inr ⟨rfl, away⟩) on, rfl, rfl⟩
  unfold Part.abandonStage
  split
  · exact ⟨.ofStage (.inl rfl) nofun, rfl, rfl⟩
  · next _ tallied => exact (moved .tallied nofun fun waits => nomatch tallied.symm.trans waits.2).after (.endPurge (.refl _))
  · next _ attested => exact (moved .tallied nofun fun waits => nomatch attested.symm.trans waits.2).after (.endPurge (.refl _))
  · next other _ _ => exact moved .none nofun fun waits => other waits.1 waits.2

/-- The hatch context cleared, its stage kept (R125 step 5). -/
theorem withoutBatch (h : p.HoldGoes q) : p.HoldGoes (q.withHatch q.hatch.withoutBatch) :=
  ⟨⟨h.held, nofun, h.start⟩, h.records, h.minute⟩

theorem abandonHatchState (h : p.HoldGoes q) (before : HatchContext) : p.HoldGoes (q.abandonHatchState before) := by
  have same := SameCustody.refl q
  have ends {b : Bool} {x : Part} (k : q.SameCustody x) : p.HoldGoes (if b then q else x) := h.after (.ite same k)
  unfold Part.abandonHatchState
  split
  · split
    · exact h
    · split
      · exact h.withoutBatch.after (.setHatchState (.refl _) _)
      · exact h
      · exact h.after (same.setHatchState _)
  · exact h.after (same.setHatchState _)
  · exact h.after (same.setHatchState _)
  · exact ends (same.setHatchState _)
  · exact ends (same.returnAccess _)
  all_goals exact h

theorem abandonCore (p : Part) : p.HoldGoes p.abandonCore := by
  have locked := (SameCustody.refl p).lockBoth
  unfold Part.abandonCore
  refine abandonHatchState (before ?_ ?_ ?_ ?_ ?_ (abandonStage _)) _
  exacts [locked.custody, locked.direction, locked.stage, locked.startTally, locked.minute]

end Part.HoldGoes

namespace Part.RecordsStand

/-! ## The hatch between tallies (R115, R116, R124 to R126) -/

theorem abandonWith (p : Part) (c : Cause) {finish : Part → Part}
    (same : ∀ q : Part, q.SameCustody (finish q)) : p.RecordsStand (p.abandonWith c finish) :=
  (((HoldGoes.abandonCore p).after (same _)).after (.handNotices (.refl _) _ _ _ _ _)).stands

theorem abandon (p : Part) (c : Cause) : p.RecordsStand (p.abandon c) := abandonWith p c .refl

theorem leafOpens (p : Part) (l : Leaf) : p.RecordsStand (p.leafOpens l) := by
  refine .ite (SameCustody.discardTally ((SameCustody.refl p).withHatch _) l).stand ?_
  exact .ite (abandonWith p _ fun q => (SameCustody.refl q).forceLeaf l) ((SameCustody.refl p).forceLeaf l).stand

theorem takeLeaf (p : Part) (l : Leaf) (closed : Bool) : p.RecordsStand (p.takeLeaf l closed) :=
  .ite ((SameCustody.refl p).leafCloses l).stand (leafOpens p l)

theorem windowExpires (p : Part) (l : Leaf) : p.RecordsStand (p.windowExpires l) := by
  have closed := ((SameCustody.refl p).setLock l false).clearWindow l
  refine .ite ?_ (refl p)
  dsimp only
  split
  · exact (closed.returnAccess _).stand
  · exact .ite (closed.stand.trans (abandon _ _)) closed.stand
  · exact closed.stand

theorem stepTimeoutExpires (p : Part) : p.RecordsStand p.stepTimeoutExpires :=
  .ite (.ite (abandon p _) ((SameCustody.refl p).withHatch _).stand) (refl p)

end Part.RecordsStand

end Sys2Proof.Machine
end

section
/-! PROOF. The custody table through the handover requests (R119, R121 to R133) and the tallies (R118 to R143). -/

namespace Sys2Proof.Machine

variable {p q r : Part}

/-! ## Requests of the hatch (R119, R121 to R133) -/

theorem Part.CustodySound.held_none (h : p.CustodySound) (away : ¬ p.hatch.inboundPresented) : p.custody.held = 0 :=
  not_not.1 fun some_ => away (h.2.2.2.1 some_)

/-- No inbound handover waits in stage PRESENTED where none is open. -/
theorem Part.CustodySound.away (h : p.CustodySound) (closed : p.hatch.handoverOpen = false) :
    ¬ p.hatch.inboundPresented := fun waits => by
  have opened := (h.2.2.2.2.1 waits).1
  rw [closed] at opened
  cases opened

theorem HatchContext.not_inboundPresented {h : HatchContext} {a : Asker} {x : HandoverRequest}
    (expects : h.expects a x = true) : ¬ h.inboundPresented := by
  rintro ⟨inward, presented⟩
  simp [HatchContext.expects, inward, presented] at expects

namespace Part.RecordsStand

theorem takeOpenInner (p : Part) (a : Asker) : p.RecordsStand (p.takeOpenInner a) := by
  have same := SameCustody.refl p
  refine SameCustody.stand ?_
  refine .ite (same.reply _ _ _) (.ite (same.reply _ _ _) (.ite (same.reply _ _ _) (.ite (same.reply _ _ _) ?_)))
  exact (((same.withHatch _ (startTally := fun no => absurd rfl no)).unlock _).setHatchState _).reply _ _ _

/-- An accepted step takes the handover past PRESENTED. -/
theorem stepTaken (away : ¬ p.hatch.inboundPresented) {x : HatchContext} (stage : x.stage ≠ .presented)
    (k : (p.withHatch x).SameCustody q) : p.RecordsStand q :=
  HoldGoes.stands (.after (q := p.withHatch x) ⟨.ofStage (.inr ⟨rfl, away⟩) stage, rfl, rfl⟩ k)

theorem takeInboundAttest (away : ¬ p.hatch.inboundPresented) (a : Asker) (x : HandoverRequest) :
    p.RecordsStand (p.takeInboundAttest a x) :=
  stepTaken away (by simp) (((SameCustody.refl _).setHatchState _).evaluate.reply _ _ _)

theorem takeStep (away : ¬ p.hatch.inboundPresented) (a : Asker) (x : HandoverRequest) :
    p.RecordsStand (p.takeStep a x) := by
  unfold Part.takeStep
  split
  · exact takeInboundAttest away a _
  · exact stepTaken away (by simp) ((((SameCustody.refl _).setHatchState _).unlockWithNotice _ _ _).reply _ _ _)
  · exact stepTaken away (by simp) ((SameCustody.refl _).reply _ _ _)

theorem takeWhileOpen (p : Part) (a : Asker) (x : HandoverRequest) : p.RecordsStand (p.takeWhileOpen a x) := by
  have same := SameCustody.refl p
  refine .ite (same.reply _ _ _).stand ?_
  split
  · next expects => exact takeStep (HatchContext.not_inboundPresented expects) a x
  · exact .ite ((same.reply _ _ _).stand.trans (abandon _ _)) ((same.refuseSequence _ _).stand.trans (abandon _ _))

theorem takePresentOut (closed : p.hatch.handoverOpen = false) (a : Asker) (b n c : Nat) :
    p.RecordsStand (p.takePresentOut a b n c) := by
  have still := SameCustody.refl p
  refine .ite (still.reply _ _ _).stand (.ite (still.reply _ _ _).stand (.ite (still.reply _ _ _).stand
    (.ite (still.refuseSequence _ _).stand ?_)))
  refine same ?_ ((SameCustody.refl _).reply _ _ _)
  refine ⟨fun law => ?_, rfl, le_rfl⟩
  exact HoldEnds.sound (p := p) ⟨.inr ⟨rfl, law.away closed⟩, nofun, fun _ no => absurd rfl no⟩ law law.1
    ((Nat.le_add_right _ _).trans law.2.1)

/-- PRESENT IN holds the slots it declares, where the table can hold them (R93, R130). -/
theorem takePresentIn (p : Part) (a : Asker) (b : Nat) {n : Nat} (few : n ≤ 8) (c : Nat) :
    p.RecordsStand (p.takePresentIn a b n c) := by
  have same := SameCustody.refl p
  refine .ite (same.reply _ _ _).stand (.ite (same.reply _ _ _).stand (.ite (same.reply _ _ _).stand ?_))
  split
  · exact (same.reply _ _ _).stand
  · next can =>
    refine RecordsStand.same ?_ ((((SameCustody.refl _).setHatchState _).unlockWithNotice _ _ _).reply _ _ _)
    refine ⟨fun law => ?_, rfl, le_rfl⟩
    have room : p.custody.records.length + n ≤ 96 := by
      simp only [CustodyTable.canHold, Bool.not_eq_true', Bool.not_eq_false, Bool.and_eq_true, decide_eq_true_eq] at can
      exact can.2
    exact ⟨law.1, room, few, fun _ => ⟨rfl, rfl⟩, fun _ => ⟨rfl, rfl⟩, fun no => absurd rfl no⟩

/-- A resumption takes a batch that has been tallied in (R133). -/
theorem takeResumption (p : Part) (a : Asker) (x : HandoverRequest) : p.RecordsStand (p.takeResumption a x) := by
  have same := SameCustody.refl p
  unfold Part.takeResumption
  dsimp only
  split
  · next tallied =>
    refine .ite (same.reply _ _ _).stand (.ite (same.reply _ _ _).stand (takeInboundAttest (fun waits => ?_) a x))
    exact nomatch tallied.2.1.symm.trans waits.2
  · exact (same.refuseSequence a p.hatch).stand

theorem takeWhileClosed (closed : p.hatch.handoverOpen = false) (a : Asker) {x : HandoverRequest}
    (few : ∀ d b n c, x = .present d b n c → n ≤ 8) : p.RecordsStand (p.takeWhileClosed a x) := by
  have same := SameCustody.refl p
  have refused := (same.refuseSequence a p.hatch).stand
  unfold Part.takeWhileClosed
  split
  · exact takePresentOut closed a _ _ _
  · exact takePresentIn p a _ (few _ _ _ _ rfl) _
  · exact takeResumption p a _
  · exact .ite (.ite (same.reply _ _ _).stand
      (((same.withHatch _ (startTally := fun no => absurd rfl no)).unlockWithNotice _ _ _).reply _ _ _).stand) refused
  · exact refused

theorem takeHandover (p : Part) (a : Asker) {x : HandoverRequest} (few : ∀ d b n c, x = .present d b n c → n ≤ 8) :
    p.RecordsStand (p.takeHandover a x) := by
  unfold Part.takeHandover
  split
  · exact ((SameCustody.refl p).reply _ _ _).stand
  · split
    · exact takeWhileOpen p a x
    · next closed => exact takeWhileClosed (Bool.not_eq_true _ ▸ closed) a few

end Part.RecordsStand

/-! ## Tallies (R118 to R143) -/

/-- The record after the staging tally of a part (R105, R120). -/
def Part.restagedAt (p : Part) (t : TagReport) (r : CustodyRecord) : CustodyRecord :=
  if p.custody.validOutbound t p.hatch.batch then
    (r.unstagedAt t p.hatch.batch).stagedAt t (p.hatch.batch.getD (nextBatch p.custody.batchCounter))
  else r.unstagedAt t p.hatch.batch

theorem Part.restagedAt_restaged (p : Part) (t : TagReport) (r : CustodyRecord) : r.RestagedTo (p.restagedAt t r) := by
  unfold Part.restagedAt
  split
  · exact r.stagedAt_unstagedAt_restaged t _ _
  · exact r.unstagedAt_restaged t _

theorem validOutbound_of_empty (c : CustodyTable) (batch : Option Nat) {t : TagReport} (empty : tallyShowsEmpty t = true) :
    c.validOutbound t batch = false := by
  cases t with
  | labels ls => simp_all [tallyShowsEmpty, CustodyTable.validOutbound]
  | overfull => rfl

/-- The staging tally's records, with what it leaves of the hold: no direction but OUT (R105, R120). -/
theorem Part.stagingTally_custody (p : Part) (t : TagReport) :
    (p.stagingTally t).custody.records = p.custody.records.map (p.restagedAt t)
    ∧ (p.stagingTally t).custody.held = p.custody.held
    ∧ (p.stagingTally t).hatch.direction ≠ some .inward
    ∧ (p.stagingTally t).hatch.stage = p.hatch.stage ∧ (p.stagingTally t).hatch.startTally = p.hatch.startTally := by
  unfold Part.stagingTally
  dsimp only
  split
  · next empty =>
    have invalid := validOutbound_of_empty p.custody p.hatch.batch empty
    refine ⟨?_, rfl, nofun, rfl, rfl⟩
    refine List.map_congr_left fun r _ => ?_
    simp [Part.restagedAt, invalid, CustodyRecord.unstagedAt]
  · split
    · next valid =>
      refine ⟨?_, rfl, nofun, rfl, rfl⟩
      refine (show _ = (p.custody.records.map (CustodyRecord.unstagedAt t p.hatch.batch)).map
        (CustodyRecord.stagedAt t _) from rfl).trans ?_
      rw [List.map_map]
      exact List.map_congr_left fun r _ => (if_pos valid).symm
    · next invalid =>
      have same : p.restagedAt t = CustodyRecord.unstagedAt t p.hatch.batch :=
        funext fun r => if_neg invalid
      rw [same]
      split
      · exact ⟨rfl, rfl, nofun, rfl, rfl⟩
      · exact ⟨rfl, rfl, nofun, rfl, rfl⟩

/-- A tally that finds no inbound handover waiting, changes each record once at most, and begins no hold. -/
theorem Part.CustodyTurns.ofTally (away : ¬ p.hatch.inboundPresented) {f : CustodyRecord → CustodyRecord}
    (records : q.custody.records = p.custody.records.map f) (each : ∀ r ∈ p.custody.records, r.RevisedOnce (f r))
    (held : q.custody.held = p.custody.held) (away' : ¬ q.hatch.inboundPresented)
    (start : q.hatch.startTally ≠ .no → p.hatch.startTally ≠ .no ∧ (q.hatch.stage = p.hatch.stage ∨ q.hatch.stage = .none))
    (minute : q.minute = p.minute) : p.CustodyTurns q := by
  refine (HoldEnds.ofAway away held away' start).turns (records ▸ .map each) (fun law => ?_) minute.ge
  rw [records, List.length_map]
  exact (Nat.le_add_right _ _).trans law.2.1

namespace Part.CustodyTurns

variable (away : ¬ p.hatch.inboundPresented)
include away

theorem stagingTally (t : TagReport) : p.CustodyTurns (p.stagingTally t) := by
  obtain ⟨records, held, direction, stage, startTally⟩ := p.stagingTally_custody t
  refine ofTally away records (fun r _ => (p.restagedAt_restaged t r).1) held (fun waits => direction waits.1) ?_
    (by simp [Part.minute_eq])
  rw [startTally, stage]
  exact fun awaited => ⟨awaited, .inl rfl⟩

theorem departureTally (t : TagReport) : p.CustodyTurns (p.departureTally t) := by
  unfold Part.departureTally
  extract_lets h table tallied settled
  have settles : p.CustodyTurns settled := by
    have tallies {x : HatchContext} (direction : x.direction = h.direction ∨ x.direction = none) (stage : x.stage = h.stage)
        (start : x.startTally = h.startTally) : p.CustodyTurns (tallied.withHatch x) := by
      refine ofTally away rfl (fun r _ => .ite (.departed r _ _) (.refl r)) rfl (fun waits => ?_)
        (fun awaited => ⟨start ▸ awaited, .inl stage⟩) rfl
      rcases direction with same | none
      · exact away ⟨same ▸ waits.1, stage ▸ waits.2⟩
      · exact nomatch none.symm.trans waits.1
    exact .ite (tallies (.inl rfl) rfl rfl) (tallies (.inr rfl) rfl rfl)
  have away' : ¬ settled.hatch.inboundPresented := by
    unfold settled
    split
    · exact away
    · exact nofun
  exact .ite (settles.after (.stepTaken away' (by simp) ((SameCustody.refl _).handNotices _ _ _ _ _))) settles

theorem retrieveTally (t : TagReport) : p.CustodyTurns (p.retrieveTally t) := by
  have same := SameCustody.refl p
  refine .ite ?_ ((same.setHatchState _).unlockWithNotice _ _ _).stand.turns
  refine ((HoldEnds.ofAway (q := (p.withHatch p.hatch.withoutBatch).setHatchState .empty) away rfl nofun
    fun awaited => ⟨awaited, .inl rfl⟩).stand rfl le_rfl).turns

/-- Records leave, and where none of the batch is left a staging tally follows: no record is changed by both (R108, R136). -/
theorem releaseTally (t : TagReport) : p.CustodyTurns (p.releaseTally t) := by
  unfold Part.releaseTally
  extract_lets h table tallied emptied settled
  have raised (x : Part) : x.SameCustody (x.releaseExceptions t p.custody.records) := .others (by simp [Part.minute_eq])
  have goes : p.CustodyTurns (p.withCustody table) :=
    ofTally away rfl (fun r _ => r.releasedAt_revisedOnce t h.batch _ _) rfl away (fun awaited => ⟨awaited, .inl rfl⟩) rfl
  have left : p.CustodyTurns tallied := goes.after (raised _).stand
  have done : p.CustodyTurns settled := by
    have records : emptied.custody.records = p.custody.records.map (CustodyRecord.releasedAt t h.batch _ p.minute) :=
      congrArg CustodyTable.records (raised (p.withCustody table)).custody
    have held : emptied.custody.held = p.custody.held :=
      (congrArg CustodyTable.held (raised (p.withCustody table)).custody).trans rfl
    have minute : emptied.minute = p.minute := (raised (p.withCustody table)).minute
    refine .ite ?_ ?_
    · exact ofTally (q := emptied.setHatchState .empty) away records (fun r _ => r.releasedAt_revisedOnce t h.batch _ _) held
        nofun (fun awaited => ⟨awaited, .inr rfl⟩) minute
    · obtain ⟨restaged, held', direction, stage, startTally⟩ := emptied.stagingTally_custody t
      rw [records, List.map_map] at restaged
      refine ofTally away restaged (fun r _ => CustodyRecord.releasedAt_restaged (emptied.restagedAt_restaged t _))
        (held'.trans held) (fun waits => direction waits.1) (fun awaited => ⟨startTally ▸ awaited, .inr stage⟩) ?_
      exact (show (emptied.stagingTally t).minute = emptied.minute by simp [Part.minute_eq]).trans minute
  refine .ite (.ite (left.after ?_) (left.after ?_)) (.ite (done.after ?_) done)
  · exact (((SameCustody.refl _).setHatchState _).unlockWithNotice _ _ _).stand
  · exact ((SameCustody.refl _).setHatchState _).stand
  · exact ((SameCustody.refl _).handNotices _ _ _ _ _).stand

end Part.CustodyTurns

/-- A report as the tally takes it lists no label twice (R117). -/
theorem tallyLabels_normalTally_nodup (t : TagReport) : (tallyLabels (normalTally t)).Nodup := by
  cases t with
  | labels ls =>
    unfold normalTally
    dsimp only
    split
    · exact ls.nodup_dedup
    · exact List.nodup_nil
  | overfull => exact List.nodup_nil

/-- A tally matches a declaration of as many labels as it lists (R131). -/
theorem CustodyTable.declared_of_matches {c : CustodyTable} {t : TagReport} {n : Option Nat}
    (fits : c.matchesDeclared t n = true) : n = some (tallyLabels t).length := by
  cases t with
  | labels ls =>
    simp only [CustodyTable.matchesDeclared, Bool.and_eq_true, beq_iff_eq] at fits
    exact fits.1
  | overfull => simp [CustodyTable.matchesDeclared] at fits

/-- The hold is as many slots as were declared, so the table has room for every record the tally creates (R93, R107). -/
theorem Part.CustodyTurns.comparisonTally (waits : p.hatch.inboundPresented) {t : TagReport}
    (once : (tallyLabels t).Nodup) : p.CustodyTurns (p.comparisonTally t) := by
  unfold Part.comparisonTally
  dsimp only
  split
  · next fits =>
    have declared := CustodyTable.declared_of_matches fits
    refine HoldEnds.turns (.ofStage (.inl rfl) (by simp [Part.setHatchState])) (p.custody.receive_follow once _ _ _) (fun law => ?_) le_rfl
    obtain ⟨_, room, _, _, opened, _⟩ := law
    have held : (tallyLabels t).length = p.custody.held := Option.some.inj (declared.symm.trans (opened waits).2)
    have length := p.custody.receive_length (tallyLabels t) p.hatch.batch p.hatch.courier p.minute
    exact length.trans (held ▸ room)
  · exact ((RecordsStand.abandonWith p _ fun q => (SameCustody.refl q).setHatchState _).same
      ((SameCustody.refl _).unlockWithNotice _ _ _)).turns

/-- The comparison tally is that of a waiting inbound handover, and every other tally finds none (R118, R141). -/
theorem HatchContext.outcome_comparison_iff {h : HatchContext} (start : h.startTally ≠ .no → h.stage ≠ .presented) :
    h.outcome = .comparison ↔ h.inboundPresented := by
  unfold HatchContext.outcome HatchContext.inboundPresented
  split
  · unfold outcomeOf
    split <;> simp_all
  · next awaited =>
    have stage := start awaited
    simp only [stage, and_false, iff_false]
    unfold startOutcomeOf
    split <;> simp
    split <;> simp

theorem Part.CustodyTurns.applyTally (law : p.CustodySound) {t : TagReport} (once : (tallyLabels t).Nodup) :
    p.CustodyTurns (p.applyTally p.hatch.outcome t) := by
  have which := HatchContext.outcome_comparison_iff law.2.2.2.2.2
  have away {o : TallyOutcome} (outcome : p.hatch.outcome = o) (other : o ≠ .comparison) : ¬ p.hatch.inboundPresented :=
    fun waits => other (outcome.symm.trans (which.2 waits))
  cases outcome : p.hatch.outcome with
  | staging => exact stagingTally (away outcome nofun) t
  | departure => exact departureTally (away outcome nofun) t
  | comparison => exact comparisonTally (which.1 outcome) once
  | retrieve => exact retrieveTally (away outcome nofun) t
  | release => exact releaseTally (away outcome nofun) t
  | heldBatch => exact ((SameCustody.refl p).setHatchState _).stand.turns

/-- The law itself may serve to show what a block makes of a part that keeps it. -/
theorem Part.CustodyTurns.ofLaw (h : p.CustodySound → p.CustodyTurns q) (minute : p.minute ≤ q.minute) : p.CustodyTurns q :=
  ⟨fun law => (h law).sound law, fun law => (h law).follow law, minute⟩

theorem Part.CustodyTurns.tallyCompletes (p : Part) (report : TagReport) : p.CustodyTurns (p.tallyCompletes report) := by
  refine .ite ?_ (.refl p)
  have begun := (SameCustody.refl p).withHatch { p.hatch with tallyList := some (normalTally report), tallyEnd := none }
  refine before begun.stand (after (ofLaw (fun law => ?_) ?_)
    ((SameCustody.refl _).withHatch _ (startTally := fun no => absurd rfl no)).stand)
  · exact applyTally law (tallyLabels_normalTally_nodup report)
  · simp [Part.minute_eq]

end Sys2Proof.Machine
end

section
/-! PROOF. The custody table through the events of the other blocks: a fire that seals the zone lets the hatch controller
stage once at most (R126), and requests reach the table through the bus port (R158). -/

namespace Sys2Proof.Machine

variable {p q r : Part}

/-! ## A change of the fire state (R66, R126) -/

/-- What the fire sequencer may make of the part: only where the zone is sealed is a record changed, and a sealed zone stays
sealed, so that the changes of an event are those of one staging tally at most. -/
structure Part.SealsCustody (p q : Part) : Prop extends p.CustodyTurns q where
  sealed : p.fire.state.sealed = true → q.fire.state.sealed = true ∧ q.custody.records = p.custody.records
  unsealed : q.fire.state.sealed = false → q.custody.records = p.custody.records

namespace Part.SealsCustody

theorem ofStand (h : p.RecordsStand q) (fire : q.fire.state = p.fire.state) : p.SealsCustody q :=
  ⟨h.turns, fun sealed => ⟨fire ▸ sealed, h.records⟩, fun _ => h.records⟩

theorem ofSame (h : p.SameCustody q) (fire : q.fire.state = p.fire.state) : p.SealsCustody q := ofStand h.stand fire

theorem refl (p : Part) : p.SealsCustody p := ofSame (.refl p) rfl

theorem trans (h : p.SealsCustody q) (k : q.SealsCustody r) : p.SealsCustody r where
  sound := k.sound ∘ h.sound
  follow := fun law => by
    cases between : q.fire.state.sealed with
    | true => exact (k.sealed between).2 ▸ h.follow law
    | false => exact h.unsealed between ▸ k.follow (h.sound law)
  minute := h.minute.trans k.minute
  sealed := fun before => by
    obtain ⟨between, first⟩ := h.sealed before
    obtain ⟨after, second⟩ := k.sealed between
    exact ⟨after, second.trans first⟩
  unsealed := fun after => by
    have between : q.fire.state.sealed = false := by
      by_contra closed
      rw [(k.sealed (Bool.not_eq_false _ ▸ closed)).1] at after
      cases after
    exact (k.unsealed after).trans (h.unsealed between)

theorem ite {c : Prop} [Decidable c] (yes : p.SealsCustody q) (no : p.SealsCustody r) :
    p.SealsCustody (if c then q else r) := by
  split
  · exact yes
  · exact no

end Part.SealsCustody

/-- The hatch controller in a fire: an open handover is abandoned; with none open and no direction, the labels in the
chamber are staged (R126). -/
theorem Part.CustodyTurns.hatchTakesFire (p : Part) (old : FireState) : p.CustodyTurns (p.hatchTakesFire old) := by
  have locked := (SameCustody.refl p).lockBoth
  have stays := locked.stand.turns
  refine .ite (.ite (locked.stand.trans (.abandon _ _)).turns ?_) (refl p)
  dsimp only
  split
  · exact .ite (locked.returnAccess _).stand.turns stays
  · refine .ite ?_ stays
    split
    · exact (locked.setHatchState _).stand.turns
    · exact (locked.setHatchState _).stand.turns
    · next none => exact before locked.stand (stagingTally (fun waits => nomatch none.symm.trans waits.1) _)
  · exact stays

namespace Part.SealsCustody

theorem changeFire (p : Part) (f : FireSequencer) (keeps : p.fire.state.sealed = true → f.state.sealed = true) :
    p.SealsCustody (p.changeFire f) := by
  have state := p.changeFire_state f
  by_cases calm : p.fire.state.sealed = true ∨ f.state.sealed = false
  · obtain ⟨hatch, custody⟩ := (Part.changeFire_fireOnly calm).hatch_custody
    have same : p.SameCustody (p.changeFire f) := .others ⟨custody, hatch, by simp [Part.minute_eq]⟩
    refine ⟨same.stand.turns, fun sealed => ⟨state ▸ keeps sealed, ?_⟩, fun _ => ?_⟩ <;> rw [custody]
  · rw [not_or, Bool.not_eq_false] at calm
    have changed : p.SameCustody (p.withFire (f.entered (p.inactive .in4))).requestSignals.handFireState.evaluate :=
      .others (by simp [Part.minute_eq])
    refine ⟨.before changed.stand (.hatchTakesFire _ _), fun sealed => absurd sealed calm.1, fun open_ => ?_⟩
    rw [state, calm.2] at open_
    cases open_

/-- A change after which the zone is sealed. -/
theorem seals (p : Part) (f : FireSequencer) (sealed : f.state.sealed = true) : p.SealsCustody (p.changeFire f) :=
  changeFire p f fun _ => sealed

theorem requestOutput (h : p.SealsCustody q) (o : OutputId) (x : OutputRequest) : p.SealsCustody (q.requestOutput o x) :=
  h.trans (ofSame ((SameCustody.refl q).requestOutput o x) rfl)

theorem withFire (f : FireSequencer) (state : f.state = p.fire.state := by rfl) : p.SealsCustody (p.withFire f) :=
  ofSame (.others ⟨rfl, rfl, rfl⟩) state

theorem updateFire (f : FireSequencer) (state : f.state = p.fire.state := by rfl) : p.SealsCustody (p.updateFire f) :=
  (withFire f state).trans (ofSame ((SameCustody.refl _).handFrame _) (by simp [Part.updateFire]))

theorem discharge (p : Part) : p.SealsCustody p.discharge := (seals p _ rfl).requestOutput _ _

theorem expireAtZero (h : p.SealsCustody q) : p.SealsCustody q.expireAtZero := .ite (h.trans (discharge q)) h

theorem enterPreDischarge (p : Part) (n : Nat) (alarm : Option AlarmRecord) : p.SealsCustody (p.enterPreDischarge n alarm) :=
  (seals p (p.preDischarge n alarm) rfl).expireAtZero

theorem confirmFire (p : Part) : p.SealsCustody p.confirmFire := enterPreDischarge p _ _

theorem enterHold (p : Part) (unconfirmed : Bool) : p.SealsCustody (p.enterHold unconfirmed) :=
  ((refl p).requestOutput _ _).trans (seals _ _ rfl)

theorem pulseEnds (p : Part) : p.SealsCustody p.pulseEnds :=
  .ite (enterHold p _) (((refl p).requestOutput _ _).trans (withFire _))

theorem holdEnds (p : Part) : p.SealsCustody p.holdEnds := seals p _ rfl

theorem countdownSecond (p : Part) : p.SealsCustody p.countdownSecond := .ite (withFire _).expireAtZero (refl p)

/-- From QUIET, whose air path is not sealed, into ALERT (R68). -/
theorem enterAlert (state : p.fire.state = .quiet) (alarm : AlarmRecord) : p.SealsCustody (p.enterAlert alarm) := by
  have alerted : p.SealsCustody (p.changeFire { p.fire with state := .alert, alarm := some alarm }) :=
    changeFire p _ fun sealed => by simp [state, FireState.sealed] at sealed
  exact .ite (alerted.trans (confirmFire _)) alerted

theorem takeLoopChange (p : Part) (l : LoopId) (old new : LoopClass) : p.SealsCustody (p.takeLoopChange l old new) := by
  unfold Part.takeLoopChange
  dsimp only
  split
  · next state => exact .ite (.ite (enterPreDischarge p _ _) (enterAlert state _)) (refl p)
  · exact .ite (confirmFire p) (.ite (.ite (refl p) (confirmFire p)) (refl p))
  all_goals exact refl p

theorem manualRelease (p : Part) : p.SealsCustody p.manualRelease := by
  unfold Part.manualRelease
  dsimp only
  split
  · exact enterPreDischarge p _ _
  · exact enterPreDischarge p _ _
  · exact .ite (refl p) (updateFire _).expireAtZero
  all_goals exact refl p

theorem takeAbort (p : Part) (active : Bool) : p.SealsCustody (p.takeAbort active) :=
  .ite (.ite (.ite (refl p) (updateFire _)) (.ite (updateFire _) (refl p))) (refl p)

theorem setCylinderLow (p : Part) (low : Bool) : p.SealsCustody (p.setCylinderLow low) := .ite (refl p) (updateFire _)

theorem takePressure (p : Part) (normal : Bool) : p.SealsCustody (p.takePressure normal) := by
  refine .ite (setCylinderLow p _) ?_
  split
  · exact setCylinderLow p _
  · exact setCylinderLow p _
  · have fallen : p.SealsCustody (p.withFire { p.fire with pressureFall := true }) := withFire _
    exact .ite (fallen.trans (enterHold _ _)) fallen
  all_goals exact refl p

end Part.SealsCustody

namespace Part.SameCustody

/-- A change of the fire state that seals nothing (R76, R82). -/
theorem changeFire_open (p : Part) {f : FireSequencer} (open_ : f.state.sealed = false) : p.SameCustody (p.changeFire f) := by
  obtain ⟨hatch, custody⟩ := (Part.changeFire_fireOnly (p := p) (.inr open_)).hatch_custody
  exact .others ⟨custody, hatch, by simp [Part.minute_eq]⟩

theorem takeCancelDischarge (p : Part) (a : Asker) : p.SameCustody (p.takeCancelDischarge a) :=
  .ite ((refl p).reply _ _ _) (.ite ((refl p).reply _ _ _) ((changeFire_open p rfl).reply _ _ _))

theorem takeResetFire (p : Part) (a : Asker) : p.SameCustody (p.takeResetFire a) :=
  .ite ((refl p).reply _ _ _) ((changeFire_open p rfl).reply _ _ _)

/-! ## Scans (R4, R18) -/

theorem handScan (p : Part) : p.SameCustody p.handScan := by
  have resolved : p.SameCustody (p.climateHandOff p.moisture.store) := .others (by simp [Part.minute_eq])
  exact (resolved.hatchHandOff _ _).handFrame _

theorem withMoisture (h : p.SameCustody q) (x : MoistureUnit) : p.SameCustody (q.withMoisture x) :=
  h.trans (.others ⟨rfl, rfl, rfl⟩)

theorem decideChannel (h : p.SameCustody q) (x : Scan) (g : Group) (pl : Place) : p.SameCustody (q.decideChannel x g pl) :=
  .ite (((h.withMoisture _).withMoisture _).trans (handScan _)) (h.withMoisture _)

theorem channelMisses (p : Part) (x : Scan) (g : Group) (pl : Place) : p.SameCustody (p.channelMisses x g pl) :=
  ((refl p).withMoisture _).decideChannel x g pl

theorem channelReads (p : Part) (x : Scan) (g : Group) (pl : Place) (t : Int) (rh : Nat) :
    p.SameCustody (p.channelReads x g pl t rh) := by
  unfold Part.channelReads
  extract_lets read
  have kept : p.SameCustody read := (refl p).withMoisture _
  exact (SameCustody.ite (kept.raise _ _) kept).decideChannel x g pl

theorem takeAnswer (p : Part) (g : Group) (pl : Place) (t : Int) (rh : Nat) (agrees : Bool) :
    p.SameCustody (p.takeAnswer g pl t rh agrees) := by
  unfold Part.takeAnswer
  split
  · exact .ite (refl p) (.ite (channelReads _ _ _ _ _ _) (channelMisses _ _ _ _))
  · exact refl p

theorem windowCloses (p : Part) (g : Group) (pl : Place) : p.SameCustody (p.windowCloses g pl) := by
  unfold Part.windowCloses
  split
  · exact channelMisses _ _ _ _
  · exact refl p

end Part.SameCustody

namespace Part.CustodyTurns

/-! ## Inputs, loops, clock (R54, R57, R102, R168) -/

theorem handInput (p : Part) (i : InputId) (active : Bool) : p.CustodyTurns (p.handInput i active) := by
  cases i with
  | in0 => exact (RecordsStand.takeLeaf p _ _).turns
  | in1 => exact (RecordsStand.takeLeaf p _ _).turns
  | in2 => exact .ite (SealsCustody.manualRelease p).toCustodyTurns (refl p)
  | in3 => exact (SealsCustody.takeAbort p _).toCustodyTurns
  | in4 => exact (SealsCustody.takePressure p _).toCustodyTurns
  | in5 => exact others (by simp [Part.handInput, Part.minute_eq])
  | in6 => exact others (by simp [Part.handInput, Part.minute_eq])
  | in7 => exact refl p

theorem acceptInput (p : Part) (i : InputId) : p.CustodyTurns (p.acceptInput i) := by
  have accepted (x : PerInput InputState) : p.RecordsStand (p.withInputs x) := .others ⟨rfl, rfl, rfl⟩
  unfold Part.acceptInput
  dsimp only
  split
  · exact refl p
  · exact .ite (accepted _).turns (before (accepted _) (handInput _ i _))

theorem takeLoopReading (p : Part) (l : LoopId) (reading : Nat) : p.CustodyTurns (p.takeLoopReading l reading) := by
  have converted (x : LoopState) : p.RecordsStand (p.converted l x) := by
    rw [Part.converted_eq]
    exact .others ⟨rfl, rfl, rfl⟩
  rw [Part.takeLoopReading_eq rfl]
  exact .ite (converted _).turns (before (converted _) (SealsCustody.takeLoopChange _ l _ _).toCustodyTurns)

theorem advanceSecond (p : Part) : p.CustodyTurns p.advanceSecond := by
  have counted : p.SameCustody (p.countSecond.withClock p.countSecond.clock.countSecondOfMinute) := by
    unfold Part.countSecond
    split <;> exact .others ⟨rfl, rfl, rfl⟩
  exact before counted.stand ((SealsCustody.countdownSecond _).toCustodyTurns.after (.same (.refl _) (.purgeSecond (.refl _))))

/-- The check of a minute rise changes each record once at most (R102, R103). -/
theorem riseMinute (p : Part) : p.CustodyTurns p.riseMinute := by
  unfold Part.riseMinute
  split
  · exact ofTable rfl rfl (fun _ => .map fun r _ => .checked r _) (fun law => by simpa [Part.minuteCheck, CustodyTable.mapRecords] using law.2.1)
      (Nat.le_succ _)
  · exact others ⟨rfl, rfl, rfl⟩

end Part.CustodyTurns

end Sys2Proof.Machine
end

section
/-! PROOF. The custody table through the requests of bus peers and the frames (R95 to R101, R157, R158, R163, R169). -/

namespace Sys2Proof.Machine

variable {p q r : Part}

namespace Part.CustodyTurns

/-! ## Requests of the custody table (R95 to R99) -/

theorem reply (h : p.CustodyTurns q) (a : Asker) (st : Status) (d : ReplyData) : p.CustodyTurns (q.reply a st d) :=
  h.after (.same (.refl q) ((SameCustody.refl q).reply a st d))

theorem takeCheckout (p : Part) (a : Asker) (loan : Nat) (labels : List Label) : p.CustodyTurns (p.takeCheckout a loan labels) := by
  obtain ⟨new, made, zero, fresh, distinct, room⟩ := checkoutLabels_records (clampMinutes loan) p.minute p.custody labels
  refine .ite ((refl p).reply _ _ _) (reply ?_ _ _ _)
  rw [made]
  exact ofTable rfl rfl (fun _ => .append zero fresh distinct) (fun law => room law.2.1) le_rfl

theorem conditional (p : Part) (a : Asker) (l : Label) (n : Nat) (st : RecordState) {act : CustodyRecord → Part}
    (taken : ∀ r, p.CustodyTurns (act r)) : p.CustodyTurns (p.conditional a l n st act) := by
  have refused (x : Status) (d : ReplyData) : p.CustodyTurns (p.reply a x d) := (refl p).reply a x d
  refine .ite (refused _ _) ?_
  split
  · exact refused _ _
  · exact .ite (refused _ _) (.ite (refused _ _) (taken _))

/-- A record removed (R91, R97, R99). -/
theorem removes (p : Part) (l : Label) : p.CustodyTurns (p.withCustody (p.custody.remove l)) := by
  refine ofTable rfl rfl (fun _ => p.custody.remove_follow l) (fun law => ?_) le_rfl
  have shorter : (p.custody.remove l).records.length ≤ p.custody.records.length := (List.eraseP_sublist ..).length_le
  exact (Nat.add_le_add_right shorter _).trans law.2.1

theorem takeCancel (p : Part) (a : Asker) (l : Label) (n : Nat) : p.CustodyTurns (p.takeCancel a l n) :=
  conditional p a l n _ fun _ => (removes p l).reply _ _ _

theorem takeShelved (p : Part) (a : Asker) (l : Label) (n : Nat) : p.CustodyTurns (p.takeShelved a l n) :=
  conditional p a l n _ fun _ => (removes p l).reply _ _ _

theorem takeExtend (p : Part) (a : Asker) (l : Label) (n added : Nat) : p.CustodyTurns (p.takeExtend a l n added) := by
  refine conditional p a l n _ fun _ => reply ?_ _ _ _
  refine ofTable rfl rfl (fun _ => p.custody.change_follow l fun r => .extended r _ _) (fun law => ?_) le_rfl
  simpa [CustodyTable.change, CustodyTable.mapRecords] using law.2.1

/-! ## Dispatch (R158, R159) -/

theorem countOffence_none {n : Byte} {position : Nat} (range : countOffence n position = none) : n.toNat ≤ 8 := by
  simp only [countOffence, offenceUnless] at range
  split at range
  · next fits =>
    simp only [Bool.and_eq_true, decide_eq_true_eq] at fits
    exact fits.2
  · cases range

/-- A request has no offence where none of its fields has. -/
theorem offence_orElse_none {o : Option Nat} {rest : Unit → Option Nat} :
    o.orElse rest = none ↔ o = none ∧ rest () = none := by
  cases o <;> simp

/-- The count of a PRESENT that passes the range tests (R121, R158). -/
theorem present_count {d n : Byte} {b c : BitVec 16} (range : (Request.present d b n c).offence = none) : n.toNat ≤ 8 := by
  obtain ⟨_, _, count, _⟩ := by simpa only [Request.offence, offence_orElse_none] using range
  exact countOffence_none count

theorem handToOwner (p : Part) (a : Asker) {x : Request} (range : x.offence = none) : p.CustodyTurns (p.handToOwner a x) := by
  have handover (y : HandoverRequest) (few : ∀ d b n c, y = .present d b n c → n ≤ 8) :
      p.CustodyTurns (p.takeHandover a y) := (RecordsStand.takeHandover p a few).turns
  cases x with
  | cancelDischarge => exact (SameCustody.takeCancelDischarge p a).stand.turns
  | resetFire => exact (SameCustody.takeResetFire p a).stand.turns
  | present _ _ n _ =>
    refine handover _ fun d b m c same => ?_
    cases same
    exact present_count range
  | attest _ _ => exact handover _ nofun
  | accept _ => exact handover _ nofun
  | withdraw _ => exact handover _ nofun
  | openInner => exact (RecordsStand.takeOpenInner p a).turns
  | checkout _ _ => exact takeCheckout p a _ _
  | cancel _ _ => exact takeCancel p a _ _
  | extendLoan _ _ _ => exact takeExtend p a _ _ _
  | shelved _ _ => exact takeShelved p a _ _
  | ackEvents named =>
    have acknowledged : p.CustodyTurns (p.clearLatches named).acknowledgeFaults := ⟨id, fun _ => .refl _, le_rfl⟩
    exact acknowledged.reply _ _ _
  | _ => exact others (by simp [Part.handToOwner, Part.minute_eq])

theorem answer (p : Part) (a : Asker) (role : Role) (x : Request) : p.CustodyTurns (p.answer a role x) := by
  refine .ite ((refl p).reply _ _ _) (.ite (others (by simp [Part.minute_eq])) ?_)
  split
  · exact (refl p).reply _ _ _
  · next range => exact handToOwner p a range

theorem takeRequest (p : Part) (src : Station) (role : Role) (x : Request) : p.CustodyTurns (p.takeRequest src role x) :=
  .ite (answer p _ _ _) (refl p)

theorem dispatch (p : Part) (f : RxFrame) : p.CustodyTurns (p.dispatch f) := by
  unfold Part.dispatch
  dsimp only
  split
  case h_1 => exact (refl p).reply _ _ _
  case h_6 =>
    refine .ite ((refl p).reply _ _ _) ?_
    split
    · exact answer p _ _ _
    · exact others (by simp [Part.minute_eq])
  all_goals exact refl p

end Part.CustodyTurns

/-! ## Frames (R71, R157, R163, R169) -/

theorem Part.SealsCustody.hearFrame (p : Part) (f : RxFrame) : p.SealsCustody (p.hearFrame f) := by
  have heard : p.SealsCustody (p.heard f) := .ofStand (.others ⟨rfl, rfl, rfl⟩) rfl
  have told : p.SealsCustody (p.told f) := .ite (heard.trans (confirmFire _)) heard
  rw [Part.hearFrame_eq]
  exact .ite (told.trans (.ofSame (.evaluate (.refl _)) (by simp))) told

/-- A request reaches the custody table through its owner alone. -/
theorem Part.SameCustody.hearRequest {f : RxFrame} {k : RequestKind} (request : kindMeaning f.cls f.kind = .request k) :
    p.SameCustody (p.hearFrame f) := by
  have calm : p.frameConfirms f = false := Part.frameConfirms_of_empty (by rw [contentOf_request request]; rfl)
  have heard : p.SameCustody (p.heard f) := .others ⟨rfl, rfl, rfl⟩
  rw [Part.hearFrame_eq, Part.told_calm calm]
  exact .ite heard.evaluate heard

theorem Part.CustodyTurns.receiveFrame (p : Part) (f : RxFrame) : p.CustodyTurns (p.receiveFrame f) := by
  cases valid : frameValid f p.bus.station with
  | false => rw [Part.receiveFrame_invalid valid]; exact .refl p
  | true =>
    by_cases request : ∃ k, kindMeaning f.cls f.kind = .request k
    · obtain ⟨k, request⟩ := request
      have heard := SameCustody.hearRequest (p := p) request
      have still : (p.hearFrame f).adoptMinute (contentOf f).minute = p.hearFrame f := by
        rw [contentOf_request request]
        rfl
      rw [Part.receiveFrame_valid valid, still, ite_self]
      exact .ite (.before heard.stand (dispatch _ f)) heard.stand.turns
    · rw [Part.receiveFrame_eq valid (not_exists.1 request)]
      have heard := (SealsCustody.hearFrame p f).toCustodyTurns
      have minute : p.minute ≤ (p.clockAfter f).minute := by
        unfold Part.clockAfter
        split
        · exact Nat.le_max_left _ _
        · exact le_rfl
      exact ⟨heard.sound, heard.follow, minute⟩

end Sys2Proof.Machine
end

section
/-! PROOF. O31, O32 and the archive minute: the custody table through starts, supplies and the reset pin, and so through every
command and every step (R102, R169, R180 to R182, R186). -/

namespace Sys2Proof.Machine

variable {p q r : Part}

/-! ## What a start makes of the table (R180, R186) -/

/-- `q` is what a start makes of `p` up to some stage, `cold` saying that it can be a cold one: the records stay, or are gone
with the backup, and so is the archive minute. -/
structure Part.CustodyStarted (p q : Part) (cold : Prop) : Prop where
  sound : p.CustodySound → q.CustodySound
  records : q.custody.records = p.custody.records ∨ q.custody.records = []
  minute : q.minute = p.minute ∨ cold ∧ q.minute = 0

namespace Part.CustodyStarted

variable {cold : Prop}

theorem ofSame (h : p.SameCustody q) : p.CustodyStarted q cold := ⟨h.sound, .inl (by rw [h.custody]), .inl h.minute⟩

theorem trans (h : p.CustodyStarted q cold) (k : q.CustodyStarted r cold) : p.CustodyStarted r cold where
  sound := k.sound ∘ h.sound
  records := by
    rcases k.records with same | gone
    · rw [same]; exact h.records
    · exact .inr gone
  minute := by
    rcases k.minute with same | zero
    · rw [same]; exact h.minute
    · exact .inr zero

/-- Changes of blocks other than custody and hatch. -/
theorem others (frame : q.custody = p.custody ∧ q.hatch = p.hatch ∧ q.minute = p.minute) : p.CustodyStarted q cold :=
  ofSame (.others frame)

theorem writeBackup (p : Part) (run : StartInProgress) : p.CustodyStarted (p.writeBackup run) (run.kind = .cold) := by
  unfold Part.writeBackup
  split
  · next cold =>
    refine ⟨fun law => ?_, .inr rfl, .inr ⟨cold, rfl⟩⟩
    exact ⟨List.nodup_nil, Nat.zero_le _, Nat.zero_le _, fun some_ => absurd rfl some_, nofun, fun _ => nofun⟩
  · exact ofSame (.refl p)
  · exact ofSame (.refl p)

/-- No start leaves a handover in stage PRESENTED (R140). -/
theorem stageAtStart_ne_presented (d : Option Direction) (st : Stage) : stageAtStart d st ≠ .presented := by
  unfold stageAtStart
  split <;> nofun

theorem takeStartValues (p : Part) (run : StartInProgress) : p.CustodyStarted (p.takeStartValues run) cold := by
  have stage : (p.takeStartValues run).hatch.stage ≠ .presented := by
    show (p.hatch.atStart run.kind).stage ≠ .presented
    unfold HatchContext.atStart
    split
    · nofun
    · exact stageAtStart_ne_presented _ _
    · exact stageAtStart_ne_presented _ _
  exact ⟨((HoldEnds.ofStage (p := p) (.inl rfl) stage).stand rfl le_rfl).sound, .inl rfl, .inl rfl⟩

theorem afterStage (p : Part) (run : StartInProgress) (stage : StartStage) :
    p.CustodyStarted (p.afterStage run stage) (run.kind = .cold) := by
  have abandoned : p.CustodyStarted (p.afterStage run .abandoned) (run.kind = .cold) :=
    ofSame ⟨rfl, rfl, rfl, rfl, rfl, id, rfl⟩
  have read := abandoned.trans (q := p.afterStage run .abandoned) (r := p.afterStage run .read) (others ⟨rfl, rfl, rfl⟩)
  have written := read.trans (r := p.afterStage run .written) (writeBackup _ run)
  have marked := written.trans (r := p.afterStage run .marked) (others (by simp [Part.afterStage_marked, Part.minute_eq]))
  have safe := marked.trans (r := p.afterStage run .safe) (others ⟨rfl, rfl, rfl⟩)
  cases stage with
  | begun => exact ofSame (.refl p)
  | abandoned => exact abandoned
  | read => exact read
  | written => exact written
  | marked => exact marked
  | safe => exact safe
  | valued => exact safe.trans (takeStartValues _ run)

/-- A countdown of 0 that a start retains expires in a zone that is sealed already, so the hatch controller does not act. -/
theorem expireAtZero (p : Part) : p.CustodyStarted p.expireAtZero cold := by
  unfold Part.expireAtZero
  split
  · next ended =>
    obtain ⟨hatch, custody⟩ := (Part.discharge_fireOnly (by rw [(Part.countdownOver_iff.1 ended).1]; rfl)).hatch_custody
    exact others ⟨custody, hatch, by simp [Part.minute_eq]⟩
  · exact ofSame (.refl p)

theorem completion (p : Part) : p.CustodyStarted p.completion cold := by
  have started : p.CustodyStarted p.started cold := by
    unfold Part.started Part.markCustodyLost
    split <;> exact ⟨id, .inl rfl, .inl rfl⟩
  have begun : p.started.CustodyStarted (p.started.beginScan.requestSignals.handFireState.startShut.startConfirmation) cold :=
    others (by simp [Part.minute_eq])
  exact (started.trans begun).trans (expireAtZero _)

theorem completeStart (run : StartInProgress) (progress : p.startUp.inProgress = some run) :
    p.CustodyStarted p.completeStart (run.kind = .cold) := by
  rw [show p.completeStart = (p.afterStage run .valued).completion by simp [Part.completeStart, progress]]
  exact (afterStage p run .valued).trans (completion _)

/-- A start that has begun goes on, whole or to a stage (R186, log 21). -/
theorem afterBegin {run : StartInProgress} (progress : p.startUp.inProgress = some run) (waiting : List Instr) :
    p.CustodyStarted (p.afterBegin waiting) (run.kind = .cold) := by
  have drawn : p.CustodyStarted (p.withFreeDraws (p.freeDraws + 1)) (run.kind = .cold) := others ⟨rfl, rfl, rfl⟩
  unfold Part.afterBegin
  split
  · dsimp only
    split
    · next stage _ =>
      rw [show (p.withFreeDraws (p.freeDraws + 1)).unfinished stage = (p.withFreeDraws (p.freeDraws + 1)).afterStage run stage
        by simp [Part.unfinished, progress]]
      exact drawn.trans (afterStage _ run stage)
    · exact drawn.trans (completeStart run progress)
  · exact completeStart run progress

theorem goesOn (p before : Part) (run : StartInProgress) (waiting : List Instr) :
    p.CustodyStarted ((p.beginStart run).goesOn before waiting) (run.kind = .cold) := by
  have begun : p.CustodyStarted (p.beginStart run) (run.kind = .cold) := others (by simp [Part.minute_eq])
  unfold Part.goesOn
  split
  · exact begun.trans (afterBegin (by simp) waiting)
  · exact begun

end Part.CustodyStarted

/-! ## What an event makes of the table, before a start it begins goes on -/

/-- `q` is what an event may make of `p`: the custody table turns, and a start may begin then. -/
inductive Part.CustodyBecomes (p : Part) : Part → Prop where
  | turns {q : Part} (h : p.CustodyTurns q) (calm : q.starting = true → p.starting = true) : CustodyBecomes p q
  | starts {q : Part} (h : p.CustodyTurns q) (run : StartInProgress) (cold : run.kind = .cold → p.coldStartNext) :
      CustodyBecomes p (q.beginStart run)

theorem Part.starting_congr (same : q.startUp = { p.startUp with restartDeadline := q.startUp.restartDeadline }) :
    q.starting = p.starting := by
  rw [Part.starting_eq, same]
  rfl

/-- An event that touches neither custody table nor hatch: what begins in it, the sequencer's own relation says. -/
theorem Part.FireBecomes.custody (h : p.FireBecomes q)
    (frame : q.custody = p.custody ∧ q.hatch = p.hatch ∧ q.minute = p.minute) : p.CustodyBecomes q := by
  cases h with
  | turns _ h _ => exact .turns (.others frame) (Part.starting_congr h.startUp ▸ id)
  | restarts _ _ _ => exact .starts (.others (by simpa [Part.minute_eq] using frame)) .restart nofun
  | starts run cold => exact .starts (.refl p) run cold
  | held h => exact .turns (.others frame) h.starting

theorem Part.event_custody {f : Part → Part} (h : p.CustodyTurns (f p)) (acts : p.Acts (f p)) :
    p.CustodyBecomes (p.event f) := by
  unfold Part.event Part.settle
  split
  · split
    · exact .starts h .restart nofun
    · exact .turns h (Part.starting_congr acts.startUp ▸ id)
  · exact .turns (.refl p) id

/-- What a command makes of the custody table and of the archive minute. -/
structure Part.CustodySteps (p q : Part) : Prop where
  sound : p.CustodySound → q.CustodySound
  follow : p.CustodySound → RecordsFollow p.custody.records q.custody.records
  minute : p.minute ≤ q.minute ∨ p.coldStartNext ∧ q.minute = 0

theorem Part.CustodyTurns.started {cold : Prop} (h : p.CustodyTurns q) (k : q.CustodyStarted r cold)
    (why : cold → p.coldStartNext) : p.CustodySteps r where
  sound := k.sound ∘ h.sound
  follow := fun law => by
    rcases k.records with same | gone
    · rw [same]; exact h.follow law
    · rw [gone]; exact .sublist (List.nil_sublist _)
  minute := by
    rcases k.minute with same | ⟨cold, zero⟩
    · rw [same]; exact .inl h.minute
    · exact .inr ⟨why cold, zero⟩

theorem Part.CustodyBecomes.goesOn (h : p.CustodyBecomes q) (waiting : List Instr) : p.CustodySteps (q.goesOn p waiting) := by
  cases h with
  | turns h calm =>
    rw [show q.goesOn p waiting = q from if_neg fun begins => by
      simp only [Bool.and_eq_true, Bool.not_eq_true'] at begins
      exact absurd (calm begins.1) (by simp [begins.2])]
    exact ⟨h.sound, h.follow, .inl h.minute⟩
  | starts h run cold => exact h.started (.goesOn _ p run waiting) cold

/-! ## The commands -/

/-- The machine is left with what an event makes of the part, and the start it begins goes on. -/
def State.CustodyBecomes (s : State) (o : Host.Outcome State Fault Refusal) : Prop :=
  ∃ q, s.toPart.CustodyBecomes q ∧ o = s.become q

theorem Part.CustodyBecomes.become {s : State} (h : s.toPart.CustodyBecomes q) : s.CustodyBecomes (s.become q) := ⟨q, h, rfl⟩

theorem State.event_custody (s : State) {f : Part → Part} (h : s.toPart.CustodyTurns (f s.toPart))
    (acts : s.toPart.Acts (f s.toPart)) : s.CustodyBecomes (s.become (s.toPart.event f)) := (Part.event_custody h acts).become

theorem State.timed_custody (s : State) {due : Part → Bool} {f : Part → Part} (h : s.toPart.CustodyTurns (f s.toPart))
    (acts : due s.toPart = true → s.toPart.Acts (f s.toPart)) : s.CustodyBecomes (s.become (s.toPart.timed due f)) := by
  refine s.event_custody (.ite h (.refl _)) ?_
  split
  · next ran => exact acts ran
  · exact .refl _

/-- An event at blocks other than custody and hatch. -/
theorem State.event_others (s : State) {f : Part → Part}
    (frame : (f s.toPart).custody = s.custody ∧ (f s.toPart).hatch = s.hatch ∧ (f s.toPart).minute = s.toPart.minute)
    (acts : s.toPart.Acts (f s.toPart)) : s.CustodyBecomes (s.become (s.toPart.event f)) := s.event_custody (.others frame) acts

theorem State.timed_others (s : State) {due : Part → Bool} {f : Part → Part}
    (frame : (f s.toPart).custody = s.custody ∧ (f s.toPart).hatch = s.hatch ∧ (f s.toPart).minute = s.toPart.minute)
    (acts : s.toPart.Acts (f s.toPart)) : s.CustodyBecomes (s.become (s.toPart.timed due f)) :=
  s.timed_custody (.others frame) fun _ => acts

theorem exec_custodyBecomes (i : Instr) (s : State) : s.CustodyBecomes (exec i s) := by
  have acts := Part.Acts.refl s.toPart
  have same := Part.SameCustody.refl s.toPart
  cases i with
  | scanStart => exact s.timed_others (by simp [Part.minute_eq]) acts.beginScan
  | channelAnswer g pl t rh agrees =>
    exact s.event_custody (Part.SameCustody.takeAnswer _ g pl t rh agrees).stand.turns (acts.takeAnswer g pl t rh agrees)
  | answerWindowExpiry g pl =>
    exact s.timed_custody (Part.SameCustody.windowCloses _ g pl).stand.turns fun _ => acts.windowCloses g pl
  | groupStalenessExpiry g => exact s.timed_others (by simp [Part.minute_eq]) (acts.stalenessExpires g)
  | burnCompletion => exact s.timed_others (by simp [Part.minute_eq]) acts.burnCompletes
  | damperConfirmationExpiry => exact s.timed_others (by simp [Part.minute_eq]) acts.confirmationExpires
  | loopReading l reading =>
    exact s.timed_custody (.takeLoopReading _ l reading.toNat) fun _ => acts.takeLoopReading l reading.toNat
  | inputLevelChange input high =>
    refine ((Part.levelChange_fireBecomes input high).custody ?_).become
    unfold Part.event Part.settle
    (repeat' split) <;> simp [Part.beginRestart, Part.minute_eq]
  | inputHoldExpiry input => exact s.timed_custody (.acceptInput _ input) fun _ => acts.acceptInput input
  | localSecondAdvance => exact s.timed_custody (.advanceSecond _) fun _ => acts.advanceSecond
  | countdownExpiry => exact s.timed_custody (Part.SealsCustody.discharge _).toCustodyTurns .countdownExpires
  | releasePulseEnd => exact s.timed_custody (Part.SealsCustody.pulseEnds _).toCustodyTurns acts.pulseEnds
  | confirmationEnd => exact s.timed_custody (Part.SealsCustody.enterHold _ _).toCustodyTurns acts.confirmationEnds
  | holdExpiry => exact s.timed_custody (Part.SealsCustody.holdEnds _).toCustodyTurns acts.holdEnds
  | archiveMinuteRise => exact s.timed_custody (.riseMinute _) fun _ => acts.riseMinute
  | stepTimeoutExpiry => exact s.timed_custody (Part.RecordsStand.stepTimeoutExpires _).turns fun _ => acts.stepTimeoutExpires
  | unlockWindowExpiry l => exact s.timed_custody (Part.RecordsStand.windowExpires _ l).turns fun _ => acts.windowExpires l
  | tallyEnd report => exact s.timed_custody (.tallyCompletes _ report) fun _ => acts.tallyCompletes report
  | purgeCompletion => exact s.timed_custody (same.completePurge _).stand.turns fun _ => acts.completePurge _
  | frameReceived f => exact s.event_custody (.receiveFrame _ f) (acts.receiveFrame f)
  | frameTransmitStart =>
    refine s.event_custody ?_ (.ite acts (acts.onQueue startHead))
    exact .ite (.refl _) (.others (by simp [Part.minute_eq]))
  | contentionLost bit =>
    refine s.event_custody ?_ ?_
    · split
      · exact .others (by simp [Part.minute_eq])
      · exact .refl _
    · split
      · exact acts.onQueue _
      · exact acts
  | frameSent => exact s.event_others (by simp [Part.minute_eq]) (acts.onQueue removeOnLine)
  | peerEntryExpiry x => exact s.timed_others (by simp [Part.minute_eq]) (acts.peerEntryExpires x)
  | neighbourWatchExpiry x => exact s.timed_others (by simp [Part.minute_eq]) (acts.watchExpires x)
  | patternPhaseEnd g => exact s.timed_others (by simp [Part.minute_eq]) (acts.phaseEnds g)
  | backupSupplyFall =>
    refine (Part.backupFalls_fireBecomes.custody ?_).become
    unfold Part.backupFalls
    split <;> simp [Part.minute_eq]
  | mainPowerLoss =>
    refine (Part.mainFalls_fireBecomes.custody ?_).become
    unfold Part.mainFalls
    split <;> simp [Part.minute_eq]
  | powerStart record pins =>
    refine ((Part.mainRises_fireBecomes _).custody ?_).become
    unfold Part.mainRises Part.powerStart
    (repeat' split) <;> simp [Part.minute_eq]
  | resetPinAssert =>
    refine (Part.resetAsserts_fireBecomes.custody ?_).become
    simp [Part.resetAsserts, Part.minute_eq]
  | resetPinRelease =>
    refine (Part.resetReleases_fireBecomes.custody ?_).become
    unfold Part.resetReleases Part.powerStart Part.beginRestart
    (repeat' split) <;> simp [Part.minute_eq]
  | restartPendingExpiry =>
    refine Part.CustodyBecomes.become ?_
    unfold Part.timed Part.event
    split
    · dsimp only
      split
      · rw [Part.settle_eq_self (Part.restartReplyLeft_of_none (by simp [Part.beginRestart]))]
        exact .starts (.refl _) .restart nofun
      · unfold Part.settle
        split
        · exact .starts (.refl _) .restart nofun
        · exact .turns (.refl _) id
    · exact .turns (.refl _) id
  | _ => exact s.event_custody (.takeRequest _ _ _ _) (acts.takeRequest _ _ _)

theorem exec_custodySteps {i : Instr} {s t : State} (taken : exec i s = .next t) : s.toPart.CustodySteps t.toPart := by
  obtain ⟨q, becomes, made⟩ := exec_custodyBecomes i s
  rw [made, State.become_goesOn] at taken
  cases taken
  exact becomes.goesOn s.pending

/-! ## The step -/

/-- A step with no command waiting: a start completes, a millisecond passes, or due timers become commands (log 2). -/
theorem State.idle_custodySound (s : State) (law : s.toPart.CustodySound) : s.idle.toPart.CustodySound := by
  unfold State.idle
  split
  · next starting =>
    simp only [Part.starting_eq, Bool.and_eq_true] at starting
    obtain ⟨run, progress⟩ := Option.isSome_iff_exists.1 starting.2
    exact (Part.CustodyStarted.completeStart run progress).sound law
  · split
    · split
      · exact law
      · exact law
    · exact law

/-- Settles O31: what a block does in an event keeps the law (`Part.CustodyTurns`), and so does every stage of a start. -/
theorem custodyLawIsKept : Obligations.CustodyLawIsKept := by
  intro s law t taken
  unfold step at taken
  split at taken
  · cases taken
    exact s.idle_custodySound law
  · exact (exec_custodySteps taken).sound law

/-- Settles O32: over a command the records follow those before it (`RecordsFollow`). -/
theorem revisionsCountTheChanges : Obligations.RevisionsCountTheChanges := by
  intro c s law t taken
  have follow := (exec_custodySteps taken).follow law
  refine ⟨fun r' after => ⟨fun r before same => ?_, fun new => follow.revision_zero after new⟩, follow.labelsInOrder law.1⟩
  rcases follow.revisedOnce law.1 before after same with stays | ⟨revision, _, foreign, reserve⟩
  · exact .inl stays
  · exact .inr ⟨revision, foreign, reserve⟩

end Sys2Proof.Machine
end

section
/-! PROOF. O27: a minute rise at every record, and the archive minute at every command (R102, R103, R168, R169). -/

namespace Sys2Proof.Machine

/-- The record at a minute check, in one case for each of the two states it concerns (R102, R103). -/
theorem CustodyRecord.checked_eq (r : CustodyRecord) (now : Minute) : r.checked now =
    if r.state = .onLoan ∧ r.overdue = false ∧ r.due.any (fun d => decide (d ≤ now)) = true then
      { r with overdue := true, revision := r.revision + 1 }
    else if r.state = .acclimatising ∧ r.dwellEnd.any (fun d => decide (d ≤ now)) = true then
      { r with state := .ready, revision := r.revision + 1 }
    else r := by
  unfold CustodyRecord.checked
  cases state : r.state <;> simp [CustodyRecord.revised, state]

/-- Settles O27: the rise by `CustodyRecord.checked_eq`, and the minute as every command leaves it (`Part.CustodySteps`). -/
theorem minuteRiseChecksTheRecords : Obligations.MinuteRiseChecksTheRecords := by
  refine ⟨fun s ready due => ?_, fun c s t taken => (exec_custodySteps taken).minute⟩
  have rises : exec .archiveMinuteRise s = .next { s with toPart := s.toPart.riseMinute } := by
    have frame : s.toPart.riseMinute.startUp = s.startUp ∧ s.toPart.riseMinute.bus = s.bus := by
      unfold Part.riseMinute
      split <;> simp
    exact ready.become_timed due frame.1 fun kept => frame.2 ▸ kept.mono (by decide)
  rw [rises]
  refine ⟨fun below => ?_, fun top => ?_⟩
  · rw [show s.toPart.riseMinute = _ from if_pos below]
    simp only [Part.minuteCheck, CustodyTable.mapRecords, CustodyRecord.checked_eq]
    rfl
  · rw [show s.toPart.riseMinute = _ from if_neg (by rw [Part.minute_eq, top]; decide)]
    rfl

end Sys2Proof.Machine
end

section
/-! PROOF. O28 to O30: the requests of the custody table, each at the table and as the machine answers it (R91, R95 to R101,
R150). -/

namespace Sys2Proof.Machine

/-! ## Labels and revisions in range (R158) -/

theorem labelOffence_none {l : Label} (valid : validLabel l = true) (offset : Nat) : labelOffence offset l = none := by
  simp only [validLabel, Bool.and_eq_true, List.all_eq_true] at valid
  simpa [labelOffence, List.findIdx?_eq_none_iff] using valid.2

theorem label_length {l : Label} (valid : validLabel l = true) : (l.length == 8) = true := by
  simp only [validLabel, Bool.and_eq_true] at valid
  exact valid.1

theorem labelsOffence_none {ls : List Label} (valid : ls.all validLabel = true) (offset : Nat) :
    labelsOffence offset ls = none := by
  induction ls generalizing offset with
  | nil => rfl
  | cons l ls ih =>
    simp only [List.all_cons, Bool.and_eq_true] at valid
    simp [labelsOffence, labelOffence_none valid.1, ih valid.2]

theorem labelled_offence_none {l : Label} {revision : BitVec 16} (valid : validLabel l = true) (range : revision.toNat ≤ 255) :
    ((labelOffence 0 l).orElse fun _ => revisionOffence revision 8) = none := by
  simp [labelOffence_none valid, revisionOffence, offenceUnless, range]

section
variable {s u : State} {src : Station} {status : Status} {data : ReplyData}

/-- A request whose owner makes the one reply, on a machine with another custody table or none other (R159). -/
theorem State.custody_answered {role : Role} {x : Request} (h : s.takesFrom src) (taken : x.kind.takenFrom role = true)
    (fits : x.fits = true) (range : x.offence = none) {c : CustodyTable}
    (owner : s.toPart.handToOwner (requester src x) x = (s.toPart.withCustody c).reply (requester src x) status data) :
    s.request src role x = .next (State.answered { s with custody := c } src x.kind status data) :=
  State.request_answered (u := { s with custody := c }) h taken fits range rfl rfl rfl owner

end

/-! ## O28: CHECKOUT (R96) -/

/-- Labels are handled one by one: what a single one makes of the table is made of the table that those before it left. -/
theorem checkoutLabels_cons (loan : Nat) (now : Minute) (t : CustodyTable) (l : Label) (ls : List Label) :
    checkoutLabels loan now t (l :: ls)
      = ((checkoutLabels loan now (checkoutLabels loan now t [l]).1 ls).1,
        (checkoutLabels loan now t [l]).2 ++ (checkoutLabels loan now (checkoutLabels loan now t [l]).1 ls).2) := by
  simp only [checkoutLabels]
  split
  · rfl
  · split <;> rfl

/-- CHECKOUT as a fold over its labels, given what a single label makes of the records and how it is answered. -/
theorem checkoutLabels_eq_fold {loan : Nat} {now : Minute} {t : CustodyTable} {after : List CustodyRecord → Label → List CustodyRecord}
    {result : List CustodyRecord → Label → LabelResult}
    (single : ∀ rs l, checkoutLabels loan now { t with records := rs } [l] = ({ t with records := after rs l }, [result rs l]))
    (rs : List CustodyRecord) (ls : List Label) :
    checkoutLabels loan now { t with records := rs } ls
      = ({ t with records := ls.foldl after rs },
        (List.range ls.length).map fun i => result ((ls.take i).foldl after rs) (ls.getD i [])) := by
  induction ls generalizing rs with
  | nil => rfl
  | cons l ls ih =>
    rw [checkoutLabels_cons, single, ih, List.length_cons, List.range_succ_eq_map, List.map_cons, List.map_map]
    rfl

/-- Settles O28: a fold of the handling of one label (`checkoutLabels_eq_fold`). -/
theorem checkoutTakesLabelsInTurn : Obligations.CheckoutTakesLabelsInTurn := by
  intro s src loan labels h normal some_ few valid length reserved present after result tableBefore
  have single (rs : List CustodyRecord) (l : Label) : checkoutLabels (clampMinutes loan.toNat) s.toPart.minute
      { s.custody with records := rs } [l] = ({ s.custody with records := after rs l }, [result rs l]) := by
    have known : ({ s.custody with records := rs } : CustodyTable).find l = present rs l := rfl
    simp only [checkoutLabels, known, after, result]
    cases found : present rs l with
    | some r => simp
    | none =>
      by_cases room : rs.length + s.custody.held < 96
      · simp [CustodyTable.hasRoom, custodyCapacity, room]
        rfl
      · simp [CustodyTable.hasRoom, custodyCapacity, room]
  have folded := checkoutLabels_eq_fold single s.custody.records labels
  refine State.custody_answered (x := .checkout loan labels) h rfl ?_ (labelsOffence_none valid 4) ?_
  · have lengths : (labels.all fun l => l.length == 8) = true :=
      List.all_eq_true.2 fun l mem => label_length (List.all_eq_true.1 valid l mem)
    simp [Request.fits, some_, few, lengths]
  · have taken : s.toPart.takeCheckout (requester src (.checkout loan labels)) loan.toNat labels = _ :=
      if_neg (by simp [normal])
    refine taken.trans ?_
    dsimp only
    rw [show checkoutLabels _ _ s.custody labels = _ from folded]
    simp only [tableBefore, List.take_length]
    rfl

/-! ## O29: CANCEL, EXTEND, SHELVED (R95, R97 to R99) -/

section
variable {p : Part} {l : Label} {n : Nat} {st : RecordState} {r : CustodyRecord} (a : Asker) (act : CustodyRecord → Part)
  (normal : p.startUp.defaulted = false)
include normal

theorem Part.conditional_absent (absent : ∀ r ∈ p.custody.records, r.label ≠ l) :
    p.conditional a l n st act = p.reply a .notFound .nothing := by
  have unknown : p.custody.find l = none := CustodyTable.find_eq_none.2 (by simpa [recordLabels] using absent)
  simp [Part.conditional, normal, unknown]

variable (found : p.custody.find l = some r)
include found

theorem Part.conditional_stale (stale : r.revision.toNat ≠ n) :
    p.conditional a l n st act = p.reply a .staleRevision (.revisionAndState r.revision r.state) := by
  simp [Part.conditional, normal, found, stale]

theorem Part.conditional_refused (fresh : r.revision.toNat = n) (other : r.state ≠ st) :
    p.conditional a l n st act = p.reply a .refusedState (.recordState r.state) := by
  simp [Part.conditional, normal, found, fresh, other]

end

section
variable {s : State} {src : Station} {label : Label} {revision : BitVec 16} {status : Status} {data : ReplyData}
  {c : CustodyTable} (h : s.takesFrom src) (valid : validLabel label = true) (range : revision.toNat ≤ 255)
include h valid range

theorem exec_cancel_answered
    (owner : s.toPart.takeCancel (requester src (.cancel label revision)) label revision.toNat
      = (s.toPart.withCustody c).reply (requester src (.cancel label revision)) status data) :
    exec (.cancel src .console label revision) s
      = .next (State.answered { s with custody := c } src .cancel status data) :=
  State.custody_answered (x := .cancel label revision) h rfl (label_length valid) (labelled_offence_none valid range) owner

theorem exec_shelved_answered
    (owner : s.toPart.takeShelved (requester src (.shelved label revision)) label revision.toNat
      = (s.toPart.withCustody c).reply (requester src (.shelved label revision)) status data) :
    exec (.shelved src .console label revision) s
      = .next (State.answered { s with custody := c } src .shelved status data) :=
  State.custody_answered (x := .shelved label revision) h rfl (label_length valid) (labelled_offence_none valid range) owner

theorem exec_extendLoan_answered {added : BitVec 32}
    (owner : s.toPart.takeExtend (requester src (.extendLoan label revision added)) label revision.toNat added.toNat
      = (s.toPart.withCustody c).reply (requester src (.extendLoan label revision added)) status data) :
    exec (.extendLoan src .console label revision added) s
      = .next (State.answered { s with custody := c } src .extendLoan status data) :=
  State.custody_answered (x := .extendLoan label revision added) h rfl (label_length valid) (labelled_offence_none valid range) owner

end

/-- EXTEND changes the one record of its label to the one it answers with (R92, R98). -/
theorem CustodyTable.change_single {t : CustodyTable} {l : Label} {r x : CustodyRecord} {f : CustodyRecord → CustodyRecord}
    (single : (recordLabels t.records).Nodup) (found : t.find l = some r) (changed : f r = x) :
    t.change l f = { t with records := t.records.map fun y => if y.label = l then x else y } := by
  obtain ⟨mem, label⟩ := CustodyTable.find_eq_some found
  refine congrArg (fun rs => { t with records := rs }) (List.map_congr_left fun y ymem => ?_)
  by_cases named : y.label = l
  · rw [if_pos named, if_pos named, List.inj_on_of_nodup_map single ymem mem (named.trans label.symm), changed]
  · rw [if_neg named, if_neg named]

/-- Settles O29: the three tests of R95 in their order, then what each request makes of the record it names. -/
theorem conditionalRequestsAreTaken : Obligations.ConditionalRequestsAreTaken := by
  constructor
  · intro s src label revision added h normal valid range refused cancel extend shelved
    refine ⟨fun absent => ?_, fun r found => ⟨fun stale => ?_, fun fresh => ⟨fun other => ?_, fun other => ?_, fun other => ?_⟩⟩⟩
    · exact ⟨exec_cancel_answered h valid range (Part.conditional_absent _ _ normal absent),
        exec_extendLoan_answered h valid range (Part.conditional_absent _ _ normal absent),
        exec_shelved_answered h valid range (Part.conditional_absent _ _ normal absent)⟩
    · exact ⟨exec_cancel_answered h valid range (Part.conditional_stale _ _ normal found stale),
        exec_extendLoan_answered h valid range (Part.conditional_stale _ _ normal found stale),
        exec_shelved_answered h valid range (Part.conditional_stale _ _ normal found stale)⟩
    · exact exec_cancel_answered h valid range (Part.conditional_refused _ _ normal found fresh other)
    · exact exec_extendLoan_answered h valid range (Part.conditional_refused _ _ normal found fresh other)
    · exact exec_shelved_answered h valid range (Part.conditional_refused _ _ normal found fresh other)
  · intro s src label revision added h normal valid single r found fresh removed minutes
    have range : revision.toNat ≤ 255 := fresh ▸ Nat.le_of_lt_succ r.revision.isLt
    have takes {st : RecordState} (is : r.state = st) (a : Asker) (act : CustodyRecord → Part) :
        s.toPart.conditional a label revision.toNat st act = act r :=
      fresh ▸ is ▸ Part.conditional_taken a act normal found
    refine ⟨fun reserved => ?_, fun ready => ?_, fun loaned due dueAt => ?_⟩
    · exact exec_cancel_answered h valid range (takes reserved _ _)
    · exact exec_shelved_answered h valid range (takes ready _ _)
    · intro newDue x
      have changed : r.extended minutes s.toPart.minute = x := by
        simp only [CustodyRecord.extended, dueAt]
        rfl
      refine exec_extendLoan_answered h valid range ((takes loaned _ _).trans ?_)
      dsimp only
      rw [CustodyTable.change_single single found changed, show r.extended (clampMinutes added.toNat) s.toPart.minute = x from changed]
      rfl

/-! ## O30: QUERY, LIST and EXCEPTION_LIST (R100, R101, R150) -/

/-- Settles O30: each answers what stands, from a console, and EXCEPTION_LIST a service tool too. -/
theorem readingRequestsChangeNothing : Obligations.ReadingRequestsChangeNothing := by
  intro s src label start role h
  refine ⟨fun valid => ⟨fun absent => ?_, fun r found => ?_⟩, fun inTable => ?_, fun from_ => ?_⟩
  · have unknown : s.toPart.custody.find label = none := CustodyTable.find_eq_none.2 (by simpa [recordLabels] using absent)
    exact State.custody_answered (x := .query label) h rfl (label_length valid) (labelOffence_none valid 0)
      (by simp only [Part.handToOwner, Part.takeQuery, unknown]; rfl)
  · have known : s.toPart.custody.find label = some r := found
    exact State.custody_answered (x := .query label) h rfl (label_length valid) (labelOffence_none valid 0)
      (by simp only [Part.handToOwner, Part.takeQuery, known]; rfl)
  · exact State.custody_answered (x := .list start) h rfl rfl (by simp [Request.offence, offenceUnless, inTable]) rfl
  · have taken : RequestKind.exceptionList.takenFrom role = true := by
      rcases from_ with rfl | rfl <;> rfl
    exact State.custody_answered (x := .exceptionList) h taken rfl rfl rfl

end Sys2Proof.Machine
end

section
/-! PROOF. O4: what the bus port makes of a request before its owner, of a request command and of a request frame (R113,
R142, R157 to R160, R167). -/

namespace Sys2Proof.Machine

/-! ## Request commands and request frames -/

/-- A command that carries a request is that request at the bus port. -/
theorem exec_requestOf {c : Instr} {q : Station × Role × Request} (carries : requestOf c = some q) (s : State) :
    exec c s = s.request q.1 q.2.1 q.2.2 := by
  cases c <;> cases carries <;> rfl

/-- Table 9-2 gives each request one class and one kind value. -/
theorem kindMeaning_request {cls : FrameClass} {kind : Byte} {k : RequestKind} (request : kindMeaning cls kind = .request k) :
    k.cls = cls ∧ k.code = kind := by
  unfold kindMeaning at request
  split at request <;> cases request
  all_goals exact ⟨rfl, .symm <| BitVec.eq_of_toNat_eq <| by assumption⟩

/-- A payload read as a kind spells a request of that kind. -/
theorem kind_of_parseRequest {k : RequestKind} {payload : List Byte} {r : Request} (spelled : parseRequest k payload = some r) :
    r.kind = k := by
  cases k
  all_goals
    obtain ⟨_, made⟩ := Option.ite_none_right_eq_some.1 spelled
    cases made
    rfl

/-! ## The tests before the owner (R158) -/

section
variable {p : Part} {role : Role} {r : Request} (a : Asker)

theorem Part.answer_badRole (unlisted : r.kind.takenFrom role = false) :
    p.answer a role r = p.reply a .badRole (.role role) := by
  simp [Part.answer, unlisted]

variable (listed : r.kind.takenFrom role = true)
include listed

theorem Part.answer_misfit (misfit : r.fits = false) : p.answer a role r = p.refuseLength a := by
  simp [Part.answer, listed, misfit]

theorem Part.answer_outOfRange (fits : r.fits = true) {n : Nat} (out : r.offence = some n) :
    p.answer a role r = p.reply a .outOfRange (.bytePosition (BitVec.ofNat 8 n)) := by
  simp [Part.answer, listed, fits, out]

end

/-! ## The one reply to a request (R159) -/

section
variable {s u : State} {src : Station} {role : Role} {r : Request} {k : RequestKind} {status : Status} {data : ReplyData}
  (startUp : u.startUp = s.startUp) (pending : u.pending = s.pending)
include startUp pending

/-- An event that ends in one reply, after at most one other frame. -/
theorem State.ready.become_replied {f : Part → Part} (h : s.ready) (bus : s.bus.holdsReply 6 → u.bus.holdsReply 7)
    (made : f s.toPart = u.toPart.reply ⟨src, k.cls, k.code⟩ status data) :
    s.become (s.toPart.event f) = .next (u.answered src k status data) := by
  rw [Part.reply_eq] at made
  rw [h.become_event (made ▸ startUp) fun holds => made ▸ (bus holds).handed (by decide) _, made, ← pending]
  rfl

/-- A request that the bus port answers, on a part with another count of free values or none other. -/
theorem State.request_replied (h : s.takesFrom src) (bus : u.bus = s.bus)
    (made : s.toPart.answer (requester src r) role r = u.toPart.reply (requester src r) status data) :
    s.request src role r = .next (u.answered src r.kind status data) :=
  State.ready.become_replied (f := fun p => p.takeRequest src role r) startUp pending h.1
    (fun holds => bus ▸ holds.mono (by decide)) ((Part.takeRequest_eq h role r).trans made)

end

/-- In DEFAULTED operation the owners of these nine requests refuse them before any other test (R113, R142). -/
theorem Part.handToOwner_defaulted {p : Part} (defaulted : p.startUp.defaulted = true) (a : Asker) {r : Request}
    (refused : r.kind ∈ [.checkout, .cancel, .extendLoan, .shelved, .openInner, .present, .attest, .accept, .withdraw]) :
    p.handToOwner a r = p.reply a .defaulted .nothing := by
  cases r with
  | checkout | cancel | extendLoan | shelved | openInner | present | attest | accept | withdraw => exact if_pos defaulted
  | _ => simp [Request.kind] at refused

/-- A request that R157 discards, or that comes to a listen-only part, is not taken. -/
theorem Part.takeRequest_discarded {p : Part} {src : Station}
    (discarded : validStation src = false ∨ p.bus.station = some src ∨ p.bus.station = none) (role : Role) (r : Request) :
    p.takeRequest src role r = p := by
  refine if_neg fun taken => ?_
  simp only [Bool.and_eq_true, bne_iff_ne] at taken
  obtain ⟨⟨numbered, valid⟩, other⟩ := taken
  rcases discarded with invalid | own | listenOnly
  · rw [invalid] at valid
    cases valid
  · exact other own
  · rw [listenOnly] at numbered
    cases numbered

/-- An event that changes nothing, at a part whose pending restart still waits for its reply or that has none pending. -/
theorem State.become_event_self {s : State} (sound : s.toPart.RestartSound) {f : Part → Part} (same : f s.toPart = s.toPart) :
    s.become (s.toPart.event f) = .next s := by
  have kept : s.toPart.event f = s.toPart := by
    unfold Part.event
    rw [same, Part.settle_eq_self sound, ite_self]
  rw [kept, State.become_self]

/-- Two machines with one start-up unit and one queue of commands become the same by events that end alike. -/
theorem State.become_event_congr {s u : State} {f g : Part → Part} (startUp : u.startUp = s.startUp)
    (pending : u.pending = s.pending) (running : s.toPart.running = true) (alike : f s.toPart = g u.toPart) :
    s.become (s.toPart.event f) = u.become (u.toPart.event g) := by
  have runs : u.toPart.running = true := by rw [← running, Part.running_eq, Part.running_eq, startUp]
  have starts : u.toPart.starting = s.toPart.starting := by rw [Part.starting_eq, Part.starting_eq, startUp]
  simp only [Part.event, running, runs, ite_true, alike, State.become, starts, pending]

@[simp] theorem BusPort.evaluated_station (b : BusPort) (p q : Part) : (b.evaluated p q).station = b.station := by
  simp only [BusPort.evaluated, apply_ite BusPort.station, BusPort.handed_station, ite_self]

/-! ## A request frame -/

theorem frameValid_source {f : RxFrame} {own : Option Station} (valid : frameValid f own = true) :
    validStation f.source = true ∧ own ≠ some f.source := by
  simp only [frameValid, Bool.and_eq_true, bne_iff_ne] at valid
  obtain ⟨⟨⟨_, zero⟩, broadcast⟩, foreign⟩ := valid
  exact ⟨by simp [validStation, zero, broadcast], foreign.symm⟩

section
variable {f : RxFrame} {k : RequestKind} {p : Part} (request : kindMeaning f.cls f.kind = .request k)
include request

/-- The asker of a request frame is that of the request it spells. -/
theorem RxFrame.asker_eq : (⟨f.source, f.cls, f.kind⟩ : Asker) = ⟨f.source, k.cls, k.code⟩ := by
  obtain ⟨cls, code⟩ := kindMeaning_request request
  rw [cls, code]

theorem Part.hearRequest_calm : p.frameConfirms f = false :=
  Part.frameConfirms_of_empty (by rw [contentOf_request request]; rfl)

/-- A request frame brings one evaluation at most, which leaves the station number. -/
theorem Part.hearRequest_station : (p.hearFrame f).bus.station = p.bus.station := by
  rw [Part.hearFrame_eq, Part.told_calm (Part.hearRequest_calm request)]
  split
  · rw [Part.evaluate_bus, BusPort.evaluated_station]
    rfl
  · rfl

/-- A request frame addressed to the part: the peer view hears it, then it is dispatched. -/
theorem Part.receiveFrame_request (valid : frameValid f p.bus.station = true) (addressed : p.bus.station = some f.dest) :
    p.receiveFrame f = (p.hearFrame f).dispatch f := by
  rw [Part.receiveFrame_valid valid, contentOf_request request]
  simp only [addressed, true_or, ite_true]
  rfl

theorem Part.dispatch_badRole (unlisted : k.takenFrom f.role = false) :
    p.dispatch f = p.reply ⟨f.source, k.cls, k.code⟩ .badRole (.role f.role) := by
  simp [Part.dispatch, request, unlisted, RxFrame.asker_eq request]

theorem Part.dispatch_misfit (listed : k.takenFrom f.role = true) (misfit : parseRequest k f.payload = none) :
    p.dispatch f = p.refuseLength ⟨f.source, k.cls, k.code⟩ := by
  simp [Part.dispatch, request, listed, misfit, RxFrame.asker_eq request]

/-- A frame that spells a request passes the tests of the request it spells. -/
theorem Part.dispatch_spelled {r : Request} (spelled : parseRequest k f.payload = some r) :
    p.dispatch f = p.answer (requester f.source r) f.role r := by
  obtain rfl := kind_of_parseRequest spelled
  simp only [Part.dispatch, request, RxFrame.asker_eq request, spelled]
  cases listed : r.kind.takenFrom f.role <;> simp [Part.answer, listed, requester]

end

/-- Settles O4: the tests of `Part.answer` in their order; a request frame is heard and then is the request it spells
(`Part.dispatch_spelled`). -/
theorem requestsPassTheBusPort : Obligations.RequestsPassTheBusPort := by
  refine ⟨fun c s q carries => ?_, fun c s sound q carries discarded => ?_, fun f s ready valid addressed own k request => ?_⟩
  · intro src role r h
    rw [exec_requestOf carries]
    refine ⟨fun unlisted => ?_, fun listed misfit => ?_, fun listed fits n out => ?_, fun listed fits inRange defaulted refused => ?_⟩
    · exact State.request_replied rfl rfl h rfl (Part.answer_badRole _ unlisted)
    · exact State.request_replied (u := { s with freeDraws := s.freeDraws + 1 }) rfl rfl h rfl
        (Part.answer_misfit _ listed misfit)
    · exact State.request_replied rfl rfl h rfl (Part.answer_outOfRange _ listed fits out)
    · exact State.request_replied rfl rfl h rfl
        ((Part.answer_eq _ listed fits inRange).trans (Part.handToOwner_defaulted defaulted _ refused))
  · rw [exec_requestOf carries]
    exact State.become_event_self sound (Part.takeRequest_discarded discarded _ _)
  · intro heard
    have received : s.toPart.receiveFrame f = heard.toPart.dispatch f := Part.receiveFrame_request request valid addressed
    have startUp : heard.startUp = s.startUp := (Part.hearFrame_frame s.toPart f).2.2.2.2.2.2.2.1
    have holds (h : s.bus.holdsReply 6) : heard.bus.holdsReply 7 :=
      Part.hearFrame_holds (Part.hearRequest_calm request) h
    refine ⟨fun r spelled c carries => ?_, fun unlisted => ?_, fun listed misfit => ?_⟩
    · have source := frameValid_source valid
      have station : heard.bus.station = s.bus.station := Part.hearRequest_station request
      have taken : heard.toPart.takeRequest f.source f.role r = heard.toPart.answer (requester f.source r) f.role r := by
        simp [Part.takeRequest, station, addressed, source.1, addressed ▸ source.2]
      rw [exec_frameReceived, exec_requestOf carries]
      exact State.become_event_congr (f := fun p => p.receiveFrame f) (g := fun p => p.takeRequest f.source f.role r)
        startUp rfl ready.1 ((received.trans (Part.dispatch_spelled request spelled)).trans taken.symm)
    · exact ready.become_replied (f := fun p => p.receiveFrame f) startUp rfl holds
        (received.trans (Part.dispatch_badRole request unlisted))
    · exact ready.become_replied (f := fun p => p.receiveFrame f) (u := { heard with freeDraws := heard.freeDraws + 1 })
        startUp rfl holds (received.trans (Part.dispatch_misfit request listed misfit))

end Sys2Proof.Machine
end

section
/-! PROOF. O43: how the tally in flight completes (R117, R118), which records a tally finds gone, and the staging tally (R94,
R105, R120). -/

namespace Sys2Proof.Machine

variable {p : Part}

/-! ## The marked reply through a tally (R122, R182) -/

theorem Part.handNotices_shows (h : p.bus.showsReply) (xs : List Station) (n : NoticeType) (d : Option Direction)
    (b : Option Nat) (c : Option Cause) : (p.handNotices xs n d b c).bus.showsReply := by
  rw [Part.handNotices_eq]
  exact h.notified _ _ _ _ _ _

theorem Part.ite_shows {q : Part} {c : Prop} [Decidable c] (yes : p.bus.showsReply) (no : q.bus.showsReply) :
    (if c then p else q).bus.showsReply := by
  split
  · exact yes
  · exact no

theorem Part.unlockWithNotice_shows (h : p.bus.showsReply) (l : Leaf) (n : NoticeType) (xs : List Station) :
    (p.unlockWithNotice l n xs).bus.showsReply :=
  Part.ite_shows (Part.handNotices_shows (by simpa using h) _ _ _ _ _) h

/-- A tally hands notices, and those of an abandonment follow one evaluation. -/
theorem Part.applyTally_shows (h : p.bus.coversReply) (o : TallyOutcome) (t : TagReport) :
    (p.applyTally o t).bus.showsReply := by
  have shows_ : p.bus.showsReply := h.showsReply
  cases o with
  | staging => simpa [Part.applyTally] using shows_
  | departure =>
    refine Part.ite_shows (Part.handNotices_shows ?_ _ _ _ _ _) ?_
    · exact Part.ite_shows shows_ shows_
    · exact Part.ite_shows shows_ shows_
  | comparison =>
    refine Part.ite_shows shows_ (Part.unlockWithNotice_shows (Part.handNotices_shows ?_ _ _ _ _ _) _ _ _)
    exact (Part.abandonCore_covers h).showsReply
  | retrieve => exact Part.ite_shows shows_ (Part.unlockWithNotice_shows (p := p.setHatchState .retrieve) shows_ _ _ _)
  | release =>
    let left := (p.withCustody (p.custody.releaseGone t p.hatch.batch (dwellOf p.settings p.hatch.excess p.hatch.dose)
      p.minute)).releaseExceptions t p.custody.records
    have raised : left.bus.showsReply := by simpa [left] using shows_
    have done : Part.bus (if tallyShowsEmpty t then (left.withHatch p.hatch.released).setHatchState .empty
        else (left.withHatch p.hatch.released).stagingTally t) |>.showsReply :=
      Part.ite_shows raised (by simpa using raised)
    exact Part.ite_shows (Part.ite_shows (Part.unlockWithNotice_shows (p := left.setHatchState .innerRelease) raised _ _ _) raised)
      (Part.ite_shows (Part.handNotices_shows done _ _ _ _ _) done)
  | heldBatch => exact shows_

/-! ## A tally completes (R117, R118) -/

/-- The part to which the outcome of a tally is applied: the report is stored, and no tally is in flight. -/
def Part.tallied (p : Part) (t : TagReport) : Part := p.withHatch { p.hatch with tallyList := some t, tallyEnd := none }

/-- The part once its tally has completed: no tally leaf, and no start tally to come (log 29, R141). -/
def Part.tallyDone (p : Part) : Part := p.withHatch { p.hatch with tallyLeaf := none, startTally := .no }

/-- A list without repeats of at most eight labels is the report as the reader gives it (R117). -/
theorem normalTally_labels {ls : List Label} (once : ls.Nodup) (few : ls.length ≤ 8) :
    normalTally (.labels ls) = .labels ls := by
  simp [normalTally, once.dedup, few]

/-- A tally whose time has come, with the outcome the context gives it. -/
theorem exec_tallyEnd {s : State} (ready : s.ready) {e : Time} (inFlight : s.hatch.tallyEnd = some e)
    (ended : e ≤ s.clock.localTime) {report : TagReport} (asRead : normalTally report = report) {o : TallyOutcome}
    (outcome : s.hatch.outcome = o) : exec (.tallyEnd report) s
      = .next { s with toPart := (((s.toPart.tallied report).applyTally o report).tallyDone) } := by
  have due : s.toPart.tallyDue = true := expired_iff.2 ⟨e, inFlight, ended⟩
  have made : s.toPart.tallyCompletes report = ((s.toPart.tallied report).applyTally o report).tallyDone := by
    refine (if_pos due).trans ?_
    rw [asRead, outcome]
    rfl
  have shows_ (holds : s.bus.holdsReply 6) : (s.toPart.tallyCompletes report).bus.showsReply := by
    rw [made]
    exact Part.applyTally_shows (p := s.toPart.tallied report) (.inl (holds.mono (by decide))) o report
  rw [← made]
  exact ready.become_timed_of_shows due (by simp) shows_

/-! ## Records that a tally finds gone (R105, R106, R108, R136) -/

theorem tallyFindsGone_labels {ls : List Label} {l : Label} : tallyFindsGone (.labels ls) l = true ↔ l ∉ ls := by
  simp [tallyFindsGone]

theorem tallyLists_labels {ls : List Label} {l : Label} : tallyLists (.labels ls) l = true ↔ l ∈ ls := by
  simp [tallyLists]

theorem tallyShowsEmpty_labels {ls : List Label} : tallyShowsEmpty (.labels ls) = true ↔ ls = [] := by
  simp [tallyShowsEmpty]

/-- A record after a tally by which the records of a batch that it finds gone change by a rule. -/
def CustodyRecord.takenOut (st : RecordState) (batch : Option Nat) (t : TagReport) (out : CustodyRecord → CustodyRecord)
    (r : CustodyRecord) : CustodyRecord := if r.inBatch st batch && tallyFindsGone t r.label then out r else r

/-- The chamber still has a record of the batch, as far as the tally finds. -/
def CustodyTable.stays (c : CustodyTable) (st : RecordState) (batch : Option Nat) (t : TagReport) : Prop :=
  ∃ r ∈ c.records, r.inBatch st batch = true ∧ tallyFindsGone t r.label = false

section
variable {st : RecordState} {batch : Option Nat} {t : TagReport} {out : CustodyRecord → CustodyRecord}

theorem CustodyRecord.takenOut_labels (ls : List Label) (r : CustodyRecord) : r.takenOut st batch (.labels ls) out =
    if (r.state = st ∧ batch ≠ none ∧ r.batch = batch) ∧ r.label ∉ ls then out r else r :=
  if_congr (by rw [Bool.and_eq_true, CustodyRecord.inBatch_iff, tallyFindsGone_labels]) rfl rfl

theorem CustodyRecord.takenOut_overfull (r : CustodyRecord) : r.takenOut st batch .overfull out = r :=
  if_neg (by simp [tallyFindsGone])

theorem CustodyRecord.takenOut_present {r : CustodyRecord} (present : tallyFindsGone t r.label = false) :
    r.takenOut st batch t out = r := if_neg (by simp [present])

/-- Whether records of the batch are left after the tally: those that have not gone. -/
theorem CustodyTable.holdsBatch_takenOut (leaves : ∀ r, (out r).inBatch st batch = false) (c : CustodyTable) :
    (c.mapRecords (CustodyRecord.takenOut st batch t out)).holdsBatch st batch = true ↔ c.stays st batch t := by
  simp only [CustodyTable.holdsBatch, CustodyTable.mapRecords, List.any_map, List.any_eq_true, Function.comp_apply,
    CustodyTable.stays]
  refine exists_congr fun r => and_congr_right fun _ => ?_
  unfold CustodyRecord.takenOut
  cases held : r.inBatch st batch <;> cases gone : tallyFindsGone t r.label <;> simp [held, leaves]

theorem CustodyTable.stays_labels {c : CustodyTable} {ls : List Label} : c.stays st batch (.labels ls)
    ↔ ∃ r ∈ c.records, (r.state = st ∧ batch ≠ none ∧ r.batch = batch) ∧ r.label ∈ ls := by
  simp only [CustodyTable.stays, CustodyRecord.inBatch_iff, ← Bool.not_eq_true, tallyFindsGone_labels, not_not]

theorem CustodyTable.stays_overfull {c : CustodyTable} : c.stays st batch .overfull
    ↔ ∃ r ∈ c.records, (r.state = st ∧ batch ≠ none ∧ r.batch = batch) ∧ True := by
  simp only [CustodyTable.stays, CustodyRecord.inBatch_iff, tallyFindsGone]

theorem CustodyTable.mapRecords_takenOut_overfull (c : CustodyTable) :
    c.mapRecords (CustodyRecord.takenOut st batch .overfull out) = c := by
  rw [CustodyTable.mapRecords, List.map_congr_left fun r _ => CustodyRecord.takenOut_overfull r, List.map_id']

end

theorem CustodyRecord.unstaged_inBatch (r : CustodyRecord) (batch : Option Nat) :
    r.unstaged.inBatch .stagedOut batch = false := rfl

/-- A record that returns to RESERVED in a tally is not staged by it. -/
theorem CustodyRecord.stagedAt_unstagedAt (r : CustodyRecord) (t : TagReport) (batch : Option Nat) (n : Nat) :
    (r.unstagedAt t batch).stagedAt t n
      = if r.state = .reserved ∧ tallyLists t r.label = true then r.staged n else r.unstagedAt t batch := by
  by_cases goes : (r.inBatch .stagedOut batch && tallyFindsGone t r.label) = true
  · have left : r.unstagedAt t batch = r.unstaged := if_pos goes
    rw [Bool.and_eq_true, CustodyRecord.inBatch_iff] at goes
    obtain ⟨⟨staged, _⟩, gone⟩ := goes
    rw [left, if_neg (by simp [staged])]
    exact if_neg (by simp [CustodyRecord.unstaged, tallyLists_of_gone gone, CustodyRecord.revised])
  · rw [show r.unstagedAt t batch = r from if_neg goes]
    exact if_congr (by simp) rfl rfl

/-! ## O43: the staging tally (R105, R120) -/

section
variable {t : TagReport}

theorem Part.stagingTally_only (p : Part) (t : TagReport) :
    p.stagingTally t = { p with
      hatch := { (p.stagingTally t).hatch with tallyEnd := p.hatch.tallyEnd, tallyList := p.hatch.tallyList }
      custody := (p.stagingTally t).custody } := by
  unfold Part.stagingTally
  dsimp only
  split
  · rfl
  · split
    · rfl
    · split <;> rfl

theorem Part.stagingTally_empty (empty : tallyShowsEmpty t = true) : p.stagingTally t =
    ((p.withCustody (p.custody.unstageGone t p.hatch.batch)).withHatch p.hatch.withoutBatch).setHatchState .empty :=
  if_pos empty

/-- The batch counter moves where no batch is held (R94). -/
theorem counterAfter_eq (batch : Option Nat) {counter next : Nat} :
    (if batch.isSome then counter else batch.getD next) = if batch = none then next else counter := by
  cases batch <;> rfl

theorem Part.stagingTally_valid (valid : p.custody.validOutbound t p.hatch.batch = true) : p.stagingTally t =
    let number := p.hatch.batch.getD (nextBatch p.custody.batchCounter)
    ((p.withCustody { (p.custody.unstageGone t p.hatch.batch).stagePresent t number with
        batchCounter := if p.hatch.batch.isSome then p.custody.batchCounter else number }).withHatch
      { p.hatch with batch := some number, direction := some .out }).setHatchState .staged := by
  refine (if_neg fun empty => ?_).trans (if_pos valid)
  rw [validOutbound_of_empty _ _ empty] at valid
  cases valid

/-- Labels in the chamber that are no valid outbound tally: the batch is kept while records of it are there. -/
theorem Part.stagingTally_irregular (some_ : tallyShowsEmpty t = false)
    (invalid : p.custody.validOutbound t p.hatch.batch = false) :
    (p.stagingTally t).custody = p.custody.unstageGone t p.hatch.batch
    ∧ (p.stagingTally t).hatch.state = .irregular
    ∧ (p.custody.stays .stagedOut p.hatch.batch t →
        (p.stagingTally t).hatch.batch = p.hatch.batch ∧ (p.stagingTally t).hatch.direction = some .out)
    ∧ (¬ p.custody.stays .stagedOut p.hatch.batch t →
        (p.stagingTally t).hatch.batch = none ∧ (p.stagingTally t).hatch.direction = none) := by
  rw [← CustodyTable.holdsBatch_takenOut (out := CustodyRecord.unstaged) fun r => r.unstaged_inBatch _]
  unfold Part.stagingTally
  dsimp only
  rw [if_neg (Bool.not_eq_true _ ▸ some_), if_neg (Bool.not_eq_true _ ▸ invalid)]
  split
  · next kept => exact ⟨rfl, rfl, fun _ => ⟨rfl, rfl⟩, fun gone => absurd kept gone⟩
  · next gone => exact ⟨rfl, rfl, fun kept => absurd kept gone, fun _ => ⟨rfl, rfl⟩⟩

end

theorem CustodyTable.stageable_iff {c : CustodyTable} {batch : Option Nat} {l : Label} : c.stageable batch l = true ↔
    ∃ r, c.find l = some r ∧ (r.state = .reserved ∨ r.state = .stagedOut ∧ batch ≠ none ∧ r.batch = batch) := by
  unfold CustodyTable.stageable
  cases c.find l <;> simp [CustodyRecord.inBatch_iff]

/-- The machine after a tally that concerns no block but the hatch and the table. -/
theorem State.tallyDone_only {s : State} {t : TagReport} {q : Part}
    (only : q = { s.toPart.tallied t with hatch := q.hatch, custody := q.custody }) :
    { s with toPart := q.tallyDone } = { s with hatch := q.tallyDone.hatch, custody := q.custody } := by
  rw [only]
  rfl

theorem State.stagingTally_done (s : State) (t : TagReport) :
    let x : State := { s with toPart := ((s.toPart.tallied t).stagingTally t).tallyDone }
    x = { s with hatch := x.hatch, custody := x.custody }
    ∧ x.hatch.tallyEnd = none ∧ x.hatch.tallyList = some t ∧ x.hatch.startTally = .no := by
  have only := (s.toPart.tallied t).stagingTally_only t
  generalize (s.toPart.tallied t).stagingTally t = q at only
  have fields : q.hatch.tallyEnd = none ∧ q.hatch.tallyList = some t := by
    rw [only]
    exact ⟨rfl, rfl⟩
  exact ⟨State.tallyDone_only (t := t) (by rw [only]), fields.1, fields.2, rfl⟩

/-- Settles O43: the three branches of the staging tally, with OVERFULL in the last. -/
theorem stagingTally : Obligations.StagingTally := by
  intro s ready e inFlight ended outcome h rs inBatch taken irregular
  have irregularAt {t : TagReport} {stays : CustodyRecord → Prop} (some_ : tallyShowsEmpty t = false)
      (invalid : s.custody.validOutbound t h.batch = false)
      (staysIff : s.custody.stays .stagedOut h.batch t ↔ ∃ r ∈ rs, inBatch r ∧ stays r) :
      ((s.toPart.tallied t).stagingTally t).custody = s.custody.unstageGone t h.batch
      ∧ irregular { s with toPart := ((s.toPart.tallied t).stagingTally t).tallyDone } stays := by
    obtain ⟨custody, state, kept, dropped⟩ := Part.stagingTally_irregular (p := s.toPart.tallied t) some_ invalid
    refine ⟨custody, state, fun left => kept (staysIff.2 left), fun gone => dropped fun left => ?_⟩
    obtain ⟨r, mem, both⟩ := staysIff.1 left
    exact gone r mem both
  refine ⟨fun ls once few => ?_, ?_⟩
  · intro back stageable next number
    have backEq : (CustodyRecord.unstagedAt (.labels ls) h.batch) = back := funext (CustodyRecord.takenOut_labels ls)
    have unstaged : s.custody.unstageGone (.labels ls) h.batch = { s.custody with records := rs.map back } :=
      backEq ▸ CustodyTable.unstageGone_eq ..
    have stageableEq (l : Label) : s.custody.stageable h.batch l = stageable l := by
      rw [Bool.eq_iff_iff, CustodyTable.stageable_iff, Option.any_eq_true]
      simp [CustodyTable.find, inBatch, rs]
    have validEq (some_ : ls ≠ []) : s.custody.validOutbound (.labels ls) h.batch = ls.all stageable := by
      simp [CustodyTable.validOutbound, some_, funext stageableEq]
    refine ⟨_, exec_tallyEnd ready inFlight ended (normalTally_labels once few) outcome, s.stagingTally_done _,
      fun empty => ?_, fun some_ valid => ?_, fun some_ invalid => ?_⟩
    · have made := Part.stagingTally_empty (p := s.toPart.tallied (.labels ls)) (tallyShowsEmpty_labels.2 empty)
      simp only [Part.applyTally, made]
      exact ⟨unstaged, rfl, rfl, rfl⟩
    · have made := Part.stagingTally_valid (p := s.toPart.tallied (.labels ls)) ((validEq some_).trans valid)
      simp only [Part.applyTally, made]
      refine ⟨congrArg₂ (fun x n => { s.custody with records := x, batchCounter := n }) ?_ (counterAfter_eq h.batch), rfl, rfl, rfl⟩
      refine List.map_map.trans (List.map_congr_left fun r _ => ?_)
      rw [Function.comp_apply]
      exact (r.stagedAt_unstagedAt ..).trans (if_congr (and_congr_right' tallyLists_labels) rfl (congrFun backEq r))
    · have some' : tallyShowsEmpty (.labels ls) = false := Bool.not_eq_true _ ▸ mt tallyShowsEmpty_labels.1 some_
      exact (irregularAt some' ((validEq some_).trans invalid) CustodyTable.stays_labels).imp_left fun custody => custody.trans unstaged
  · obtain ⟨custody, irregular'⟩ := irregularAt (t := .overfull) rfl rfl CustodyTable.stays_overfull
    exact ⟨_, exec_tallyEnd ready inFlight ended rfl outcome, s.stagingTally_done _,
      custody.trans (CustodyTable.mapRecords_takenOut_overfull _), irregular'⟩

end Sys2Proof.Machine
end

section
/-! PROOF. O44: the departure tally, and the outbound completion it makes (R106, R129). -/

namespace Sys2Proof.Machine

variable {p : Part} {t : TagReport}

theorem CustodyRecord.departed_inBatch (r : CustodyRecord) (courier : Nat) (now : Minute) (batch : Option Nat) :
    (r.departed courier now).inBatch .stagedOut batch = false := rfl

/-- The table after a departure tally. -/
def Part.departs (p : Part) (t : TagReport) : CustodyTable :=
  p.custody.departGone t p.hatch.batch (p.hatch.courier.getD 0) p.minute

/-- Whether the batch stays at a departure tally: some record of it has not gone. -/
theorem Part.departs_holdsBatch : (p.departs t).holdsBatch .stagedOut p.hatch.batch = true
    ↔ p.custody.stays .stagedOut p.hatch.batch t :=
  CustodyTable.holdsBatch_takenOut (fun r => r.departed_inBatch _ _ _) p.custody

/-- The hatch context after a departure tally, before the completion of a handover. -/
def Part.departedHatch (p : Part) (t : TagReport) : HatchContext :=
  if (p.departs t).holdsBatch .stagedOut p.hatch.batch then
    (p.setHatchState (if (p.departs t).allStaged t p.hatch.batch then .staged else .irregular)).hatch
  else ((p.withHatch p.hatch.withoutBatch).setHatchState (if tallyShowsEmpty t then .empty else .irregular)).hatch

/-- The handover that an outbound completion closes (R129). -/
def HatchContext.completed (h : HatchContext) : HatchContext :=
  { h with
    handoverOpen := false, stage := .none, lastStep := none, courier := none, courierPost := none, console := none
    declared := none }

theorem Part.departureTally_eq (p : Part) (t : TagReport) : p.departureTally t =
    if p.hatch.handoverOpen && p.hatch.stage == .accepted then
      ((p.withCustody (p.departs t)).withHatch (p.departedHatch t).completed).handNotices p.hatch.participants .complete
        p.hatch.direction p.hatch.batch none
    else (p.withCustody (p.departs t)).withHatch (p.departedHatch t) := by
  have settled : (if (p.departs t).holdsBatch .stagedOut p.hatch.batch then
        (p.withCustody (p.departs t)).setHatchState (if (p.departs t).allStaged t p.hatch.batch then .staged else .irregular)
      else ((p.withCustody (p.departs t)).withHatch p.hatch.withoutBatch).setHatchState
        (if tallyShowsEmpty t then .empty else .irregular))
      = (p.withCustody (p.departs t)).withHatch (p.departedHatch t) := by
    unfold Part.departedHatch
    split <;> rfl
  unfold Part.departureTally
  dsimp only
  rw [show p.custody.departGone t p.hatch.batch (p.hatch.courier.getD 0) p.minute = p.departs t from rfl, settled]
  rfl

/-- What the context becomes: the batch stays, or it is done. -/
theorem Part.departedHatch_cases (p : Part) (t : TagReport) :
    (p.custody.stays .stagedOut p.hatch.batch t →
      (p.departedHatch t).batch = p.hatch.batch ∧ (p.departedHatch t).direction = p.hatch.direction
      ∧ (p.departedHatch t).state = if (p.departs t).allStaged t p.hatch.batch then .staged else .irregular)
    ∧ (¬ p.custody.stays .stagedOut p.hatch.batch t →
      (p.departedHatch t).batch = none ∧ (p.departedHatch t).direction = none
      ∧ (p.departedHatch t).state = if tallyShowsEmpty t then .empty else .irregular)
    ∧ (p.departedHatch t).handoverOpen = p.hatch.handoverOpen ∧ (p.departedHatch t).stage = p.hatch.stage := by
  rw [← Part.departs_holdsBatch]
  unfold Part.departedHatch
  split
  · next left => exact ⟨fun _ => ⟨rfl, rfl, rfl⟩, fun gone => absurd left gone, rfl, rfl⟩
  · next gone => exact ⟨fun left => absurd left gone, fun _ => ⟨rfl, rfl, rfl⟩, rfl, rfl⟩

theorem Part.departureTally_only (p : Part) (t : TagReport) : p.departureTally t = { p with
    hatch := (p.departureTally t).hatch, custody := p.departs t, bus := (p.departureTally t).bus } := by
  rw [Part.departureTally_eq]
  split
  · rw [Part.handNotices_eq]
    rfl
  · rfl

/-- Without a handover in stage ACCEPTED no notice goes out. -/
theorem Part.departureTally_kept (kept : ¬ (p.hatch.handoverOpen = true ∧ p.hatch.stage = .accepted)) :
    (p.departureTally t).hatch = p.departedHatch t ∧ (p.departureTally t).bus = p.bus := by
  rw [Part.departureTally_eq, if_neg (by simpa using kept)]
  exact ⟨rfl, rfl⟩

theorem Part.departureTally_completes (accepted : p.hatch.handoverOpen = true ∧ p.hatch.stage = .accepted) :
    (p.departureTally t).hatch = (p.departedHatch t).completed
    ∧ (p.departureTally t).bus = p.bus.notified p.hatch.participants .complete (p.hatch.direction.getD .out)
        (p.hatch.batch.getD 0) (p.departedHatch t).state none := by
  rw [Part.departureTally_eq, if_pos (by simpa using accepted), Part.handNotices_eq]
  exact ⟨rfl, rfl⟩

/-- A completion leaves batch, direction and state as the departure does. -/
theorem Part.departureTally_batch (p : Part) (t : TagReport) :
    (p.departureTally t).hatch.batch = (p.departedHatch t).batch
    ∧ (p.departureTally t).hatch.direction = (p.departedHatch t).direction
    ∧ (p.departureTally t).hatch.state = (p.departedHatch t).state := by
  by_cases accepted : p.hatch.handoverOpen = true ∧ p.hatch.stage = .accepted
  · rw [(Part.departureTally_completes accepted).1]
    exact ⟨rfl, rfl, rfl⟩
  · rw [(Part.departureTally_kept accepted).1]
    exact ⟨rfl, rfl, rfl⟩

/-! ## Labels through a departure -/

theorem CustodyRecord.takenOut_label {st : RecordState} {batch : Option Nat} {out : CustodyRecord → CustodyRecord}
    (label : ∀ r, (out r).label = r.label) (r : CustodyRecord) : (r.takenOut st batch t out).label = r.label := by
  unfold CustodyRecord.takenOut
  split
  · exact label r
  · rfl

theorem CustodyTable.find_mapRecords (c : CustodyTable) {f : CustodyRecord → CustodyRecord} (label : ∀ r, (f r).label = r.label)
    (l : Label) : (c.mapRecords f).find l = (c.find l).map f := by
  simp [CustodyTable.find, CustodyTable.mapRecords, List.find?_map, label]

/-- A present label is staged after the departures if it was before: its record has not gone. -/
theorem Part.departs_allStaged (p : Part) (ls : List Label) : (p.departs (.labels ls)).allStaged (.labels ls) p.hatch.batch
    = ls.all fun l => (p.custody.find l).any fun r => r.inBatch .stagedOut p.hatch.batch := by
  rw [Bool.eq_iff_iff]
  simp only [CustodyTable.allStaged, List.all_eq_true]
  refine forall₂_congr fun l listed => ?_
  have moved : (p.departs (.labels ls)).find l = (p.custody.find l).map (CustodyRecord.takenOut .stagedOut p.hatch.batch
      (.labels ls) fun r => r.departed (p.hatch.courier.getD 0) p.minute) :=
    CustodyTable.find_mapRecords _ (CustodyRecord.takenOut_label (out := fun r => r.departed _ _) fun _ => rfl) l
  rw [moved]
  cases known : p.custody.find l with
  | none => rfl
  | some r =>
    have present : tallyFindsGone (.labels ls) r.label = false := by
      rw [← Bool.not_eq_true, tallyFindsGone_labels, (CustodyTable.find_eq_some known).2, not_not]
      exact listed
    rw [Option.map_some, CustodyRecord.takenOut_present present]

/-! ## The obligation -/

/-- Settles O44: the context by `Part.departedHatch_cases`, with or without the completion. -/
theorem departureTally : Obligations.DepartureTally := by
  intro s ready e inFlight ended outcome h rs inBatch due completes departs
  have departsAt {t : TagReport} {stays : CustodyRecord → Prop} {done kept : HatchState}
      (staysIff : s.custody.stays .stagedOut h.batch t ↔ ∃ r ∈ rs, inBatch r ∧ stays r)
      (doneEq : (if tallyShowsEmpty t then HatchState.empty else .irregular) = done)
      (keptEq : (if ((s.toPart.tallied t).departs t).allStaged t h.batch then HatchState.staged else .irregular) = kept) :
      departs { s with toPart := ((s.toPart.tallied t).departureTally t).tallyDone } stays done kept := by
    obtain ⟨left, gone, opened, stage⟩ := (s.toPart.tallied t).departedHatch_cases t
    have noneLeft (all : ∀ r ∈ rs, ¬(inBatch r ∧ stays r)) : ¬ s.custody.stays .stagedOut h.batch t := fun some_ => by
      obtain ⟨r, mem, both⟩ := staysIff.1 some_
      exact all r mem both
    have only := (s.toPart.tallied t).departureTally_only t
    obtain ⟨batch, direction, state⟩ := (s.toPart.tallied t).departureTally_batch t
    refine ⟨?_, fun all => ?_, fun some_ => ?_, fun accepted => ?_, fun kept => ?_⟩
    · generalize (s.toPart.tallied t).departureTally t = q at only
      rw [only]
      rfl
    · obtain ⟨batch', direction', state'⟩ := gone (noneLeft all)
      exact ⟨batch.trans batch', direction.trans direction', state.trans (state'.trans doneEq)⟩
    · obtain ⟨batch', direction', state'⟩ := left (staysIff.2 some_)
      exact ⟨batch.trans batch', direction.trans direction', state.trans (state'.trans keptEq)⟩
    · obtain ⟨hatch, bus⟩ := Part.departureTally_completes (p := s.toPart.tallied t) (t := t) accepted
      rw [← state] at bus
      generalize (s.toPart.tallied t).departureTally t = q at hatch bus
      refine ⟨congrArg HatchContext.handoverOpen hatch, congrArg HatchContext.stage hatch, congrArg HatchContext.courier hatch,
        congrArg HatchContext.courierPost hatch, congrArg HatchContext.console hatch, congrArg HatchContext.declared hatch,
        fun b held d towards => bus.trans ?_⟩
      rw [show (s.toPart.tallied t).hatch.batch = some b from held,
        show (s.toPart.tallied t).hatch.direction = some d from towards]
      rfl
    · obtain ⟨hatch, bus⟩ := Part.departureTally_kept (p := s.toPart.tallied t) (t := t) kept
      exact ⟨bus, (congrArg HatchContext.handoverOpen hatch).trans opened, (congrArg HatchContext.stage hatch).trans stage⟩
  have custodyOf (t : TagReport) : ((s.toPart.tallied t).departureTally t).custody = (s.toPart.tallied t).departs t :=
    congrArg Part.custody ((s.toPart.tallied t).departureTally_only t)
  refine ⟨fun ls once few => ?_, ?_⟩
  · intro leaves
    refine ⟨_, exec_tallyEnd ready inFlight ended (normalTally_labels once few) outcome, ?_,
      departsAt CustodyTable.stays_labels (if_congr tallyShowsEmpty_labels rfl rfl) ?_⟩
    · refine (custodyOf _).trans (congrArg (fun x => { s.custody with records := rs.map x }) (funext fun r => ?_))
      exact CustodyRecord.takenOut_labels (st := .stagedOut) (batch := h.batch)
        (out := fun r => r.departed (h.courier.getD 0) s.toPart.minute) ls r
    · have same : (fun r : CustodyRecord => r.inBatch .stagedOut h.batch) = fun r => decide (inBatch r) :=
        funext fun r => by rw [Bool.eq_iff_iff, CustodyRecord.inBatch_iff, decide_eq_true_iff]
      refine if_congr (Bool.eq_iff_iff.1 ((Part.departs_allStaged _ ls).trans ?_)) rfl rfl
      exact congrArg ls.all (funext fun l => congrArg (fun f => (s.custody.find l).any f) same)
  · refine ⟨_, exec_tallyEnd ready inFlight ended rfl outcome, ?_, departsAt CustodyTable.stays_overfull rfl rfl⟩
    exact (custodyOf _).trans (CustodyTable.mapRecords_takenOut_overfull _)

end Sys2Proof.Machine
end

section
/-! PROOF. O45: the comparison tally, which receives the batch or closes the handover as a mismatch (R107, R131, R132). -/

namespace Sys2Proof.Machine

variable {p : Part} {t : TagReport}

/-! ## What locking and unlocking concern (R114, R125) -/

theorem Part.lockBoth_only (p : Part) : p.lockBoth = { p with
    hatch := { p.hatch with locks := ⟨false, false⟩, windows := ⟨none, none⟩ }, outputs := p.lockBoth.outputs } := by
  have hatch : p.lockBoth.hatch = { p.hatch with locks := ⟨false, false⟩, windows := ⟨none, none⟩ } := by
    simp [Part.lockBoth, Part.clearWindow, Part.setLock_hatch, PerLeaf.set]
  have frame := p.lockBoth_frame
  generalize p.lockBoth = q at hatch frame
  cases q
  simp_all

theorem Part.unlockWithNotice_only (p : Part) (l : Leaf) (n : NoticeType) (xs : List Station) :
    p.unlockWithNotice l n xs = { p with
      hatch := (p.unlockWithNotice l n xs).hatch, outputs := (p.unlockWithNotice l n xs).outputs
      bus := (p.unlockWithNotice l n xs).bus } := by
  have frame := p.unlockWithNotice_frame l n xs
  generalize p.unlockWithNotice l n xs = q at frame
  cases q
  simp_all

/-- A leaf that may be unlocked is, for 30 s, with its output on and a notice to each station (R114, R115, R122). -/
theorem Part.unlockWithNotice_unlocks {l : Leaf} (n : NoticeType) (xs : List Station) (free : p.canUnlock l = true) :
    (p.unlockWithNotice l n xs).hatch.locks = p.hatch.locks.set l true
    ∧ (p.unlockWithNotice l n xs).hatch.windows = p.hatch.windows.set l (some (p.clock.localTime + 30000))
    ∧ ((p.unlockWithNotice l n xs).outputs.get (lockOutput l)).request = .drivenOn
    ∧ (p.unlockWithNotice l n xs).bus
      = p.bus.notified xs n (p.hatch.direction.getD .out) (p.hatch.batch.getD 0) p.hatch.state none := by
  rw [Part.unlockWithNotice_hatch n xs free, Part.unlockWithNotice_outputs n xs free]
  exact ⟨rfl, rfl, by cases l <;> rfl, Part.unlockWithNotice_bus n xs free⟩

/-! ## A mismatch (R125, R132) -/

/-- The part once a declared batch is found not to match, before the notices: the handover is abandoned in stage PRESENTED
and the hatch is in RETRIEVE. -/
def Part.mismatched (p : Part) : Part :=
  { p with
    hatch := { p.hatch with
      locks := ⟨false, false⟩, windows := ⟨none, none⟩, stepTimeout := none, handoverOpen := false, lastStep := none
      stage := .none, state := .retrieve, backupState := .retrieve }
    custody := { p.custody with held := 0 }
    outputs := p.lockBoth.outputs }

theorem Part.abandonStage_presented (direction : p.hatch.direction = some .inward) (stage : p.hatch.stage = .presented) :
    p.abandonStage = (p.withHatch { p.hatch with stage := .none }).withCustody (p.custody.withHeld 0) := by
  simp [Part.abandonStage, direction, stage]

section
variable (direction : p.hatch.direction = some .inward) (stage : p.hatch.stage = .presented) (state : p.hatch.state = .tallying)
include direction stage state

theorem Part.abandonCore_mismatched : p.abandonCore.setHatchState .retrieve = p.mismatched := by
  have stays (q : Part) : q.abandonHatchState p.hatch = q := by simp [Part.abandonHatchState, state]
  unfold Part.abandonCore
  rw [stays, Part.lockBoth_only]
  rw [Part.abandonStage_presented (by exact direction) (by exact stage)]
  simp only [Part.mismatched, Part.setHatchState, Part.withHatch, Part.withCustody, CustodyTable.withHeld]
  rfl

/-- The part after a mismatch, with its ABANDONED notices, before the outer leaf is unlocked. -/
def Part.mismatchTold (p : Part) : Part :=
  p.mismatched.withBus (p.bus.notified p.hatch.participants .abandoned .inward (p.hatch.batch.getD 0) .retrieve
    (some .mismatch))

variable (fails : p.custody.matchesDeclared t p.hatch.declared = false)
include fails

theorem Part.comparisonTally_mismatch :
    p.comparisonTally t = p.mismatchTold.unlockWithNotice .outer .outerUnlocked p.hatch.courierPost.toList := by
  have told : p.abandonWith .mismatch (fun q => q.setHatchState .retrieve) = p.mismatchTold := by
    rw [Part.abandonWith, Part.abandonCore_mismatched direction stage state, Part.handNotices_eq, direction]
    rfl
  refine (if_neg (Bool.not_eq_true _ ▸ fails)).trans ?_
  rw [told]

/-- What a mismatch leaves, whether the outer leaf is unlocked or the unlock is withheld. -/
theorem Part.comparisonTally_closes : let x := p.comparisonTally t
    x = { p with hatch := x.hatch, custody := { p.custody with held := 0 }, outputs := x.outputs, bus := x.bus }
    ∧ x.hatch.state = .retrieve ∧ x.hatch.stage = .none ∧ x.hatch.handoverOpen = false ∧ x.hatch.batch = p.hatch.batch
    ∧ x.hatch.direction = p.hatch.direction ∧ x.hatch.courier = p.hatch.courier
    ∧ x.hatch.courierPost = p.hatch.courierPost := by
  rw [Part.comparisonTally_mismatch direction stage state fails]
  have only := p.mismatchTold.unlockWithNotice_only .outer .outerUnlocked p.hatch.courierPost.toList
  have context := p.mismatchTold.unlockWithNotice_hatch_only .outer .outerUnlocked p.hatch.courierPost.toList
  generalize p.mismatchTold.unlockWithNotice .outer .outerUnlocked p.hatch.courierPost.toList = q at only context
  dsimp only
  rw [context]
  exact ⟨only.trans (by rw [← context]; rfl), rfl, rfl, rfl, rfl, rfl, rfl, rfl⟩

/-- Where the outer leaf may be unlocked, the courier takes the batch back. -/
theorem Part.comparisonTally_unlocks (unsealed : p.fire.state.sealed = false) (start : p.hatch.startTally = .no) :
    (p.comparisonTally t).hatch.locks = ⟨false, true⟩
    ∧ (p.comparisonTally t).hatch.windows = ⟨none, some (p.clock.localTime + 30000)⟩
    ∧ (p.comparisonTally t).outputs.out1.request = .drivenOn
    ∧ (p.comparisonTally t).bus = (p.bus.notified p.hatch.participants .abandoned .inward (p.hatch.batch.getD 0) .retrieve
        (some .mismatch)).notified p.hatch.courierPost.toList .outerUnlocked (p.hatch.direction.getD .out)
        (p.hatch.batch.getD 0) .retrieve none := by
  rw [Part.comparisonTally_mismatch direction stage state fails]
  exact Part.unlockWithNotice_unlocks (p := p.mismatchTold) (l := .outer) .outerUnlocked _ (by
    simp [Part.canUnlock, Part.mismatchTold, Part.mismatched, otherLeaf, PerLeaf.get, unsealed, start])

end

/-! ## A match (R107, R131) -/

theorem CustodyTable.matchesDeclared_iff {c : CustodyTable} {ls : List Label} {declared : Option Nat} :
    c.matchesDeclared (.labels ls) declared = true
      ↔ declared = some ls.length ∧ ∀ l ∈ ls, ∀ r, c.find l = some r → r.state = .onLoan := by
  simp [CustodyTable.matchesDeclared, Option.all_eq_true]

/-- A batch as declared is received (R107, R131). -/
theorem Part.comparisonTally_match (fits : p.custody.matchesDeclared t p.hatch.declared = true) : p.comparisonTally t =
    { p with
      custody := p.custody.receive (tallyLabels t) p.hatch.batch p.hatch.courier p.minute
      hatch := { p.hatch with
        excess := some (capturedExcess p.hatch.handedStore p.hatch.handedChamber), dose := 0, purgeTime := 0
        toleranceRun := 0, stage := .tallied, stepTimeout := some (p.now + seconds p.settings.stepTimeout)
        state := .received, backupState := .received } } := if_pos fits

/-- Settles O45: the match is what `CustodyTable.receive` makes, the mismatch what `Part.mismatched` and the unlock make. -/
theorem comparisonTally : Obligations.ComparisonTally := by
  intro s ready e inFlight ended outcome start state opened stage direction b batch h rs now known foreign mismatches
  have mismatchesAt {t : TagReport} (fails : s.custody.matchesDeclared t h.declared = false) :
      mismatches { s with toPart := ((s.toPart.tallied t).comparisonTally t).tallyDone } := by
    obtain ⟨only, state', stage', closed, batch', direction', courier, post⟩ :=
      Part.comparisonTally_closes (p := s.toPart.tallied t) direction stage state fails
    refine ⟨?_, congrArg Part.custody only, state', stage', closed, batch'.trans batch, direction'.trans direction, courier, post,
      fun unsealed => ?_⟩
    · generalize (s.toPart.tallied t).comparisonTally t = q at only
      rw [only]
      rfl
    · have unlocks := Part.comparisonTally_unlocks (p := s.toPart.tallied t) direction stage state fails unsealed start
      have number : (s.toPart.tallied t).hatch.batch = some b := batch
      have way : (s.toPart.tallied t).hatch.direction = some .inward := direction
      rw [number, way] at unlocks
      exact unlocks
  refine ⟨fun ls once few => ?_, ?_⟩
  · intro matching
    refine ⟨_, exec_tallyEnd ready inFlight ended (normalTally_labels once few) outcome, fun fits => ?_, fun fails => ?_⟩
    · have made := Part.comparisonTally_match (p := s.toPart.tallied (.labels ls)) (t := .labels ls) (CustodyTable.matchesDeclared_iff.2 fits)
      refine ⟨State.tallyDone_only (t := .labels ls) ?_, ?_, ?_⟩
      · simp only [Part.applyTally, made]
      · refine (congrArg Part.custody made).trans ?_
        have number : (s.toPart.tallied (.labels ls)).hatch.batch = some b := batch
        rw [number]
        refine congrArg (fun x => { s.custody with held := 0, records := x ++ (ls.filter fun l => (known l).isNone).map foreign }) ?_
        exact List.map_congr_left fun r _ => if_congr (by simp [tallyLabels]) rfl rfl
      · refine (congrArg (fun q : Part => q.tallyDone.hatch) made).trans ?_
        have start' : h.startTally = .no := start
        rw [start']
        rfl
    · exact mismatchesAt (Bool.not_eq_true _ ▸ mt CustodyTable.matchesDeclared_iff.1 fails)
  · exact ⟨_, exec_tallyEnd ready inFlight ended rfl outcome, mismatchesAt rfl⟩

end Sys2Proof.Machine
end

section
/-! PROOF. O46: the release tally, with the dwell of the records that leave, its exceptions, and what it leaves of the batch
(R108, R136, R141, R144 to R146). -/

namespace Sys2Proof.Machine

variable {p : Part} {t : TagReport}

/-! ## The exceptions of a release tally (R146, R148) -/

theorem ExceptionStore.raise_dwellCapped {x : ExceptionStore} {capture : Bool} {e : ExceptionEntry} :
    (x.raise capture e).flags.dwellCapped = true ↔ x.flags.dwellCapped = true ∨ e.kind = .dwellCapped := by
  have flag : (x.flags.raise e.kind).dwellCapped = true ↔ x.flags.dwellCapped = true ∨ e.kind = .dwellCapped := by
    cases e.kind <;> simp [ExceptionFlags.raise]
  rw [← flag]
  unfold ExceptionStore.raise
  dsimp only
  split
  · split <;> rfl
  · rfl

theorem ExceptionStore.raise_noChamberReading {x : ExceptionStore} {capture : Bool} {e : ExceptionEntry} :
    (x.raise capture e).flags.noChamberReading = true ↔ x.flags.noChamberReading = true ∨ e.kind = .noChamberReading := by
  have flag : (x.flags.raise e.kind).noChamberReading = true ↔ x.flags.noChamberReading = true ∨ e.kind = .noChamberReading := by
    cases e.kind <;> simp [ExceptionFlags.raise]
  rw [← flag]
  unfold ExceptionStore.raise
  dsimp only
  split
  · split <;> rfl
  · rfl

/-- The records that leave at a release tally of a part. -/
def Part.leaving (p : Part) (t : TagReport) (rs : List CustodyRecord) : List CustodyRecord :=
  rs.filter fun r => r.leaves t p.hatch.batch

/-- The batch the exceptions of a release tally name. -/
def Part.releaseSubject (p : Part) : ExceptionSubject := .batch (p.hatch.batch.getD 0)

/-- Without the excess no sum is computed (R145). -/
theorem dwellCapped_unavailable {x : Option Excess} (unavailable : ∀ n, x ≠ some (.available n)) (cfg : Settings) (dose : Nat)
    (r : CustodyRecord) : dwellCapped cfg x dose r = false := by
  cases x with
  | none => rfl
  | some e =>
    cases e with
    | available n => exact absurd rfl (unavailable n)
    | unavailable => rfl

theorem excess_unavailable_iff {x : Option Excess} : (∀ n, x ≠ some (.available n))
    ↔ (match x with | some (.available _) => false | _ => true) = true := by
  rcases x with _ | _ | n <;> simp

section
variable {rs : List CustodyRecord}

/-- With the excess available, DWELL_CAPPED for a sum past the cap. -/
theorem Part.releaseExceptions_available {x : Nat} (available : p.hatch.excess = some (.available x)) :
    p.releaseExceptions t rs =
      if (p.leaving t rs).any (dwellCapped p.settings p.hatch.excess p.hatch.dose) then p.raise .dwellCapped p.releaseSubject
      else p := by
  unfold Part.releaseExceptions
  dsimp only
  rw [available]
  rfl

/-- With the excess unavailable no sum is computed: NO_CHAMBER_READING where a record leaves. -/
theorem Part.releaseExceptions_unavailable (unavailable : ∀ x, p.hatch.excess ≠ some (.available x)) :
    p.releaseExceptions t rs =
      if (p.leaving t rs).isEmpty then p else p.raise .noChamberReading p.releaseSubject := by
  have none : (rs.filter fun r => r.leaves t p.hatch.batch).any (dwellCapped p.settings p.hatch.excess p.hatch.dose) = false := by
    simp [dwellCapped_unavailable unavailable]
  unfold Part.releaseExceptions
  dsimp only
  rw [none, if_neg Bool.false_ne_true]
  split
  · next x available => exact absurd available (unavailable x)
  · rfl

theorem Part.releaseExceptions_withCustody (p : Part) (c : CustodyTable) : (p.withCustody c).releaseExceptions t rs
    = (p.withCustody c).withExceptions (p.releaseExceptions t rs).exceptions := by
  by_cases available : ∃ x, p.hatch.excess = some (.available x)
  · obtain ⟨x, available⟩ := available
    rw [Part.releaseExceptions_available (p := p.withCustody c) available, Part.releaseExceptions_available available]
    show (if (p.leaving t rs).any (dwellCapped p.settings p.hatch.excess p.hatch.dose)
      then (p.withCustody c).raise .dwellCapped p.releaseSubject else p.withCustody c) = _
    split <;> rfl
  · have unavailable := not_exists.1 available
    rw [Part.releaseExceptions_unavailable (p := p.withCustody c) unavailable, Part.releaseExceptions_unavailable unavailable]
    show (if (p.leaving t rs).isEmpty then p.withCustody c else (p.withCustody c).raise .noChamberReading p.releaseSubject) = _
    split <;> rfl

/-- Where no record leaves nothing is raised (log 49). -/
theorem Part.releaseExceptions_none (none : p.leaving t rs = []) : p.releaseExceptions t rs = p := by
  by_cases available : ∃ x, p.hatch.excess = some (.available x)
  · obtain ⟨x, available⟩ := available
    rw [Part.releaseExceptions_available available, none]
    rfl
  · rw [Part.releaseExceptions_unavailable (not_exists.1 available), none]
    rfl

theorem Part.releaseExceptions_dwellCapped : (p.releaseExceptions t rs).exceptions.flags.dwellCapped = true
    ↔ p.exceptions.flags.dwellCapped = true
      ∨ ∃ r ∈ p.leaving t rs, dwellCapped p.settings p.hatch.excess p.hatch.dose r = true := by
  by_cases available : ∃ x, p.hatch.excess = some (.available x)
  · obtain ⟨x, available⟩ := available
    rw [Part.releaseExceptions_available available, ← List.any_eq_true]
    split
    · next past => simp [ExceptionStore.raise_dwellCapped, past]
    · next past => simp [past]
  · have unavailable := not_exists.1 available
    rw [Part.releaseExceptions_unavailable unavailable]
    split <;> simp [ExceptionStore.raise_dwellCapped, dwellCapped_unavailable unavailable]

theorem Part.releaseExceptions_noChamberReading : (p.releaseExceptions t rs).exceptions.flags.noChamberReading = true
    ↔ p.exceptions.flags.noChamberReading = true
      ∨ p.leaving t rs ≠ [] ∧ ∀ x, p.hatch.excess ≠ some (.available x) := by
  by_cases available : ∃ x, p.hatch.excess = some (.available x)
  · obtain ⟨x, available⟩ := available
    rw [Part.releaseExceptions_available available]
    split <;> simp [ExceptionStore.raise_noChamberReading, available]
  · have unavailable := not_exists.1 available
    rw [Part.releaseExceptions_unavailable unavailable]
    split
    · next none => simp [List.isEmpty_iff.1 none]
    · next some_ =>
      have leave : p.leaving t rs ≠ [] := mt List.isEmpty_iff.2 some_
      simp [ExceptionStore.raise_noChamberReading, leave, unavailable]

end

/-! ## The table and the batch (R108, R136) -/

/-- The table after a release tally. -/
def Part.releases (p : Part) (t : TagReport) : CustodyTable :=
  p.custody.releaseGone t p.hatch.batch (dwellOf p.settings p.hatch.excess p.hatch.dose) p.minute

/-- The part after the records of a release tally, before what it makes of the hatch. -/
def Part.released (p : Part) (t : TagReport) : Part :=
  (p.withCustody (p.releases t)).withExceptions (p.releaseExceptions t p.custody.records).exceptions

theorem Part.releases_holdsBatch :
    (p.releases t).holdsBatch .stagedIn p.hatch.batch = true ↔ p.custody.stays .stagedIn p.hatch.batch t :=
  CustodyTable.holdsBatch_takenOut (out := fun r => r.released _) (fun _ => rfl) p.custody

theorem Part.releaseTally_eq (p : Part) (t : TagReport) : p.releaseTally t =
    if (p.releases t).holdsBatch .stagedIn p.hatch.batch then
      if p.hatch.handoverOpen then
        ((p.released t).setHatchState .innerRelease).unlockWithNotice .inner .innerUnlocked p.hatch.participants
      else (p.released t).setHatchState .received
    else
      let c := (p.released t).withHatch p.hatch.released
      let r := if tallyShowsEmpty t then c.setHatchState .empty else c.stagingTally t
      if p.hatch.handoverOpen then r.handNotices p.hatch.participants .complete p.hatch.direction p.hatch.batch none else r := by
  have raised : (p.withCustody (p.releases t)).releaseExceptions t p.custody.records = p.released t :=
    p.releaseExceptions_withCustody _
  unfold Part.releaseTally
  dsimp only
  rw [show p.custody.releaseGone t p.hatch.batch (dwellOf p.settings p.hatch.excess p.hatch.dose) p.minute = p.releases t from rfl, raised]

/-- The part once the batch of a release tally is done, before the notice of it (R136). -/
def Part.releaseSettled (p : Part) (t : TagReport) : Part :=
  if tallyShowsEmpty t then ((p.released t).withHatch p.hatch.released).setHatchState .empty
  else ((p.released t).withHatch p.hatch.released).stagingTally t

section
variable (left : p.custody.stays .stagedIn p.hatch.batch t)
include left

theorem Part.releaseTally_left_open (opened : p.hatch.handoverOpen = true) : p.releaseTally t =
    ((p.released t).setHatchState .innerRelease).unlockWithNotice .inner .innerUnlocked p.hatch.participants := by
  rw [Part.releaseTally_eq, if_pos (Part.releases_holdsBatch.2 left), if_pos opened]

theorem Part.releaseTally_left_closed (closed : p.hatch.handoverOpen = false) :
    p.releaseTally t = (p.released t).setHatchState .received := by
  rw [Part.releaseTally_eq, if_pos (Part.releases_holdsBatch.2 left), if_neg (Bool.not_eq_true _ ▸ closed)]

end

/-- Without an open handover, as after every start, no leaf is unlocked. -/
theorem Part.releaseTally_received (left : p.custody.stays .stagedIn p.hatch.batch t) (closed : p.hatch.handoverOpen = false) :
    (p.releaseTally t).hatch.state = .received ∧ (p.releaseTally t).bus = p.bus ∧ (p.releaseTally t).outputs = p.outputs
    ∧ (p.releaseTally t).hatch.locks = p.hatch.locks := by
  rw [Part.releaseTally_left_closed left closed]
  exact ⟨rfl, rfl, rfl, rfl⟩

/-- Under an open handover the inner leaf is unlocked again, where R114 and R141 allow it. -/
theorem Part.releaseTally_unlocks (left : p.custody.stays .stagedIn p.hatch.batch t) (opened : p.hatch.handoverOpen = true)
    (start : p.hatch.startTally = .no) (unsealed : p.fire.state.sealed = false) (outer : p.hatch.locks.outer = false) :
    (p.releaseTally t).hatch.state = .innerRelease ∧ (p.releaseTally t).hatch.locks = ⟨true, false⟩
    ∧ (p.releaseTally t).hatch.windows.inner = some (p.clock.localTime + 30000)
    ∧ (p.releaseTally t).outputs.out0.request = .drivenOn
    ∧ (p.releaseTally t).bus = p.bus.notified p.hatch.participants .innerUnlocked (p.hatch.direction.getD .out)
        (p.hatch.batch.getD 0) .innerRelease none := by
  rw [Part.releaseTally_left_open left opened]
  generalize made : (p.released t).setHatchState .innerRelease = q
  have free : q.canUnlock .inner = true := by
    simp [← made, Part.canUnlock, Part.released, Part.setHatchState, otherLeaf, PerLeaf.get, unsealed, outer, start]
  have context := q.unlockWithNotice_hatch_only .inner .innerUnlocked p.hatch.participants
  obtain ⟨locks, windows, request, bus⟩ := Part.unlockWithNotice_unlocks .innerUnlocked p.hatch.participants free
  subst made
  refine ⟨congrArg HatchContext.state context, locks.trans ?_, congrArg PerLeaf.inner windows, request, bus⟩
  exact congrArg (PerLeaf.mk true) outer

/-- The staging tally that follows a release keeps the context cleared but for what it sets itself (R105, R136). -/
theorem Part.releaseSettled_hatch (p : Part) (t : TagReport) : ∃ b d st, (p.releaseSettled t).hatch =
    { p.hatch.released with batch := b, direction := d, state := st, backupState := st } := by
  unfold Part.releaseSettled
  split
  · exact ⟨_, _, _, rfl⟩
  · unfold Part.stagingTally
    dsimp only
    split
    · exact ⟨_, _, _, rfl⟩
    · split
      · exact ⟨_, _, _, rfl⟩
      · split <;> exact ⟨_, _, _, rfl⟩

theorem Part.releaseSettled_only (p : Part) (t : TagReport) : p.releaseSettled t = { p with
    hatch := (p.releaseSettled t).hatch, custody := (p.releaseSettled t).custody, exceptions := (p.released t).exceptions } := by
  unfold Part.releaseSettled
  split
  · rfl
  · rw [Part.stagingTally_only]
    rfl

theorem Part.releaseTally_gone (gone : ¬ p.custody.stays .stagedIn p.hatch.batch t) : p.releaseTally t =
    (p.releaseSettled t).withBus (if p.hatch.handoverOpen then
      p.bus.notified p.hatch.participants .complete (p.hatch.direction.getD .out) (p.hatch.batch.getD 0)
        (p.releaseSettled t).hatch.state none else p.bus) := by
  have bus : (p.releaseSettled t).bus = p.bus := (congrArg Part.bus (p.releaseSettled_only t) :)
  have settled : p.releaseTally t = if p.hatch.handoverOpen then
      (p.releaseSettled t).handNotices p.hatch.participants .complete p.hatch.direction p.hatch.batch none
      else p.releaseSettled t := by
    rw [Part.releaseTally_eq, if_neg (mt Part.releases_holdsBatch.1 gone)]
    rfl
  rw [settled, Part.handNotices_eq, bus]
  split
  · rfl
  · rw [← bus]
    rfl

/-- With none of the batch left the context is cleared, and an open handover hears COMPLETE (R136). -/
theorem Part.releaseTally_clears (gone : ¬ p.custody.stays .stagedIn p.hatch.batch t) :
    let x := p.releaseTally t
    x.hatch.stage = .none ∧ x.hatch.handoverOpen = false ∧ x.hatch.excess = none ∧ x.hatch.dose = 0 ∧ x.hatch.lastStep = none
    ∧ x.hatch.courierPost = none ∧ x.hatch.console = none ∧ x.hatch.courier = none ∧ x.hatch.declared = none
    ∧ x.outputs = p.outputs ∧ x.hatch.locks = p.hatch.locks
    ∧ x.bus = if p.hatch.handoverOpen then p.bus.notified p.hatch.participants .complete (p.hatch.direction.getD .out)
        (p.hatch.batch.getD 0) x.hatch.state none else p.bus := by
  rw [Part.releaseTally_gone gone]
  obtain ⟨b, d, st, hatch⟩ := p.releaseSettled_hatch t
  have outputs : (p.releaseSettled t).outputs = p.outputs := (congrArg Part.outputs (p.releaseSettled_only t) :)
  dsimp only [Part.withBus]
  rw [hatch]
  exact ⟨rfl, rfl, rfl, rfl, rfl, rfl, rfl, rfl, rfl, outputs, rfl, rfl⟩

theorem Part.releaseTally_only (p : Part) (t : TagReport) : p.releaseTally t = { p with
    hatch := (p.releaseTally t).hatch, custody := (p.releaseTally t).custody, exceptions := (p.released t).exceptions
    outputs := (p.releaseTally t).outputs, bus := (p.releaseTally t).bus } := by
  by_cases left : p.custody.stays .stagedIn p.hatch.batch t
  · cases opened : p.hatch.handoverOpen with
    | true =>
      rw [Part.releaseTally_left_open left opened, Part.unlockWithNotice_only]
      rfl
    | false =>
      rw [Part.releaseTally_left_closed left opened]
      rfl
  · rw [Part.releaseTally_gone left, Part.releaseSettled_only]
    rfl

theorem Part.releaseTally_left_custody (left : p.custody.stays .stagedIn p.hatch.batch t) :
    (p.releaseTally t).custody = p.releases t := by
  cases opened : p.hatch.handoverOpen with
  | true =>
    rw [Part.releaseTally_left_open left opened, Part.unlockWithNotice_only]
    rfl
  | false =>
    rw [Part.releaseTally_left_closed left opened]
    rfl

/-- The staging tally reads and writes no exceptions. -/
theorem Part.stagingTally_withExceptions (p : Part) (x : ExceptionStore) (t : TagReport) :
    (p.withExceptions x).stagingTally t = (p.stagingTally t).withExceptions x := by
  unfold Part.stagingTally
  dsimp only
  rw [apply_ite (fun q : Part => q.withExceptions x), apply_ite (fun q : Part => q.withExceptions x),
    apply_ite (fun q : Part => q.withExceptions x)]
  rfl

/-- With none of the batch left and the chamber empty the hatch is EMPTY. -/
theorem Part.releaseTally_empty (gone : ¬ p.custody.stays .stagedIn p.hatch.batch t) (empty : tallyShowsEmpty t = true) :
    (p.releaseTally t).custody = p.releases t ∧ (p.releaseTally t).hatch.state = .empty
    ∧ (p.releaseTally t).hatch.direction = none ∧ (p.releaseTally t).hatch.batch = none := by
  rw [Part.releaseTally_gone gone, show p.releaseSettled t = _ from if_pos empty]
  exact ⟨rfl, rfl, rfl, rfl⟩

/-- The part to which the staging tally after a release applies: records and context, without the exceptions. -/
def Part.releaseCleared (p : Part) (t : TagReport) : Part := (p.withCustody (p.releases t)).withHatch p.hatch.released

/-- With none of the batch left and labels in the chamber the staging tally decides (R136, log 28). -/
theorem Part.releaseTally_staged (gone : ¬ p.custody.stays .stagedIn p.hatch.batch t) (some_ : tallyShowsEmpty t = false) :
    (p.releaseTally t).custody = ((p.releaseCleared t).stagingTally t).custody
    ∧ (p.releaseTally t).hatch = ((p.releaseCleared t).stagingTally t).hatch := by
  have settled : p.releaseSettled t
      = ((p.releaseCleared t).stagingTally t).withExceptions (p.releaseExceptions t p.custody.records).exceptions :=
    (if_neg (Bool.not_eq_true _ ▸ some_)).trans (Part.stagingTally_withExceptions (p.releaseCleared t) _ t)
  rw [Part.releaseTally_gone gone, settled]
  exact ⟨rfl, rfl⟩

/-! ## OVERFULL at the release tally (log 24) -/

theorem Part.releases_overfull (p : Part) : p.releases .overfull = p.custody :=
  CustodyTable.mapRecords_takenOut_overfull _

theorem Part.leaving_overfull (p : Part) (rs : List CustodyRecord) : p.leaving .overfull rs = [] := by
  simp [Part.leaving, CustodyRecord.leaves, tallyFindsGone]

theorem Part.releaseTally_overfull_custody (p : Part) : (p.releaseTally .overfull).custody = p.custody := by
  by_cases left : p.custody.stays .stagedIn p.hatch.batch .overfull
  · rw [Part.releaseTally_left_custody left, p.releases_overfull]
  · rw [(Part.releaseTally_staged left rfl).1, (Part.stagingTally_irregular rfl rfl).1]
    exact (CustodyTable.mapRecords_takenOut_overfull _).trans p.releases_overfull

theorem Part.releaseTally_overfull_gone (gone : ¬ p.custody.stays .stagedIn p.hatch.batch .overfull) :
    (p.releaseTally .overfull).hatch.state = .irregular ∧ (p.releaseTally .overfull).hatch.batch = none
    ∧ (p.releaseTally .overfull).hatch.direction = none := by
  obtain ⟨_, state, _, dropped⟩ := Part.stagingTally_irregular (p := p.releaseCleared .overfull) (t := .overfull) rfl rfl
  have none : ¬ (p.releaseCleared .overfull).custody.stays .stagedOut (p.releaseCleared .overfull).hatch.batch .overfull := by
    rintro ⟨r, _, held, _⟩
    exact (CustodyRecord.inBatch_iff.1 held).2.1 rfl
  rw [(Part.releaseTally_staged gone rfl).2]
  exact ⟨state, dropped none⟩

/-! ## The obligation -/

/-- Settles O46: with the batch left, by an open or a closed handover; with none left, the staging tally of the cleared context. -/
theorem releaseTally : Obligations.ReleaseTally := by
  intro s ready e inFlight ended outcome b batch direction h rs cfg people inBatch hours sum dwell released
  have number (t : TagReport) : (s.toPart.tallied t).hatch.batch = some b := batch
  have way (t : TagReport) : (s.toPart.tallied t).hatch.direction = some .inward := direction
  have inBatchIff (r : CustodyRecord) : r.state = .stagedIn ∧ h.batch ≠ none ∧ r.batch = h.batch ↔ inBatch r := by
    rw [show h.batch = some b from batch]
    simp [inBatch]
  have releasedAt {t : TagReport} {stays : CustodyRecord → Prop}
      (staysIff : s.custody.stays .stagedIn h.batch t ↔ ∃ r ∈ rs, inBatch r ∧ stays r) :
      released { s with toPart := ((s.toPart.tallied t).releaseTally t).tallyDone } stays := by
    have only := (s.toPart.tallied t).releaseTally_only t
    refine ⟨rfl, ?_, fun left closed => ?_, fun left opened start unsealed outer => ?_, fun gone => ?_⟩
    · generalize (s.toPart.tallied t).releaseTally t = q at only
      rw [only]
      rfl
    · exact Part.releaseTally_received (p := s.toPart.tallied t) (staysIff.2 left) closed
    · have unlocked := Part.releaseTally_unlocks (p := s.toPart.tallied t) (staysIff.2 left) opened start unsealed outer
      rw [way, number] at unlocked
      exact unlocked
    · have cleared := Part.releaseTally_clears (p := s.toPart.tallied t) (mt staysIff.1 gone)
      rw [way, number] at cleared
      exact cleared
  refine ⟨fun ls once few => ?_, ?_⟩
  · intro rests leaving left resting
    have leftIff : s.custody.stays .stagedIn h.batch (.labels ls) ↔ left :=
      CustodyTable.stays_labels.trans (exists_congr fun r => and_congr_right' (and_congr_left' (inBatchIff r)))
    have releases : (s.toPart.tallied (.labels ls)).releases (.labels ls) = resting :=
      congrArg (fun f => { s.custody with records := rs.map f }) (funext fun r =>
        (CustodyRecord.takenOut_labels (st := .stagedIn) (batch := h.batch)
          (out := fun r => r.released (minuteAfter s.toPart.minute (dwellOf s.toPart.settings h.excess h.dose r))) ls r).trans
          (if_congr (and_congr_left' (inBatchIff r)) rfl rfl))
    have leavingEq : (s.toPart.tallied (.labels ls)).leaving (.labels ls) rs = leaving :=
      List.filter_congr fun r _ => by
        rw [Bool.eq_iff_iff, decide_eq_true_iff, ← inBatchIff, CustodyRecord.leaves, Bool.and_eq_true,
          CustodyRecord.inBatch_iff, tallyFindsGone_labels]
        rfl
    have exceptions : ((s.toPart.tallied (.labels ls)).releaseTally (.labels ls)).exceptions
        = ((s.toPart.tallied (.labels ls)).releaseExceptions (.labels ls) rs).exceptions :=
      (congrArg Part.exceptions ((s.toPart.tallied (.labels ls)).releaseTally_only _) :)
    refine ⟨_, exec_tallyEnd ready inFlight ended (normalTally_labels once few) outcome, releasedAt leftIff,
      fun either => ?_, ?_, ?_, fun gone empty => ?_, fun gone some_ => ?_⟩
    · by_cases some_ : left
      · exact (Part.releaseTally_left_custody (p := s.toPart.tallied _) (leftIff.2 some_)).trans releases
      · have empty := tallyShowsEmpty_labels.2 (either.resolve_left some_)
        exact (Part.releaseTally_empty (p := s.toPart.tallied _) (mt leftIff.1 some_) empty).1.trans releases
    · have flag := Part.releaseExceptions_dwellCapped (p := s.toPart.tallied (.labels ls)) (t := .labels ls) (rs := rs)
      rw [← exceptions, leavingEq] at flag
      exact flag
    · have flag := Part.releaseExceptions_noChamberReading (p := s.toPart.tallied (.labels ls)) (t := .labels ls) (rs := rs)
      rw [← exceptions, leavingEq] at flag
      exact flag.trans (or_congr_right (and_congr_right' excess_unavailable_iff))
    · exact (Part.releaseTally_empty (p := s.toPart.tallied _) (mt leftIff.1 gone) (tallyShowsEmpty_labels.2 empty)).2
    · have some' : tallyShowsEmpty (.labels ls) = false := Bool.not_eq_true _ ▸ mt tallyShowsEmpty_labels.1 some_
      intro cleared staged
      have clears : (s.toPart.tallied (.labels ls)).releaseCleared (.labels ls)  = cleared :=
        congrArg (fun c => (s.toPart.withCustody c).withHatch (s.toPart.tallied (.labels ls)).hatch.released) releases
      obtain ⟨custody, hatch⟩ := Part.releaseTally_staged (p := s.toPart.tallied _) (mt leftIff.1 gone) some'
      rw [clears] at custody hatch
      exact ⟨custody, congrArg (fun x : HatchContext => { x with tallyLeaf := none, startTally := .no }) hatch⟩
  · have overfullIff := CustodyTable.stays_overfull (c := s.custody) (st := .stagedIn) (batch := h.batch)
    refine ⟨_, exec_tallyEnd ready inFlight ended rfl outcome,
      releasedAt (overfullIff.trans (exists_congr fun r => and_congr_right' (and_congr_left' (inBatchIff r)))),
      (s.toPart.tallied .overfull).releaseTally_overfull_custody, ?_, fun all => ?_⟩
    · refine (congrArg Part.exceptions ((s.toPart.tallied .overfull).releaseTally_only _) :).trans ?_
      exact (congrArg Part.exceptions (Part.releaseExceptions_none (p := s.toPart.tallied .overfull)
        (Part.leaving_overfull _ rs)) :)
    · refine Part.releaseTally_overfull_gone (p := s.toPart.tallied .overfull) fun left => ?_
      obtain ⟨r, mem, held, _⟩ := overfullIff.1 left
      exact all r mem ((inBatchIff r).1 held)

end Sys2Proof.Machine
end
